-- ==== Sys2Proof/Word.lean ====
section
/-! DEFINITION. The word types of the JK240's links and counters.  Quantities of the ship (masses, positions,
moments) are exact integers in the spec and stand as `Nat` and `Int`; a bit vector stands only where the spec
gives the machine bits: the bytes of a frame, its check, the notice bit map, and the two counts that wrap. -/

namespace Sys2Proof

/-- One character of a station link: 8 data bits (R173). -/
abbrev Byte := BitVec 8

/-- The check of a frame (R173) and the notice bit map (R189). -/
abbrev Word16 := BitVec 16

/-- A 32-bit count that wraps: the timebase (R18) and the input generations (R70). -/
abbrev Count32 := BitVec 32

end Sys2Proof
end

