-- ==== Sys2Proof/Data.lean ====
section
/-! DEFINITION. The data the spec names that is neither a command nor the engine's running state: links, cranes,
positions, the ship data set (R1, R2) and the settings set (R12). -/

namespace Sys2Proof

/-- The four station links (R173): L0 planning, L1 crane 1, L2 crane 2, L3 ballast. -/
inductive Link where
  | l0 | l1 | l2 | l3
deriving DecidableEq, Repr, Inhabited

/-- The ship's two cranes. -/
inductive CraneId where
  | one | two
deriving DecidableEq, Repr, Inhabited

/-- A position (x, y, z) in millimetres (00_scope 2.1). -/
structure Pos where
  x : Int
  y : Int
  z : Int
deriving DecidableEq, Repr, Inhabited

/-- A location: a position and the index of the stowage area it lies in (R19, R22). -/
structure Loc where
  pos  : Pos
  area : Nat
deriving DecidableEq, Repr, Inhabited

/-- A lot's footprint, in millimetres (R19). -/
structure Footprint where
  length  : Nat
  breadth : Nat
deriving DecidableEq, Repr, Inhabited

/-- Records kept by number: the pairs (number, record), numbers strictly rising (see `Table.wf` in Ops). -/
abbrev Table (α : Type) := List (Nat × α)

/-! ### The ship data set (R1, R2) -/

structure Particulars where
  lbp         : Nat
  halfBreadth : Nat
  maxDraft    : Nat
  maxDisp     : Nat
deriving DecidableEq, Repr, Inhabited

/-- SECTIONS: the boundary positions X0 to XN; N is one less than their number. -/
structure Sections where
  xs : List Int
deriving DecidableEq, Repr, Inhabited

structure Lightship where
  mass   : Nat
  cg     : Pos
  masses : List Nat
deriving DecidableEq, Repr, Inhabited

structure HydroRow where
  draft : Nat
  disp  : Nat
  km    : Nat
  lcb   : Int
  lcf   : Int
  mtcm  : Nat
deriving DecidableEq, Repr, Inhabited

/-- TANK: the geometry of one tank. -/
structure TankGeom where
  sec      : Nat
  capacity : Nat
  lcg      : Int
  tcg      : Int
  bottom   : Int
  height   : Nat
  inertia  : Nat
deriving DecidableEq, Repr, Inhabited

structure Area where
  xMin        : Int
  xMax        : Int
  yMin        : Int
  yMax        : Int
  maxMass     : Nat
  maxPressure : Nat
deriving DecidableEq, Repr, Inhabited

/-- CRANE: the present flag is kept as written, 0 or 1. -/
structure Crane where
  present  : Nat
  boomMass : Nat
  pivot    : Pos
  park     : Pos
deriving DecidableEq, Repr, Inhabited

structure Strength where
  shear : Nat
  hog   : Nat
  sag   : Nat
deriving DecidableEq, Repr, Inhabited

/-- A ship data set: an entry that is unwritten is absent (R1). -/
structure ShipData where
  particulars : Option Particulars
  sections    : Option Sections
  lightship   : Option Lightship
  hydro       : Table HydroRow
  buoyancy    : Table (List Nat)
  tanks       : Table TankGeom
  areas       : Table Area
  cranes      : Table Crane
  strength    : Table Strength
deriving DecidableEq, Repr, Inhabited

/-! ### The settings set (R12) -/

/-- ADVISORY, CAUTION, STOP in rising order. -/
inductive Severity where
  | advisory | caution | stop
deriving DecidableEq, Repr, Inhabited

/-- The sixteen check classes of chapter 6. -/
inductive CheckClass where
  | c1 | c2 | c3 | c4 | c5 | c6 | c7 | c8 | c9 | c10 | c11 | c12 | c13 | c14 | c15 | c16
deriving DecidableEq, Repr, Inhabited

/-- The suspension trigger (R119). -/
inductive Trigger where
  | never | caution | stop
deriving DecidableEq, Repr, Inhabited

/-- The mode of an alarm line (R126). -/
inductive LineMode where
  | off | follow | manual
deriving DecidableEq, Repr, Inhabited

/-- The five fields of a limit set (R99). -/
structure LimitSet where
  gmMin    : Nat
  heelMax  : Nat
  trimMax  : Nat
  draftMax : Nat
  dispMax  : Nat
deriving DecidableEq, Repr, Inhabited

/-- The severity map (R110): one severity for each check class. -/
structure SeverityMap where
  c1 : Severity
  c2 : Severity
  c3 : Severity
  c4 : Severity
  c5 : Severity
  c6 : Severity
  c7 : Severity
  c8 : Severity
  c9 : Severity
  c10 : Severity
  c11 : Severity
  c12 : Severity
  c13 : Severity
  c14 : Severity
  c15 : Severity
  c16 : Severity
deriving DecidableEq, Repr, Inhabited

/-- The settings of R12, one field an item; the three read-only items are not settings. -/
structure Settings where
  seaDensity       : Nat
  harbour          : LimitSet
  lift             : LimitSet
  severity         : SeverityMap
  trigger          : Trigger
  gateThreshold    : Severity
  cautionMode      : LineMode
  stopMode         : LineMode
  cautionLevel     : Bool
  stopLevel        : Bool
  interlock1       : Bool
  interlock2       : Bool
  pairingTimeout   : Nat
  requestTimeout   : Nat
  clearanceValid   : Nat
  hookStale        : Nat
  tankStale        : Nat
  confirmCount     : Nat
  onFraction       : Nat
  offFraction      : Nat
  discrepancyTol   : Nat
  overrunTol       : Nat
  untracked        : Nat
  wIn              : Nat
  wOut             : Nat
deriving DecidableEq, Repr, Inhabited

end Sys2Proof
end

