-- ==== Sys2Proof/Config.lean ====
section
/-! DEFINITION. The constants the part fixes, each with the rule that states it, and the free values: constants with
no body, of which nothing can be proved. -/

namespace Sys2Proof.Config

/-- R19: slots of the lot table. -/
abbrev lotSlots : Nat := 512
/-- R84: frames of the trial stack. -/
abbrev maxFrames : Nat := 4
/-- R84: move entries of the shared pool. -/
abbrev poolEntries : Nat := 64
/-- R91: moves in one Add Moves. -/
abbrev maxBatch : Nat := 8
/-- R112: entries of a violation list. -/
abbrev listEntries : Nat := 48
/-- R174: frames of an inbound queue, and places of an outbound queue. -/
abbrev linkPlaces : Nat := 16
/-- R173: the greatest payload of a station frame. -/
abbrev maxPayload : Nat := 240
/-- R174, R117: where the saturating counts stop. -/
abbrev countCap : Nat := 65535
/-- R161: entries of the transfer table; R171: records of the ending log. -/
abbrev maxTransfers : Nat := 4
/-- R157: readings in one Tank Report. -/
abbrev maxReadings : Nat := 12
/-- R41, R44: bytes of a snapshot or image page, and the last page number. -/
abbrev pageBytes : Nat := 224
abbrev lastPage : Nat := 78
/-- R12: the default of each draft and displacement maximum, the largest value the field can carry. -/
abbrev maxField : Nat := 4294967295
/-- R53: the standard sea density, fixed in the part. -/
abbrev stdDensity : Nat := 1025
/-- R148: the greatest hook load a plausible report carries. -/
abbrev maxHookLoad : Nat := 2000000
/-- R173: the first byte of a frame. -/
abbrev mark : Byte := 0xA7#8

/-- FREE VALUE (log 3).  The contents an interrupted commit leaves in the stored ship data set, from what the set
held, what was being written and the ordinal of the interruption: R6 says only 'partly old and partly new'. -/
opaque tornShipData : Nat → ShipData → ShipData → ShipData

/-- FREE VALUE (log 3).  The same for an interrupted Store Settings. -/
opaque tornSettings : Nat → Settings → Settings → Settings

/-- FREE VALUE (log 11).  Whether the refusal of a frame command at admission carries the depth and the pool: R84 says
that every reply to these commands does, whatever its status, R180 that a refusal at admission carries the status
alone, and no rule says which gives way.  Nothing can be proved of it, so what is proved holds under either rule. -/
opaque figuresAtAdmission : Bool

end Sys2Proof.Config
end

