-- ==== Sys2Proof/Syntax.lean ====
section
/-! DEFINITION. The commands of the block, one constructor of `Instr` for each row of spec/opcode_table.json.

The rows are of two kinds.  A STATION REQUEST reaches the engine as a frame of one of the four links: its constructor
carries the link, the frame's tag and the request's fields as chapter 11 lays them out.  Every other row is an EVENT
of the engine itself or of its pins and lines.  `Request` is the station request alone: what a taken frame's kind and
payload spell (Decode), which is how TAKE_FRAME reaches the same meanings. -/

namespace Sys2Proof

/-- Plan Lot (R23, R191). -/
structure PlanLotArgs where
  lot       : Nat
  mass      : Nat
  target    : Loc
  footprint : Option Footprint
deriving DecidableEq, Repr, Inhabited

/-- Place Lot (R25, R191). -/
structure PlaceLotArgs where
  lot       : Nat
  mass      : Option Nat
  position  : Loc
  footprint : Option Footprint
deriving DecidableEq, Repr, Inhabited

/-- A tank target: contents and density (R37). -/
structure Target where
  contents : Nat
  density  : Nat
deriving DecidableEq, Repr, Inhabited

/-- The tandem part of Request Lift: the other crane as coded, and this crane's share (R190). -/
structure TandemArgs where
  other : Nat
  share : Nat
deriving DecidableEq, Repr, Inhabited

/-- Request Lift (R133, R190); the direction is as coded. -/
structure RequestLiftArgs where
  lot     : Nat
  dir     : Nat
  worst   : Pos
  landing : Option Loc
  tandem  : Option TandemArgs
deriving DecidableEq, Repr, Inhabited

/-- Landing Report (R152, R191): aboard or ashore, and the location when one is carried. -/
structure LandingArgs where
  aboard   : Bool
  location : Option Loc
deriving DecidableEq, Repr, Inhabited

/-- One character on a receive line: its data bits, and whether its stop bit was high (R176). -/
structure RxChar where
  value  : Byte
  stopOk : Bool
deriving DecidableEq, Repr, Inhabited

/-- A station request: the kind of a request frame together with the fields of its payload (R190, R191).  Coded
fields stand as the code carried.  The payloads whose form the command's own rule judges (R2, R91, R157) stand as
bytes. -/
inductive Request where
  | enterConfiguration
  | writeShipData (block index : Nat) (entry : List Byte)
  | readShipData (block index : Nat)
  | commitShipData
  | writeSetting (item value : Nat)
  | readSetting (item : Nat)
  | storeSettings
  | controlLine (line mode level : Nat)
  | clearLineStatus (selection : Nat)
  | restart
  | planLot (a : PlanLotArgs)
  | unplanLot (lot : Nat)
  | placeLot (a : PlaceLotArgs)
  | removeLot (lot : Nat)
  | markDischarge (lot : Nat)
  | unmarkDischarge (lot : Nat)
  | acceptWeight (lot : Nat)
  | readLot (lot : Nat)
  | querySlot (slot : Nat)
  | insertInSequence (lot dir place : Nat)
  | removeFromSequence (lot : Nat)
  | readSequence (page : Nat)
  | setTankManual (tank contents density : Nat)
  | setTankTarget (tank : Nat) (target : Option Target)
  | openFrame
  | addMoves (payload : List Byte)
  | dropFrame
  | foldFrame
  | readResults (context part page clear : Nat)
  | readViolations (context page : Nat)
  | readRecords
  | acknowledgeRecords
  | suspendWork
  | resumeWork
  | openSnapshot
  | readSnapshotPage (page : Nat)
  | closeSnapshot
  | writeImagePage (page : Nat) (data : List Byte)
  | applyImage
  | requestLift (a : RequestLiftArgs)
  | cancelLift
  | hookReport (load : Nat) (tip : Pos)
  | landingReport (a : LandingArgs)
  | readLiftStatus
  | tankReport (payload : List Byte)
  | requestTransfer (source destination mass : Nat)
  | endTransfer (transfer : Nat)
  | cancelTransfer (transfer : Nat)
  | readTransfers (part : Nat)
  | setNoticeMask (events mode : Nat)
  | readNotices
deriving DecidableEq, Repr, Inhabited

/-- The commands: one constructor for each row of spec/opcode_table.json, in the table's order. -/
inductive Instr where
  | powerOn
  | restartLine
  | endOfInitializing
  | timebaseAdvance
  | enterConfiguration (l : Link) (tag : Byte)
  | writeShipData (l : Link) (tag : Byte) (block index : Nat) (entry : List Byte)
  | readShipData (l : Link) (tag : Byte) (block index : Nat)
  | commitShipData (l : Link) (tag : Byte)
  | commitCompletion
  | writeSetting (l : Link) (tag : Byte) (item value : Nat)
  | readSetting (l : Link) (tag : Byte) (item : Nat)
  | storeSettings (l : Link) (tag : Byte)
  | storeSettingsCompletion
  | controlLine (l : Link) (tag : Byte) (line mode level : Nat)
  | clearLineStatus (l : Link) (tag : Byte) (selection : Nat)
  | restart (l : Link) (tag : Byte)
  | planLot (l : Link) (tag : Byte) (a : PlanLotArgs)
  | unplanLot (l : Link) (tag : Byte) (lot : Nat)
  | placeLot (l : Link) (tag : Byte) (a : PlaceLotArgs)
  | removeLot (l : Link) (tag : Byte) (lot : Nat)
  | markDischarge (l : Link) (tag : Byte) (lot : Nat)
  | unmarkDischarge (l : Link) (tag : Byte) (lot : Nat)
  | acceptWeight (l : Link) (tag : Byte) (lot : Nat)
  | readLot (l : Link) (tag : Byte) (lot : Nat)
  | querySlot (l : Link) (tag : Byte) (slot : Nat)
  | insertInSequence (l : Link) (tag : Byte) (lot dir place : Nat)
  | removeFromSequence (l : Link) (tag : Byte) (lot : Nat)
  | readSequence (l : Link) (tag : Byte) (page : Nat)
  | setTankManual (l : Link) (tag : Byte) (tank contents density : Nat)
  | setTankTarget (l : Link) (tag : Byte) (tank : Nat) (target : Option Target)
  | openFrame (l : Link) (tag : Byte)
  | addMoves (l : Link) (tag : Byte) (payload : List Byte)
  | dropFrame (l : Link) (tag : Byte)
  | foldFrame (l : Link) (tag : Byte)
  | readResults (l : Link) (tag : Byte) (context part page clear : Nat)
  | readViolations (l : Link) (tag : Byte) (context page : Nat)
  | readRecords (l : Link) (tag : Byte)
  | acknowledgeRecords (l : Link) (tag : Byte)
  | suspendWork (l : Link) (tag : Byte)
  | resumeWork (l : Link) (tag : Byte)
  | openSnapshot (l : Link) (tag : Byte)
  | openSnapshotCompletion
  | readSnapshotPage (l : Link) (tag : Byte) (page : Nat)
  | closeSnapshot (l : Link) (tag : Byte)
  | writeImagePage (l : Link) (tag : Byte) (page : Nat) (data : List Byte)
  | applyImage (l : Link) (tag : Byte)
  | readLiftStatus (l : Link) (tag : Byte)
  | readTransfers (l : Link) (tag : Byte) (part : Nat)
  | setNoticeMask (l : Link) (tag : Byte) (events mode : Nat)
  | readNotices (l : Link) (tag : Byte)
  | requestLift (l : Link) (tag : Byte) (a : RequestLiftArgs)
  | cancelLift (l : Link) (tag : Byte)
  | hookReport (l : Link) (tag : Byte) (load : Nat) (tip : Pos)
  | landingReport (l : Link) (tag : Byte) (a : LandingArgs)
  | pairingTimeout (c : CraneId)
  | requestTimeout (c : CraneId)
  | clearanceLapse
  | craneBecomesStale (c : CraneId)
  | tankReport (l : Link) (tag : Byte) (payload : List Byte)
  | tankBecomesStale (tank : Nat)
  | requestTransfer (l : Link) (tag : Byte) (source destination mass : Nat)
  | transferRequestTimeout (transfer : Nat)
  | endTransfer (l : Link) (tag : Byte) (transfer : Nat)
  | cancelTransfer (l : Link) (tag : Byte) (transfer : Nat)
  | publication
  | hookPassComplete
  | predictionCompletion
  | frameReceived (l : Link) (chars : List RxChar)
  | characterGapTimeout (l : Link)
  | lineBreak (l : Link)
  | takeFrame (l : Link)
  | frameDeparture (l : Link)
  | powerLoss
  | receiveLineReturnToIdle (l : Link)
  | restartInputReturnToRest
deriving DecidableEq, Repr, Inhabited

end Sys2Proof
end

