-- ==== Sys2Proof/Decode.lean ====
section
/-! DEFINITION. From bytes to requests and back (chapter 11).  `Request.decode` is the form check of R188 and the
payload layouts of R190 and R191, total on any kind and any payload: it refuses (none) exactly what admission answers
with BAD_FORM.  `Request.encode` writes the payload of a request from the same layouts.

`decodeTableWord` is the host's: no row of spec/opcode_table.json gives bits to its command, so no word spells one. -/

namespace Sys2Proof

/-! ### Fields: most significant byte first (R187) -/

/-- The unsigned number that bytes spell, the first byte the most significant. -/
def beNat (bs : List Byte) : Nat := bs.foldl (fun acc b => acc * 256 + b.toNat) 0

/-- `n` in `w` bytes, the most significant first; the bits above are dropped. -/
def beBytes : Nat → Nat → List Byte
  | 0, _ => []
  | w + 1, n => BitVec.ofNat 8 (n / 256 ^ w) :: beBytes w n

/-- Two's complement reading of an unsigned field of `w` bytes. -/
def signedOf (w n : Nat) : Int := if 2 * n < 256 ^ w then (n : Int) else (n : Int) - (256 ^ w : Nat)

/-- `i` in `w` bytes, two's complement. -/
def beSigned (w : Nat) (i : Int) : List Byte := beBytes w (i % ((256 ^ w : Nat) : Int)).toNat

/-- The unsigned field of `w` bytes at byte `off` of a payload. -/
def fieldU (p : List Byte) (off w : Nat) : Nat := beNat ((p.drop off).take w)

/-- The signed field of `w` bytes at byte `off` of a payload. -/
def fieldS (p : List Byte) (off w : Nat) : Int := signedOf w (fieldU p off w)

/-- Bit `k` of the flags byte at `off`. -/
def flagAt (p : List Byte) (off k : Nat) : Bool := (fieldU p off 1).testBit k

/-- Three coordinates of four bytes each (R191). -/
def posAt (p : List Byte) (off : Nat) : Pos := ⟨fieldS p off 4, fieldS p (off + 4) 4, fieldS p (off + 8) 4⟩

def beBool (b : Bool) : Nat := if b then 1 else 0

/-- A flags byte from its bits, bit 0 first. -/
def flagsByte (bits : List Bool) : List Byte :=
  beBytes 1 ((bits.foldr (fun b acc => beBool b + 2 * acc) 0))

def posBytes (p : Pos) : List Byte := beSigned 4 p.x ++ beSigned 4 p.y ++ beSigned 4 p.z

def footBytes (f : Footprint) : List Byte := beBytes 2 f.length ++ beBytes 2 f.breadth

def zeroBytes (n : Nat) : List Byte := List.replicate n 0#8

/-! ### Request kinds (R190) -/

def Request.kind : Request → Byte
  | .enterConfiguration => 0x01#8
  | .writeShipData _ _ _ => 0x02#8
  | .readShipData _ _ => 0x03#8
  | .commitShipData => 0x04#8
  | .writeSetting _ _ => 0x05#8
  | .readSetting _ => 0x06#8
  | .storeSettings => 0x07#8
  | .controlLine _ _ _ => 0x08#8
  | .clearLineStatus _ => 0x09#8
  | .restart => 0x0A#8
  | .planLot _ => 0x10#8
  | .unplanLot _ => 0x11#8
  | .placeLot _ => 0x12#8
  | .removeLot _ => 0x13#8
  | .markDischarge _ => 0x14#8
  | .unmarkDischarge _ => 0x15#8
  | .acceptWeight _ => 0x16#8
  | .readLot _ => 0x17#8
  | .querySlot _ => 0x18#8
  | .insertInSequence _ _ _ => 0x19#8
  | .removeFromSequence _ => 0x1A#8
  | .readSequence _ => 0x1B#8
  | .setTankManual _ _ _ => 0x1C#8
  | .setTankTarget _ _ => 0x1D#8
  | .openFrame => 0x20#8
  | .addMoves _ => 0x21#8
  | .dropFrame => 0x22#8
  | .foldFrame => 0x23#8
  | .readResults _ _ _ _ => 0x28#8
  | .readViolations _ _ => 0x29#8
  | .readRecords => 0x2A#8
  | .acknowledgeRecords => 0x2B#8
  | .suspendWork => 0x2C#8
  | .resumeWork => 0x2D#8
  | .openSnapshot => 0x30#8
  | .readSnapshotPage _ => 0x31#8
  | .closeSnapshot => 0x32#8
  | .writeImagePage _ _ => 0x33#8
  | .applyImage => 0x34#8
  | .requestLift _ => 0x40#8
  | .cancelLift => 0x41#8
  | .hookReport _ _ => 0x42#8
  | .landingReport _ => 0x43#8
  | .readLiftStatus => 0x44#8
  | .tankReport _ => 0x48#8
  | .requestTransfer _ _ _ => 0x49#8
  | .endTransfer _ => 0x4A#8
  | .cancelTransfer _ => 0x4B#8
  | .readTransfers _ => 0x4C#8
  | .setNoticeMask _ _ => 0x50#8
  | .readNotices => 0x51#8

/-! ### Payloads (R190, R191) -/

def planLotPayload (a : PlanLotArgs) : List Byte :=
  beBytes 2 a.lot ++ flagsByte [a.footprint.isSome] ++ beBytes 1 a.target.area ++ beBytes 4 a.mass
    ++ posBytes a.target.pos ++ (match a.footprint with | some f => footBytes f | none => zeroBytes 4)

def planLotOf (p : List Byte) : PlanLotArgs :=
  { lot := fieldU p 0 2, mass := fieldU p 4 4, target := ⟨posAt p 8, fieldU p 3 1⟩,
    footprint := if flagAt p 2 0 then some ⟨fieldU p 20 2, fieldU p 22 2⟩ else none }

def placeLotPayload (a : PlaceLotArgs) : List Byte :=
  beBytes 2 a.lot ++ flagsByte [a.mass.isSome, a.footprint.isSome] ++ beBytes 1 a.position.area
    ++ beBytes 4 (a.mass.getD 0) ++ posBytes a.position.pos
    ++ (match a.footprint with | some f => footBytes f | none => zeroBytes 4)

def placeLotOf (p : List Byte) : PlaceLotArgs :=
  { lot := fieldU p 0 2, mass := if flagAt p 2 0 then some (fieldU p 4 4) else none,
    position := ⟨posAt p 8, fieldU p 3 1⟩,
    footprint := if flagAt p 2 1 then some ⟨fieldU p 20 2, fieldU p 22 2⟩ else none }

def requestLiftPayload (a : RequestLiftArgs) : List Byte :=
  beBytes 2 a.lot ++ beBytes 1 a.dir ++ flagsByte [a.landing.isSome, a.tandem.isSome] ++ posBytes a.worst
    ++ (match a.landing with | some l => posBytes l.pos ++ beBytes 1 l.area | none => zeroBytes 13)
    ++ (match a.tandem with | some t => beBytes 1 t.other ++ beBytes 4 t.share | none => zeroBytes 5)

def requestLiftOf (p : List Byte) : RequestLiftArgs :=
  { lot := fieldU p 0 2, dir := fieldU p 2 1, worst := posAt p 4,
    landing := if flagAt p 3 0 then some ⟨posAt p 16, fieldU p 28 1⟩ else none,
    tandem := if flagAt p 3 1 then some ⟨fieldU p 29 1, fieldU p 30 4⟩ else none }

def landingPayload (a : LandingArgs) : List Byte :=
  flagsByte [a.aboard, a.location.isSome]
    ++ (match a.location with | some l => posBytes l.pos ++ beBytes 1 l.area | none => zeroBytes 13)

def landingOf (p : List Byte) : LandingArgs :=
  { aboard := flagAt p 0 0, location := if flagAt p 0 1 then some ⟨posAt p 1, fieldU p 13 1⟩ else none }

/-- The payload a station sends for a request. -/
def Request.encode : Request → List Byte
  | .writeShipData b i e => beBytes 1 b ++ beBytes 1 i ++ e
  | .readShipData b i => beBytes 1 b ++ beBytes 1 i
  | .writeSetting i v => beBytes 1 i ++ beBytes 4 v
  | .readSetting i => beBytes 1 i
  | .controlLine l m v => beBytes 1 l ++ beBytes 1 m ++ beBytes 1 v
  | .clearLineStatus n => beBytes 1 n
  | .planLot a => planLotPayload a
  | .placeLot a => placeLotPayload a
  | .unplanLot n => beBytes 2 n
  | .removeLot n => beBytes 2 n
  | .markDischarge n => beBytes 2 n
  | .unmarkDischarge n => beBytes 2 n
  | .acceptWeight n => beBytes 2 n
  | .readLot n => beBytes 2 n
  | .querySlot n => beBytes 2 n
  | .removeFromSequence n => beBytes 2 n
  | .insertInSequence n d p => beBytes 2 n ++ beBytes 1 d ++ beBytes 2 p
  | .readSequence p => beBytes 1 p
  | .setTankManual t c d => beBytes 1 t ++ beBytes 4 c ++ beBytes 2 d
  | .setTankTarget t g =>
    beBytes 1 t ++ flagsByte [g.isSome]
      ++ (match g with | some g => beBytes 4 g.contents ++ beBytes 2 g.density | none => zeroBytes 6)
  | .addMoves p => p
  | .readResults c p n k => beBytes 1 c ++ beBytes 1 p ++ beBytes 1 n ++ beBytes 1 k
  | .readViolations c p => beBytes 1 c ++ beBytes 1 p
  | .readSnapshotPage p => beBytes 1 p
  | .writeImagePage p d => beBytes 1 p ++ d
  | .requestLift a => requestLiftPayload a
  | .hookReport n t => beBytes 4 n ++ posBytes t
  | .landingReport a => landingPayload a
  | .tankReport p => p
  | .requestTransfer s d m => beBytes 1 s ++ beBytes 1 d ++ beBytes 4 m
  | .endTransfer t => beBytes 1 t
  | .cancelTransfer t => beBytes 1 t
  | .readTransfers p => beBytes 1 p
  | .setNoticeMask e m => beBytes 2 e ++ beBytes 1 m
  | .enterConfiguration => []
  | .commitShipData => []
  | .storeSettings => []
  | .restart => []
  | .openFrame => []
  | .dropFrame => []
  | .foldFrame => []
  | .readRecords => []
  | .acknowledgeRecords => []
  | .suspendWork => []
  | .resumeWork => []
  | .openSnapshot => []
  | .closeSnapshot => []
  | .applyImage => []
  | .cancelLift => []
  | .readLiftStatus => []
  | .readNotices => []

/-- A request of fixed payload length `n` (R188). -/
def fixedLen (p : List Byte) (n : Nat) (r : Request) : Option Request := if p.length = n then some r else none

/-- The form check of admission (R179 step 1, R188) and the payload layouts: the request that a frame of kind `k` and
payload `p` carries, or none for a kind that names no request or a length the request does not permit. -/
def Request.decode (k : Byte) (p : List Byte) : Option Request :=
  match k.toNat with
  | 0x01 => fixedLen p 0 .enterConfiguration
  | 0x02 => if 2 ≤ p.length then some (.writeShipData (fieldU p 0 1) (fieldU p 1 1) (p.drop 2)) else none
  | 0x03 => fixedLen p 2 (.readShipData (fieldU p 0 1) (fieldU p 1 1))
  | 0x04 => fixedLen p 0 .commitShipData
  | 0x05 => fixedLen p 5 (.writeSetting (fieldU p 0 1) (fieldU p 1 4))
  | 0x06 => fixedLen p 1 (.readSetting (fieldU p 0 1))
  | 0x07 => fixedLen p 0 .storeSettings
  | 0x08 => fixedLen p 3 (.controlLine (fieldU p 0 1) (fieldU p 1 1) (fieldU p 2 1))
  | 0x09 => fixedLen p 1 (.clearLineStatus (fieldU p 0 1))
  | 0x0A => fixedLen p 0 .restart
  | 0x10 => fixedLen p 24 (.planLot (planLotOf p))
  | 0x11 => fixedLen p 2 (.unplanLot (fieldU p 0 2))
  | 0x12 => fixedLen p 24 (.placeLot (placeLotOf p))
  | 0x13 => fixedLen p 2 (.removeLot (fieldU p 0 2))
  | 0x14 => fixedLen p 2 (.markDischarge (fieldU p 0 2))
  | 0x15 => fixedLen p 2 (.unmarkDischarge (fieldU p 0 2))
  | 0x16 => fixedLen p 2 (.acceptWeight (fieldU p 0 2))
  | 0x17 => fixedLen p 2 (.readLot (fieldU p 0 2))
  | 0x18 => fixedLen p 2 (.querySlot (fieldU p 0 2))
  | 0x19 => fixedLen p 5 (.insertInSequence (fieldU p 0 2) (fieldU p 2 1) (fieldU p 3 2))
  | 0x1A => fixedLen p 2 (.removeFromSequence (fieldU p 0 2))
  | 0x1B => fixedLen p 1 (.readSequence (fieldU p 0 1))
  | 0x1C => fixedLen p 7 (.setTankManual (fieldU p 0 1) (fieldU p 1 4) (fieldU p 5 2))
  | 0x1D => fixedLen p 8 (.setTankTarget (fieldU p 0 1)
      (if flagAt p 1 0 then some ⟨fieldU p 2 4, fieldU p 6 2⟩ else none))
  | 0x20 => fixedLen p 0 .openFrame
  | 0x21 => if 29 ≤ p.length then some (.addMoves p) else none
  | 0x22 => fixedLen p 0 .dropFrame
  | 0x23 => fixedLen p 0 .foldFrame
  | 0x28 => fixedLen p 4 (.readResults (fieldU p 0 1) (fieldU p 1 1) (fieldU p 2 1) (fieldU p 3 1))
  | 0x29 => fixedLen p 2 (.readViolations (fieldU p 0 1) (fieldU p 1 1))
  | 0x2A => fixedLen p 0 .readRecords
  | 0x2B => fixedLen p 0 .acknowledgeRecords
  | 0x2C => fixedLen p 0 .suspendWork
  | 0x2D => fixedLen p 0 .resumeWork
  | 0x30 => fixedLen p 0 .openSnapshot
  | 0x31 => fixedLen p 1 (.readSnapshotPage (fieldU p 0 1))
  | 0x32 => fixedLen p 0 .closeSnapshot
  | 0x33 => fixedLen p 225 (.writeImagePage (fieldU p 0 1) (p.drop 1))
  | 0x34 => fixedLen p 0 .applyImage
  | 0x40 => fixedLen p 34 (.requestLift (requestLiftOf p))
  | 0x41 => fixedLen p 0 .cancelLift
  | 0x42 => fixedLen p 16 (.hookReport (fieldU p 0 4) (posAt p 4))
  | 0x43 => fixedLen p 14 (.landingReport (landingOf p))
  | 0x44 => fixedLen p 0 .readLiftStatus
  | 0x48 => if 8 ≤ p.length then some (.tankReport p) else none
  | 0x49 => fixedLen p 6 (.requestTransfer (fieldU p 0 1) (fieldU p 1 1) (fieldU p 2 4))
  | 0x4A => fixedLen p 1 (.endTransfer (fieldU p 0 1))
  | 0x4B => fixedLen p 1 (.cancelTransfer (fieldU p 0 1))
  | 0x4C => fixedLen p 1 (.readTransfers (fieldU p 0 1))
  | 0x50 => fixedLen p 3 (.setNoticeMask (fieldU p 0 2) (fieldU p 2 1))
  | 0x51 => fixedLen p 0 .readNotices
  | _ => none

/-- The host's question: the command a table word spells.  No row of spec/opcode_table.json gives bits, so none. -/
def decodeTableWord (_nbits _w : Nat) : Option Instr := none

end Sys2Proof
end

