-- ==== Sys2Proof/Machine/Defaults.lean ====
section
/-! DEFINITION. The values the spec gives the settings and the ship data before anything is written: the defaults of
R12 and R99, the floors and default severities of the class table of chapter 6, the empty ship data set of R1. -/

namespace Sys2Proof.Machine

/-- Chapter 6 class table, column Floor. -/
def floorOf : CheckClass → Severity
  | .c1 => .caution
  | .c2 => .caution
  | .c3 => .stop
  | .c4 => .advisory
  | .c5 => .caution
  | .c6 => .advisory
  | .c7 => .caution
  | .c8 => .caution
  | .c9 => .advisory
  | .c10 => .advisory
  | .c11 => .caution
  | .c12 => .advisory
  | .c13 => .advisory
  | .c14 => .advisory
  | .c15 => .advisory
  | .c16 => .advisory

/-- Chapter 6 class table, column Default. -/
def defaultSeverities : SeverityMap :=
  { c1 := .stop, c2 := .stop, c3 := .stop, c4 := .caution, c5 := .stop, c6 := .stop, c7 := .stop, c8 := .stop,
    c9 := .caution, c10 := .caution, c11 := .stop, c12 := .stop, c13 := .advisory, c14 := .caution,
    c15 := .caution, c16 := .caution }

/-- R99, column HARBOUR default; the draft and displacement maxima as R12 holds them. -/
def defaultHarbour : LimitSet :=
  { gmMin := 150, heelMax := 175, trimMax := 4000, draftMax := Config.maxField, dispMax := Config.maxField }

/-- R99, column LIFT default. -/
def defaultLift : LimitSet :=
  { gmMin := 300, heelMax := 875, trimMax := 4000, draftMax := Config.maxField, dispMax := Config.maxField }

/-- R12, column Default. -/
def defaultSettings : Settings :=
  { seaDensity := 1025, harbour := defaultHarbour, lift := defaultLift, severity := defaultSeverities,
    trigger := .stop, gateThreshold := .caution, cautionMode := .follow, stopMode := .follow,
    cautionLevel := false, stopLevel := false, interlock1 := true, interlock2 := true,
    pairingTimeout := 600, requestTimeout := 1200, clearanceValid := 3000, hookStale := 30, tankStale := 100,
    confirmCount := 3, onFraction := 900, offFraction := 100, discrepancyTol := 50, overrunTol := 20,
    untracked := 2000, wIn := 87, wOut := 175 }

/-- R1: a ship data set with every entry unwritten. -/
def unwrittenShipData : ShipData :=
  { particulars := none, sections := none, lightship := none, hydro := [], buoyancy := [], tanks := [],
    areas := [], cranes := [], strength := [] }

/-- R185: the default notice masks, as the bit map of R189 (MODE is bit 0, LIFT bit 5, TRANSFER bit 6). -/
def defaultMask : Link → Word16
  | .l0 => 0x0001#16
  | .l1 => 0x0021#16
  | .l2 => 0x0021#16
  | .l3 => 0x0041#16

end Sys2Proof.Machine
end

