-- ==== Sys2Proof/Machine/State.lean ====
section
/-! DEFINITION. The state of the engine, as plain data: everything the spec gives it, block by block, with the
rule that names each piece.  The fields that are the model's own are marked MODEL and named in the assumption log. -/

namespace Sys2Proof.Machine

/-- Two of a thing, one for each crane. -/
structure PerCrane (α : Type) where
  one : α
  two : α
deriving DecidableEq, Repr, Inhabited

/-! ### Modes, directions, lots (R7, R19) -/

/-- The operating mode. -/
inductive Mode where
  | initializing | unconfigured | configuration | service
deriving DecidableEq, Repr, Inhabited

/-- SETTINGS ORIGIN (R12). -/
inductive Origin where
  | stored | defaults
deriving DecidableEq, Repr, Inhabited

inductive Direction where
  | load | discharge
deriving DecidableEq, Repr, Inhabited

/-- What a lot was before LIFTING (R19). -/
inductive LotOrigin where
  | planned | aboard
deriving DecidableEq, Repr, Inhabited

/-- The state of a lot (R19); a FREE slot holds no record.  LIFTING carries its origin, its direction and its cranes. -/
inductive LotState where
  | planned
  | aboard
  | lifting (origin : LotOrigin) (dir : Direction) (crane1 crane2 : Bool)
deriving DecidableEq, Repr, Inhabited

/-- A lot record (R19).  `loc` is the one location the record carries: the target of a PLANNED lot and of a LIFTING
lot of direction LOAD, the position of an ABOARD lot and of a LIFTING lot of direction DISCHARGE. -/
structure Lot where
  id          : Nat
  state       : LotState
  declared    : Nat
  measured    : Option Nat
  loc         : Loc
  footprint   : Option Footprint
  mark        : Bool
  modified    : Bool
  discrepancy : Bool
deriving DecidableEq, Repr, Inhabited

/-- An entry of the stow sequence (R31). -/
structure SeqEntry where
  lot : Nat
  dir : Direction
deriving DecidableEq, Repr, Inhabited

/-- The source of a tank's contents (R35). -/
inductive TankSource where
  | none | gauged | manual
deriving DecidableEq, Repr, Inhabited

/-- A row of the tank table (R35).  `stale` is the tank's staleness as last judged (R160). -/
structure TankRow where
  contents : Nat
  density  : Nat
  source   : TankSource
  time     : Count32
  clamped  : Bool
  target   : Option Target
  transfer : Option Nat
  stale    : Bool
deriving DecidableEq, Repr, Inhabited

/-- R35, column 'Value after reset'. -/
def TankRow.fresh : TankRow :=
  { contents := 0, density := 1025, source := .none, time := 0, clamped := false, target := none,
    transfer := none, stale := false }

/-- The hook item of a crane (R38); the boom item follows from it and the crane's ship data. -/
structure HookItem where
  load : Nat
  tip  : Pos
deriving DecidableEq, Repr, Inhabited

/-- The loading condition (chapter 2): the lot table by slot, the stow sequence, the tank table by tank index, and
the hook items. -/
structure Condition where
  lots  : Table Lot
  seq   : List SeqEntry
  tanks : Table TankRow
  hooks : PerCrane HookItem
deriving DecidableEq, Repr, Inhabited

/-- What Open Snapshot captures (R42): the time, the lots by slot, the sequence entries with whether their lots were
LIFTING, and the rows of the written tanks. -/
structure Snapshot where
  time  : Count32
  lots  : Table Lot
  seq   : List (SeqEntry × Bool)
  tanks : Table TankRow
deriving DecidableEq, Repr, Inhabited

/-! ### Evaluation (chapters 3 and 4) -/

/-- The contexts that hold a published set (R69). -/
inductive Ctx where
  | actual | plan | trial
deriving DecidableEq, Repr, Inhabited

/-- What an item carries besides its mass and its point (R49). -/
inductive ItemKind where
  | lightship
  | boom
  | hook
  | lot (index : Nat) (area : Option Nat) (footprint : Option Footprint)
  | tank (index sec fsm : Nat)
deriving DecidableEq, Repr, Inhabited

/-- An item of a pass (R49). -/
structure Item where
  mass : Nat
  pos  : Pos
  kind : ItemKind
deriving DecidableEq, Repr, Inhabited

/-- The class of a quantity (R65). -/
inductive RClass where
  | empty | valid | outOfTable | undefined
deriving DecidableEq, Repr, Inhabited

/-- A published quantity: its class and its value. -/
structure Quantity where
  cls : RClass
  val : Int
deriving DecidableEq, Repr, Inhabited

/-- An entry of the pressure list (R64); the area is the lot item's area index, which C10 needs (R106). -/
structure PressureEntry where
  index    : Nat
  area     : Nat
  pressure : Int
deriving DecidableEq, Repr, Inhabited

/-- A result set formed by a completed pass (R68).  `clamped` is the CLAMPED condition of R66. -/
structure ResultSet where
  gen       : Count32
  tainted   : Bool
  clamped   : Bool
  w         : Quantity
  wStd      : Quantity
  lcg       : Quantity
  tcg       : Quantity
  vcg       : Quantity
  fsm       : Quantity
  fsc       : Quantity
  km        : Quantity
  gm        : Quantity
  heel      : Quantity
  trim      : Quantity
  draft     : Quantity
  draftAft  : Quantity
  draftFore : Quantity
  lcb       : Quantity
  lcf       : Quantity
  mtcm      : Quantity
  strength  : RClass
  cuts      : List (Int × Int)
  areas     : List (Nat × Int)
  pressures : List PressureEntry
deriving DecidableEq, Repr, Inhabited

/-- The three sticky arithmetic flags (R66). -/
structure Sticky where
  outOfTable : Bool
  undefined  : Bool
  clamped    : Bool
deriving DecidableEq, Repr, Inhabited

/-- What ACTUAL, PLAN and TRIAL each hold (R69).  No published set is the EMPTY set. -/
structure CtxState where
  gen    : Count32
  dirty  : Bool
  set    : Option ResultSet
  sticky : Sticky
deriving DecidableEq, Repr, Inhabited

/-- The outcome of a violation (R102). -/
inductive VOutcome where
  | low | high | unordered | event
deriving DecidableEq, Repr, Inhabited

/-- A violation of a judgement (R111). -/
structure Violation where
  cls     : CheckClass
  index   : Nat
  outcome : VOutcome
  value   : Int
  limit   : Int
deriving DecidableEq, Repr, Inhabited

/-- The name of a limit set (R99). -/
inductive LimitName where
  | harbour | lift
deriving DecidableEq, Repr, Inhabited

/-- A pass in flight with all it captured (R48, R72, R100): the items, ρ_sea, the generation, the limit set taken with
its values, the TAINTED mark, and the violations of C12 to C16, which are judged from captured facts (R108, R109). -/
structure Pass where
  ctx       : Ctx
  gen       : Count32
  items     : List Item
  rho       : Nat
  limitName : LimitName
  limits    : LimitSet
  tainted   : Bool
  events    : List Violation
deriving DecidableEq, Repr, Inhabited

/-- The cranes of one lift: the single or lead crane, and the partner of a tandem lift. -/
structure LiftRef where
  lead    : CraneId
  partner : Option CraneId
deriving DecidableEq, Repr, Inhabited

/-- A prediction demand names the request it is held for (R78): the re-check of the standing clearance, a lift entry by
its single or lead crane, or a transfer entry by its id. -/
inductive DemandKey where
  | recheck
  | lift (lead : CraneId)
  | transfer (id : Nat)
deriving DecidableEq, Repr, Inhabited

/-- The phase of a prediction in flight (R76). -/
inductive Phase where
  | hook | landed | transfer
deriving DecidableEq, Repr, Inhabited

/-- A prediction in flight with all it captured (R79, R101).  `first` is the set of the HOOK pass once it is complete;
`lastItems` are the items of the LANDED or the TRANSFER pass. -/
structure Prediction where
  key        : DemandKey
  phase      : Phase
  gen        : Count32
  rho        : Nat
  hookItems  : List Item
  lastItems  : List Item
  hookLimits : LimitSet
  lastLimits : LimitSet
  tainted    : Bool
  first      : Option ResultSet
deriving DecidableEq, Repr, Inhabited

/-- The state of the evaluation unit (R76). -/
inductive UnitState where
  | idle
  | pass (p : Pass)
  | predicting (p : Prediction)
deriving DecidableEq, Repr, Inhabited

/-- The evaluation unit (chapter 4): the contexts, the unit's state, the alternation count (R77) and the WAITING
demands (R78; an IN FLIGHT demand is the key of the prediction in flight). -/
structure Eval where
  actual  : CtxState
  plan    : CtxState
  trial   : CtxState
  unit    : UnitState
  alt     : Nat
  waiting : List DemandKey
deriving DecidableEq, Repr, Inhabited

/-! ### Trial frames (chapter 5) -/

/-- A move's kind and fields (R85). -/
inductive MoveBody where
  | plan (lot mass : Nat) (target : Loc) (footprint : Option Footprint)
  | unplan (lot : Nat)
  | tankTarget (tank : Nat) (target : Option Target)
deriving DecidableEq, Repr, Inhabited

/-- A move's expectation (R86). -/
inductive Expect where
  | absent
  | planned (mass : Nat) (target : Loc) (footprint : Option Footprint)
  | tank (target : Option Target)
deriving DecidableEq, Repr, Inhabited

structure Move where
  body   : MoveBody
  expect : Expect
deriving DecidableEq, Repr, Inhabited

/-! ### The limit monitor (chapters 6 and 7) -/

/-- An entry of a violation list (R112). -/
structure ListEntry where
  viol      : Violation
  firstSeen : Count32
  late      : Bool
deriving DecidableEq, Repr, Inhabited

/-- A context's violation list and kept judgement (R111, R112, R115). -/
structure ViolationList where
  kept      : List Violation
  entries   : List ListEntry
  gen       : Count32
  limitName : LimitName
deriving DecidableEq, Repr, Inhabited

/-- A filled FIRST or NEXT record (R117). -/
structure ViolationRecord where
  viol : Violation
  time : Count32
  gen  : Count32
deriving DecidableEq, Repr, Inhabited

/-- The cause of a suspension, with the trigger pair when it is AUTOMATIC (R119). -/
inductive SuspendCause where
  | automatic (cls : CheckClass) (index : Nat)
  | commanded
deriving DecidableEq, Repr, Inhabited

/-- The suspension record while suspension is in force (R119). -/
structure Suspension where
  cause : SuspendCause
  time  : Count32
deriving DecidableEq, Repr, Inhabited

/-- One alarm line: its present state and its latched status (R126, R127). -/
structure AlarmLine where
  asserted : Bool
  latched  : Bool
deriving DecidableEq, Repr, Inhabited

structure Monitor where
  actual     : ViolationList
  plan       : ViolationList
  trial      : ViolationList
  first      : Option ViolationRecord
  next       : Option ViolationRecord
  stopCount  : Nat
  suspension : Option Suspension
  caution    : AlarmLine
  stop       : AlarmLine
deriving DecidableEq, Repr, Inhabited

/-! ### The lift gate (chapter 8) -/

/-- The state of a crane's lift record (R131). -/
inductive LiftState where
  | idle | pairing | requested | cleared | hoisted | lowering | setDown
deriving DecidableEq, Repr, Inhabited

inductive Role where
  | single | lead | partner
deriving DecidableEq, Repr, Inhabited

/-- A pending reason, with the worst class for LIMITS (R131). -/
inductive Pending where
  | none | exclusive | suspended | stale | window
  | limits (worst : CheckClass)
deriving DecidableEq, Repr, Inhabited

/-- How a lift or a transfer ended (R131, R171). -/
inductive EndKind where
  | completed | cancelled | timeout | badMode | ended
deriving DecidableEq, Repr, Inhabited

/-- The last outcome of a crane (R131). -/
structure LastOutcome where
  kind   : EndKind
  lot    : Nat
  reason : Option Pending
deriving DecidableEq, Repr, Inhabited

/-- Where a load was landed (R152). -/
inductive Landing where
  | aboard (loc : Loc)
  | ashore
deriving DecidableEq, Repr, Inhabited

/-- The lot of a lift: its id and its slot (R131). -/
structure LotRef where
  id   : Nat
  slot : Nat
deriving DecidableEq, Repr, Inhabited

/-- A crane lift record (R131). -/
structure LiftRecord where
  state        : LiftState
  role         : Option Role
  lot          : Option LotRef
  dir          : Option Direction
  worst        : Option Pos
  plan         : Option Loc
  other        : Option CraneId
  share        : Option Nat
  deviation    : Bool
  counter      : Nat
  confirmed    : Option Nat
  offConfirmed : Bool
  landing      : Option Landing
  setDownTip   : Option Pos
  timer        : Option Count32
  reason       : Option Pending
  lastReport   : Option Count32
  lastOutcome  : Option LastOutcome
deriving DecidableEq, Repr, Inhabited

/-- R131, column 'After reset' (the last outcome is absent after power-on and RESTART). -/
def LiftRecord.reset : LiftRecord :=
  { state := .idle, role := none, lot := none, dir := none, worst := none, plan := none, other := none,
    share := none, deviation := false, counter := 0, confirmed := none, offConfirmed := false, landing := none,
    setDownTip := none, timer := none, reason := none, lastReport := none, lastOutcome := none }

/-- An entry of the gate queue (R138). -/
inductive GateEntry where
  | lift (r : LiftRef)
  | transfer (id : Nat)
deriving DecidableEq, Repr, Inhabited

/-- The lift gate: the crane lift records, each crane's staleness as last judged (R149), the gate queue, the exclusive
lift slot (R132), the hoist window (R141, true is OPEN) and the HOIST-INHIBIT lines (R129, true is asserted). -/
structure Gate where
  recs    : PerCrane LiftRecord
  stale   : PerCrane Bool
  queue   : List GateEntry
  slot    : Option LiftRef
  window  : Bool
  inhibit : PerCrane Bool
deriving DecidableEq, Repr, Inhabited

/-! ### The ballast unit (chapter 9) -/

/-- An end of a transfer (R161). -/
inductive End where
  | sea
  | tank (index : Nat)
deriving DecidableEq, Repr, Inhabited

/-- The state of a transfer with the fields present in it (R161); the starting contents are those of the source and
of the destination, absent for SEA. -/
inductive TransferPhase where
  | requested (reason : Pending) (timer : Count32)
  | granted (startSource startDest : Option Nat) (time : Count32) (amount : Nat) (overrun : Bool)
deriving DecidableEq, Repr, Inhabited

structure Transfer where
  source  : End
  dest    : End
  planned : Nat
  phase   : TransferPhase
deriving DecidableEq, Repr, Inhabited

/-- A record of the ending log (R171). -/
structure EndRecord where
  id      : Nat
  source  : End
  dest    : End
  planned : Nat
  kind    : EndKind
  reason  : Option Pending
  amount  : Option Nat
  overrun : Bool
  time    : Count32
deriving DecidableEq, Repr, Inhabited

/-- The ballast unit: the transfer table by id, the next-id counter (R161) and the ending log, newest first (R171). -/
structure Ballast where
  transfers : Table Transfer
  nextId    : Nat
  log       : List EndRecord
deriving DecidableEq, Repr, Inhabited

/-! ### The station links (chapter 10) -/

/-- The notice events (R182), in the order of their bits (R189). -/
inductive Event where
  | mode | results | violationNew | violationCleared | suspend | lift | transfer | stale
  | queueOverrun | frameError | trialFault | record
deriving DecidableEq, Repr, Inhabited

/-- A station frame without its mark, length and check, which follow from it (R173). -/
structure Frame where
  kind    : Byte
  tag     : Byte
  payload : List Byte
deriving DecidableEq, Repr, Inhabited

/-- The receiver's state with the bytes it has kept (R175). -/
inductive Receiver where
  | hunt
  | header (got : List Byte)
  | body (len : Nat) (kind tag : Byte) (got : List Byte)
  | check (kind tag : Byte) (payload : List Byte) (first : Option Byte)
deriving DecidableEq, Repr, Inhabited

/-- The command a reserved place waits for: the one being served, or an operation in flight (R178). -/
inductive Awaits where
  | current | commit | store | snapshot
deriving DecidableEq, Repr, Inhabited

/-- A place of an outbound queue (R174): reserved for a reply, a reply frame, a notice frame whose transmission has not
begun, or the frame in transmission. -/
inductive OutPlace where
  | reserved (a : Awaits) (kind tag : Byte)
  | reply (f : Frame)
  | notice
  | sending (f : Frame)
deriving DecidableEq, Repr, Inhabited

/-- A link unit (R174).  `level` is the notice mode, true for LEVEL.  `lineLow` is set by a break and holds until the
receive line is back at its idle level (R186). -/
structure LinkUnit where
  rx         : Receiver
  lineLow    : Bool
  inbound    : List Frame
  outbound   : List OutPlace
  dropCount  : Nat
  errorCount : Nat
  notices    : Word16
  mask       : Word16
  level      : Bool
  owed       : Bool
deriving DecidableEq, Repr, Inhabited

/-- R174, column 'After power-on, RESTART'. -/
def LinkUnit.reset (l : Link) : LinkUnit :=
  { rx := .hunt, lineLow := false, inbound := [], outbound := [], dropCount := 0, errorCount := 0,
    notices := 0, mask := defaultMask l, level := true, owed := false }

structure Links where
  l0 : LinkUnit
  l1 : LinkUnit
  l2 : LinkUnit
  l3 : LinkUnit
deriving DecidableEq, Repr, Inhabited

/-! ### Non-volatile memory (R6) -/

/-- A stored set: its validity marker and its contents. -/
structure Stored (α : Type) where
  marker   : Bool
  contents : α
deriving DecidableEq, Repr, Inhabited

structure Nvm where
  ship     : Stored ShipData
  settings : Stored Settings
deriving DecidableEq, Repr, Inhabited

/-! ### The whole state -/

structure State where
  /-- MODEL: power is applied (POWER_ON, POWER_LOSS; log 4). -/
  powered      : Bool
  /-- The RESTART input has been at rest since it last acted (R194). -/
  restartArmed : Bool
  mode         : Mode
  /-- The timebase (R18). -/
  time         : Count32
  nvm          : Nvm
  /-- The working copy of the ship data (R1). -/
  ship         : ShipData
  /-- The working settings (R12) and SETTINGS ORIGIN. -/
  settings     : Settings
  origin       : Origin
  /-- A Commit Ship Data, a Store Settings is in flight (R5, R16). -/
  committing   : Bool
  storing      : Bool
  links        : Links
  cond         : Condition
  /-- The snapshot held, and the one an Open Snapshot in flight is writing (R41, R42). -/
  snapshot     : Option Snapshot
  snapshotOp   : Option Snapshot
  /-- The image buffer: the pages present, by number (R44). -/
  image        : Table (List Byte)
  eval         : Eval
  /-- The trial stack, bottom frame first (R84). -/
  frames       : List (List Move)
  monitor      : Monitor
  gate         : Gate
  ballast      : Ballast
  /-- MODEL: how many free values the run has used (log 3). -/
  freeCount    : Nat
  /-- MODEL: the commands that wait, first in, first out (log 1). -/
  pending      : List Instr
deriving DecidableEq, Repr

/-- The engine raises no fault: the spec describes no event that stops it.  A wrong command is answered with a status,
a wrong frame is counted and dropped, and loss of power is a state (`powered`) that POWER_ON ends. -/
inductive Fault where
deriving DecidableEq, Repr

/-- Why the model would not run a command. -/
inductive Refusal where
  /-- Raised by an arm of `exec` for a row that has no meaning yet.  No arm raises it: every row is modelled.  Safe. -/
  | notModelled (mnemonic : String)
deriving DecidableEq, Repr

/-- R82, R66: a context after power-on. -/
def CtxState.reset : CtxState :=
  { gen := 0, dirty := false, set := none, sticky := ⟨false, false, false⟩ }

/-- R114, R115: an emptied violation list. -/
def ViolationList.emptied : ViolationList :=
  { kept := [], entries := [], gen := 0, limitName := .harbour }

/-- The engine right after its first power-on (R11, R7): INITIALIZING, both markers of the non-volatile memory clear
(1.7, a factory-fresh engine), every block at its power-on value, no command waiting.  The working ship data, the
working settings and SETTINGS ORIGIN have no value in the spec until the first INITIALIZING ends: unwritten, the defaults
and DEFAULTS here (DESIGN CHOICE, log 4). -/
def State.reset : State :=
  { powered := true
    restartArmed := true
    mode := .initializing
    time := 0
    nvm := { ship := ⟨false, unwrittenShipData⟩, settings := ⟨false, defaultSettings⟩ }
    ship := unwrittenShipData
    settings := defaultSettings
    origin := .defaults
    committing := false
    storing := false
    links := ⟨LinkUnit.reset .l0, LinkUnit.reset .l1, LinkUnit.reset .l2, LinkUnit.reset .l3⟩
    cond := { lots := [], seq := [], tanks := [], hooks := ⟨⟨0, ⟨0, 0, 0⟩⟩, ⟨0, ⟨0, 0, 0⟩⟩⟩ }
    snapshot := none
    snapshotOp := none
    image := []
    eval := { actual := .reset, plan := .reset, trial := .reset, unit := .idle, alt := 0, waiting := [] }
    frames := []
    monitor :=
      { actual := .emptied, plan := .emptied, trial := .emptied, first := none, next := none, stopCount := 0,
        suspension := none, caution := ⟨false, false⟩, stop := ⟨false, false⟩ }
    gate :=
      { recs := ⟨.reset, .reset⟩, stale := ⟨false, false⟩, queue := [], slot := none, window := false,
        inhibit := ⟨true, true⟩ }
    ballast := { transfers := [], nextId := 1, log := [] }
    freeCount := 0
    pending := [] }

end Sys2Proof.Machine
end

