-- ==== Sys2Proof/Machine/Ops.lean ====
section
/-! DEFINITION. The named operations over the state that every family of commands shares: tables kept by number,
rounding, ages, generations, the notice set and the queues of a link, the lot table and the stow sequence. -/

namespace Sys2Proof

/-! ### Cranes, severities and classes -/

def CraneId.num : CraneId → Nat
  | .one => 1
  | .two => 2

def CraneId.opposite : CraneId → CraneId
  | .one => .two
  | .two => .one

/-- R173: crane 1 is on L1 and crane 2 on L2. -/
def CraneId.link : CraneId → Link
  | .one => .l1
  | .two => .l2

def Severity.rank : Severity → Nat
  | .advisory => 1
  | .caution => 2
  | .stop => 3

/-- `a` is at or above `b`. -/
def Severity.atLeast (a b : Severity) : Bool := decide (b.rank ≤ a.rank)

def CheckClass.num : CheckClass → Nat
  | .c1 => 1
  | .c2 => 2
  | .c3 => 3
  | .c4 => 4
  | .c5 => 5
  | .c6 => 6
  | .c7 => 7
  | .c8 => 8
  | .c9 => 9
  | .c10 => 10
  | .c11 => 11
  | .c12 => 12
  | .c13 => 13
  | .c14 => 14
  | .c15 => 15
  | .c16 => 16

def allClasses : List CheckClass :=
  [.c1, .c2, .c3, .c4, .c5, .c6, .c7, .c8, .c9, .c10, .c11, .c12, .c13, .c14, .c15, .c16]

def SeverityMap.get (m : SeverityMap) : CheckClass → Severity
  | .c1 => m.c1
  | .c2 => m.c2
  | .c3 => m.c3
  | .c4 => m.c4
  | .c5 => m.c5
  | .c6 => m.c6
  | .c7 => m.c7
  | .c8 => m.c8
  | .c9 => m.c9
  | .c10 => m.c10
  | .c11 => m.c11
  | .c12 => m.c12
  | .c13 => m.c13
  | .c14 => m.c14
  | .c15 => m.c15
  | .c16 => m.c16

def SeverityMap.set (m : SeverityMap) (c : CheckClass) (v : Severity) : SeverityMap :=
  match c with
  | .c1 => { m with c1 := v }
  | .c2 => { m with c2 := v }
  | .c3 => { m with c3 := v }
  | .c4 => { m with c4 := v }
  | .c5 => { m with c5 := v }
  | .c6 => { m with c6 := v }
  | .c7 => { m with c7 := v }
  | .c8 => { m with c8 := v }
  | .c9 => { m with c9 := v }
  | .c10 => { m with c10 := v }
  | .c11 => { m with c11 := v }
  | .c12 => { m with c12 := v }
  | .c13 => { m with c13 := v }
  | .c14 => { m with c14 := v }
  | .c15 => { m with c15 := v }
  | .c16 => { m with c16 := v }

end Sys2Proof

namespace Sys2Proof.Machine

/-- The three outcomes of a step of this machine. -/
abbrev Outcome := Host.Outcome State Fault Refusal

/-! ### Cranes and links -/

/-- The crane of a crane link (10.4: a crane command acts on the crane of the link it arrives on). -/
def craneOf : Link → CraneId
  | .l2 => .two
  | _ => .one

def bothCranes : List CraneId := [.one, .two]

def allLinks : List Link := [.l0, .l1, .l2, .l3]

def PerCrane.get {α : Type} (p : PerCrane α) : CraneId → α
  | .one => p.one
  | .two => p.two

def PerCrane.set {α : Type} (p : PerCrane α) (c : CraneId) (a : α) : PerCrane α :=
  match c with
  | .one => { p with one := a }
  | .two => { p with two := a }

def Links.get (ls : Links) : Link → LinkUnit
  | .l0 => ls.l0
  | .l1 => ls.l1
  | .l2 => ls.l2
  | .l3 => ls.l3

def Links.set (ls : Links) (l : Link) (u : LinkUnit) : Links :=
  match l with
  | .l0 => { ls with l0 := u }
  | .l1 => { ls with l1 := u }
  | .l2 => { ls with l2 := u }
  | .l3 => { ls with l3 := u }

/-- The cranes of a lift, the single or lead crane first. -/
def LiftRef.cranes (r : LiftRef) : List CraneId :=
  match r.partner with
  | some p => [r.lead, p]
  | none => [r.lead]

/-! ### Tables kept by number

A table is a list of (number, record) pairs, numbers strictly rising: equal tables are equal lists. -/

/-- The canonical form: numbers strictly rising, and all at least `lo`. -/
def tableWfFrom {α : Type} : Nat → Table α → Bool
  | _, [] => true
  | lo, (k, _) :: rest => decide (lo ≤ k) && tableWfFrom (k + 1) rest

def tableWf {α : Type} (t : Table α) : Bool := tableWfFrom 0 t

/-- The record kept under a number. -/
def tget {α : Type} : Table α → Nat → Option α
  | [], _ => none
  | (k, a) :: rest, n => if k = n then some a else tget rest n

/-- Keep a record under a number, in place of one that stood there. -/
def tput {α : Type} : Table α → Nat → α → Table α
  | [], n, a => [(n, a)]
  | (k, b) :: rest, n, a =>
    if n < k then (n, a) :: (k, b) :: rest
    else if n = k then (n, a) :: rest
    else (k, b) :: tput rest n a

/-- Remove the record kept under a number. -/
def tdrop {α : Type} (t : Table α) (n : Nat) : Table α := t.filter (fun p => p.1 != n)

def tmap {α : Type} (f : α → α) (t : Table α) : Table α := t.map (fun p => (p.1, f p.2))

/-- The lowest number from `n` upward that the table does not hold, given that all below are passed. -/
def firstGap {α : Type} : Nat → Table α → Nat
  | n, [] => n
  | n, (k, _) :: rest => if k = n then firstGap (n + 1) rest else n

/-- The records 0, 1, 2, … up to the first number the table does not hold. -/
def leading {α : Type} : Nat → Table α → List α
  | _, [] => []
  | n, (k, a) :: rest => if k = n then a :: leading (n + 1) rest else []

/-! ### Arithmetic (R47) -/

/-- R47: the quotient by a positive divisor, rounded to the nearest integer, halves away from zero. -/
def rdiv (n d : Int) : Int :=
  if n < 0 then -((2 * (-n) + d) / (2 * d)) else (2 * n + d) / (2 * d)

/-- R35: the capacity mass of a tank at a density, rounded down. -/
def capacityMass (g : TankGeom) (density : Nat) : Nat := g.capacity * density / 1000

/-- 00_scope 2.3: the age of a recorded time, modulo 2^32. -/
def age (now t : Count32) : Nat := (now - t).toNat

/-- R174, R117: a saturating count rises by one. -/
def bump (n : Nat) : Nat := if n < Config.countCap then n + 1 else n

/-! ### Codes of 11.3 that several blocks write -/

def Mode.code : Mode → Nat
  | .initializing => 0
  | .unconfigured => 1
  | .configuration => 2
  | .service => 3

/-- The status codes (R180, 11.3). -/
inductive Status where
  | done | accepted | adjusted | badForm | badRole | badMode | badValue | notFound | duplicate | full | state
  | busy | conflict | stillViolated | sequence | badImage | stackFault | timeout
deriving DecidableEq, Repr, Inhabited

def Status.code : Status → Byte
  | .done => 0x00#8
  | .accepted => 0x01#8
  | .adjusted => 0x02#8
  | .badForm => 0x03#8
  | .badRole => 0x04#8
  | .badMode => 0x05#8
  | .badValue => 0x06#8
  | .notFound => 0x07#8
  | .duplicate => 0x08#8
  | .full => 0x09#8
  | .state => 0x0A#8
  | .busy => 0x0B#8
  | .conflict => 0x0C#8
  | .stillViolated => 0x0D#8
  | .sequence => 0x0E#8
  | .badImage => 0x0F#8
  | .stackFault => 0x10#8
  | .timeout => 0x11#8

/-- A reply: its status and the values after it (R180, R193). -/
structure Reply where
  status : Status
  values : List Byte
deriving DecidableEq, Repr, Inhabited

/-- A reply of its status alone. -/
def Reply.bare (st : Status) : Reply := ⟨st, []⟩

/-- How a command ends (R178, R180): answered with nothing changed that another block watches (a read, a refusal),
answered after a change, become an operation in flight, or unanswered (an admitted Restart). -/
inductive Answer where
  | quiet (r : Reply)
  | reply (r : Reply)
  | inFlight (a : Awaits)
  | silent
deriving DecidableEq, Repr, Inhabited

/-- A command refused, or answered, with its status alone and no effect. -/
def refuse (st : Status) (s : State) : State × Answer := (s, .quiet (Reply.bare st))

/-- A command done, its status alone in the reply. -/
def doneWith (s : State) : State × Answer := (s, .reply (Reply.bare .done))

/-! ### Frames on the wire (R173) -/

/-- One bit of the check: the polynomial x^16 + x^12 + x^5 + 1. -/
def crcShift (r : Word16) : Word16 := if r.msb then (r <<< 1) ^^^ 0x1021#16 else r <<< 1

/-- One byte enters the check, most significant bit first. -/
def crcByte (r : Word16) (b : Byte) : Word16 :=
  let r := r ^^^ ((b.setWidth 16) <<< 8)
  crcShift (crcShift (crcShift (crcShift (crcShift (crcShift (crcShift (crcShift r)))))))

/-- R173: the CRC-16 of a run of bytes; the register starts at 0xFFFF. -/
def crc (bs : List Byte) : Word16 := bs.foldl crcByte 0xFFFF#16

/-- The length byte of a frame. -/
def Frame.lenByte (f : Frame) : Byte := BitVec.ofNat 8 f.payload.length

/-- The bytes the check covers: length, kind, tag and payload. -/
def Frame.checked (f : Frame) : List Byte := f.lenByte :: f.kind :: f.tag :: f.payload

/-- R173, R189: the whole frame as its bytes on the line. -/
def Frame.wire (f : Frame) : List Byte :=
  Config.mark :: (f.checked ++ beBytes 2 (crc f.checked).toNat)

/-! ### The notice set of a link (R182, R183) -/

/-- R189: the bit of an event. -/
def Event.bit : Event → Nat
  | .mode => 0
  | .results => 1
  | .violationNew => 2
  | .violationCleared => 3
  | .suspend => 4
  | .lift => 5
  | .transfer => 6
  | .stale => 7
  | .queueOverrun => 8
  | .frameError => 9
  | .trialFault => 10
  | .record => 11

def Event.flag (e : Event) : Word16 := BitVec.twoPow 16 e.bit

/-- R182: the events a link has, as a bit map: twelve on L0, eleven on the others. -/
def linkEvents : Link → Word16
  | .l0 => 0x0FFF#16
  | _ => 0x0BFF#16

def OutPlace.isNotice : OutPlace → Bool
  | .notice => true
  | _ => false

def OutPlace.isSending : OutPlace → Bool
  | .sending _ => true
  | _ => false

def LinkUnit.hasFree (u : LinkUnit) : Bool := decide (u.outbound.length < Config.linkPlaces)

/-- R183: a notice frame becomes due: merged with a waiting one, placed at the tail, or owed. -/
def LinkUnit.noticeDue (u : LinkUnit) : LinkUnit :=
  if u.outbound.any OutPlace.isNotice then u
  else if u.hasFree then { u with outbound := u.outbound ++ [.notice] }
  else { u with owed := true }

/-- R182, R183: latch an event. -/
def LinkUnit.latch (e : Event) (u : LinkUnit) : LinkUnit :=
  if u.notices.getLsbD e.bit then u
  else
    let v := { u with notices := u.notices ||| e.flag }
    if u.mask.getLsbD e.bit then v.noticeDue else v

/-- R183, R189: the notice frame, with the set and the mode as they stand when its transmission begins. -/
def LinkUnit.noticeFrame (m : Mode) (u : LinkUnit) : Frame :=
  { kind := 0xFF#8, tag := 0#8, payload := beBytes 2 u.notices.toNat ++ beBytes 1 m.code }

/-- R181, R180: the first place that holds a frame begins to send; empty reserved places are passed. -/
def beginSending (n : Frame) : List OutPlace → List OutPlace
  | [] => []
  | .reply f :: rest => .sending f :: rest
  | .notice :: rest => .sending n :: rest
  | p :: rest => p :: beginSending n rest

/-- R181: the link begins its next frame when none is being sent. -/
def LinkUnit.startTx (m : Mode) (u : LinkUnit) : LinkUnit :=
  if u.outbound.any OutPlace.isSending then u
  else { u with outbound := beginSending (u.noticeFrame m) u.outbound }

/-- R178: reserve a place for the reply to the command being taken. -/
def LinkUnit.reserve (k t : Byte) (u : LinkUnit) : LinkUnit :=
  { u with outbound := u.outbound ++ [.reserved .current k t] }

/-- Change the first place reserved for `a`. -/
def onReserved (a : Awaits) (f : Byte → Byte → OutPlace) : List OutPlace → List OutPlace
  | [] => []
  | .reserved b k t :: rest => if a = b then f k t :: rest else .reserved b k t :: onReserved a f rest
  | p :: rest => p :: onReserved a f rest

/-- R180: the reply frame to a request of kind `k` and tag `t`. -/
def replyFrame (r : Reply) (k t : Byte) : Frame :=
  { kind := k ||| 0x80#8, tag := t, payload := r.status.code :: r.values }

/-- R180: the reply fills the place reserved for it; with no such place (the link was reset) it is not sent. -/
def LinkUnit.fill (a : Awaits) (r : Reply) (u : LinkUnit) : LinkUnit :=
  { u with outbound := onReserved a (fun k t => .reply (replyFrame r k t)) u.outbound }

/-- R178: the command being served becomes an operation in flight and keeps its place. -/
def LinkUnit.keepPlace (a : Awaits) (u : LinkUnit) : LinkUnit :=
  { u with outbound := onReserved .current (fun k t => .reserved a k t) u.outbound }

/-- R177: a complete frame joins the inbound queue, or is dropped when the queue is full. -/
def LinkUnit.receive (f : Frame) (u : LinkUnit) : LinkUnit :=
  if u.inbound.length < Config.linkPlaces then { u with inbound := u.inbound ++ [f] }
  else { u with dropCount := bump u.dropCount }.latch .queueOverrun

/-! ### Updates of the state -/

def State.onLink (l : Link) (f : LinkUnit → LinkUnit) (s : State) : State :=
  { s with links := s.links.set l (f (s.links.get l)) }

/-- R182: latch an event on a link. -/
def latch (e : Event) (l : Link) (s : State) : State := s.onLink l (LinkUnit.latch e)

/-- Latch an event on each of some links. -/
def latchOn (e : Event) (ls : List Link) (s : State) : State := ls.foldl (fun s l => latch e l s) s

/-- R182: LIFT goes to the links of the lift's cranes and to L0. -/
def latchLift (cs : List CraneId) (s : State) : State := latchOn .lift (cs.map CraneId.link ++ [.l0]) s

/-- R182: TRANSFER goes to L3 and L0. -/
def latchTransfer (s : State) : State := latchOn .transfer [.l3, .l0] s

/-- R181: every link with no frame in transmission begins its next one. -/
def startAllTx (s : State) : State :=
  allLinks.foldl (fun s l => s.onLink l (LinkUnit.startTx s.mode)) s

def State.liftRec (s : State) (c : CraneId) : LiftRecord := s.gate.recs.get c

def State.onRec (c : CraneId) (f : LiftRecord → LiftRecord) (s : State) : State :=
  { s with gate := { s.gate with recs := s.gate.recs.set c (f (s.gate.recs.get c)) } }

def State.onRecs (cs : List CraneId) (f : LiftRecord → LiftRecord) (s : State) : State :=
  cs.foldl (fun s c => s.onRec c f) s

def State.setStale (c : CraneId) (b : Bool) (s : State) : State :=
  { s with gate := { s.gate with stale := s.gate.stale.set c b } }

def State.setQueue (q : List GateEntry) (s : State) : State := { s with gate := { s.gate with queue := q } }

def State.setSlot (r : Option LiftRef) (s : State) : State := { s with gate := { s.gate with slot := r } }

def State.setLots (t : Table Lot) (s : State) : State := { s with cond := { s.cond with lots := t } }

def State.setSeq (q : List SeqEntry) (s : State) : State := { s with cond := { s.cond with seq := q } }

def State.setTanks (t : Table TankRow) (s : State) : State := { s with cond := { s.cond with tanks := t } }

def State.setHook (c : CraneId) (h : HookItem) (s : State) : State :=
  { s with cond := { s.cond with hooks := s.cond.hooks.set c h } }

def State.setTransfers (t : Table Transfer) (s : State) : State :=
  { s with ballast := { s.ballast with transfers := t } }

/-! ### Input generations (R70, R71) -/

/-- R70, R71: an advance adds one and sets the dirty flag. -/
def CtxState.advance (c : CtxState) : CtxState := { c with gen := c.gen + 1, dirty := true }

def advanceActual (s : State) : State := { s with eval := { s.eval with actual := s.eval.actual.advance } }

def advanceTrial (s : State) : State := { s with eval := { s.eval with trial := s.eval.trial.advance } }

/-- R40: TRIAL advances with PLAN while the trial stack holds a frame. -/
def advancePlan (s : State) : State :=
  let s := { s with eval := { s.eval with plan := s.eval.plan.advance } }
  if s.frames.isEmpty then s else advanceTrial s

/-- Advance ACTUAL and PLAN as said. -/
def advance (actual plan : Bool) (s : State) : State :=
  let s := if actual then advanceActual s else s
  if plan then advancePlan s else s

/-- R13: ACTUAL, PLAN and TRIAL each advance. -/
def advanceAllContexts (s : State) : State :=
  advanceTrial { (advanceActual s) with eval := { (advanceActual s).eval with plan := s.eval.plan.advance } }

/-! ### Prediction demands (R78) -/

def UnitState.predictsFor (u : UnitState) (k : DemandKey) : Bool :=
  match u with
  | .predicting p => decide (p.key = k)
  | _ => false

/-- R78: post a demand, or merge with the one held. -/
def postDemand (k : DemandKey) (s : State) : State :=
  if s.eval.waiting.contains k || s.eval.unit.predictsFor k then s
  else { s with eval := { s.eval with waiting := s.eval.waiting ++ [k] } }

/-- R78, R83: withdraw a demand; one IN FLIGHT is abandoned at once. -/
def withdrawDemand (k : DemandKey) (s : State) : State :=
  { s with eval :=
    { s.eval with
      waiting := s.eval.waiting.filter (fun j => decide (j ≠ k))
      unit := if s.eval.unit.predictsFor k then .idle else s.eval.unit } }

/-! ### Ship data read by the other blocks (R1) -/

def State.crane? (s : State) (c : CraneId) : Option Crane := tget s.ship.cranes c.num

/-- R1: absent when the CRANE entry is written with the present flag clear. -/
def State.craneAbsent (s : State) (c : CraneId) : Bool :=
  match s.crane? c with
  | some k => decide (k.present = 0)
  | none => false

/-- R38: the crane has items: its CRANE entry is written with the present flag set. -/
def State.cranePresent? (s : State) (c : CraneId) : Option Crane :=
  match s.crane? c with
  | some k => if k.present = 0 then none else some k
  | none => none

def State.tankGeom? (s : State) (t : Nat) : Option TankGeom := tget s.ship.tanks t

/-- The row of a tank; a written tank that nothing has touched since the reset has the row of R35. -/
def State.tankRow (s : State) (t : Nat) : TankRow := (tget s.cond.tanks t).getD TankRow.fresh

def State.setTankRow (t : Nat) (r : TankRow) (s : State) : State := s.setTanks (tput s.cond.tanks t r)

/-! ### The lot table and the stow sequence (R19, R20, R31) -/

/-- The slot and the record of a lot id. -/
def findLot (t : Table Lot) (id : Nat) : Option (Nat × Lot) := t.find? (fun p => decide (p.2.id = id))

/-- R20: the lowest FREE slot. -/
def freeSlot (t : Table Lot) : Option Nat :=
  let n := firstGap 0 t
  if n < Config.lotSlots then some n else none

def LotState.isLifting : LotState → Bool
  | .lifting _ _ _ _ => true
  | _ => false

def lotIsLifting (t : Table Lot) (id : Nat) : Bool :=
  match findLot t id with
  | some (_, k) => k.state.isLifting
  | none => false

/-- R31: the number of the head entry, the first whose lot is not LIFTING. -/
def seqHead (t : Table Lot) (q : List SeqEntry) : Option Nat :=
  q.findIdx? (fun e => !lotIsLifting t e.lot)

/-- R31: an entry leaves and the later ones close up. -/
def seqDrop (lot : Nat) (dir : Direction) (q : List SeqEntry) : List SeqEntry :=
  q.filter (fun e => decide (¬ (e.lot = lot ∧ e.dir = dir)))

/-- Insert an entry at a place, or at the end when the place is not less than the entry count (R32). -/
def seqInsert (p : Nat) (e : SeqEntry) (q : List SeqEntry) : List SeqEntry := q.take p ++ e :: q.drop p

/-- The mass ACTUAL counts for a lot aboard: measured when present, else declared (R39, R154). -/
def Lot.mass (k : Lot) : Nat := k.measured.getD k.declared

/-- Freshness of a crane's hook report (R149). -/
def hookFresh (s : State) (c : CraneId) : Bool :=
  match (s.liftRec c).lastReport with
  | some t => decide (age s.time t < s.settings.hookStale)
  | none => false

/-- Freshness of a tank's reading (R160). -/
def tankFresh (s : State) (t : Nat) : Bool :=
  decide ((s.tankRow t).source = .gauged) && decide (age s.time (s.tankRow t).time < s.settings.tankStale)

/-- The lift a crane takes part in, by its record (R131); the other crane of a tandem lift is the only other one
(R133). -/
def liftOf (s : State) (c : CraneId) : LiftRef :=
  match (s.liftRec c).role with
  | some .partner => ⟨c.opposite, some c⟩
  | some .lead => if (s.liftRec c).state = .pairing then ⟨c, none⟩ else ⟨c, some c.opposite⟩
  | _ => ⟨c, none⟩

/-- R149: the states in which a crane can be stale. -/
def LiftState.pastRequested : LiftState → Bool
  | .cleared => true
  | .hoisted => true
  | .lowering => true
  | .setDown => true
  | _ => false

def State.suspended (s : State) : Bool := s.monitor.suspension.isSome

/-- R140: the published ACTUAL set is TAINTED; an EMPTY set is not (R67). -/
def actualTainted (s : State) : Bool :=
  match s.eval.actual.set with
  | some r => r.tainted
  | none => false

/-- A sort by a numeric key, stable. -/
def insertBy {α : Type} (key : α → Nat) (a : α) : List α → List α
  | [] => [a]
  | b :: rest => if key a ≤ key b then a :: b :: rest else b :: insertBy key a rest

def sortBy {α : Type} (key : α → Nat) (l : List α) : List α := l.foldr (fun a acc => insertBy key a acc) []

end Sys2Proof.Machine
end

