-- ==== Sys2Proof/Machine/Operands.lean ====
section
/-! DEFINITION. The operands of the commands: the ranges of 00_scope 2.1, R2, R12 and R19, the location tests of R22,
the coded operands of 11.3, and the three payloads whose form the command's own rule judges (a ship data entry, a batch
of moves, a run of readings). -/

namespace Sys2Proof.Machine

/-! ### Ranges -/

def inRange (lo hi v : Int) : Bool := decide (lo ≤ v) && decide (v ≤ hi)

def inRangeN (lo hi v : Nat) : Bool := decide (lo ≤ v) && decide (v ≤ hi)

/-- 00_scope 2.1: the ranges of x, y and z. -/
def xOk (x : Int) : Bool := inRange (-20000) 300000 x
def yOk (y : Int) : Bool := inRange (-30000) 30000 y
def zOk (z : Int) : Bool := inRange (-5000) 80000 z

def posOk (p : Pos) : Bool := xOk p.x && yOk p.y && zOk p.z

/-- R22: the three tests of a carried location. -/
def locOk (ship : ShipData) (l : Loc) : Bool :=
  posOk l.pos &&
  match tget ship.areas l.area with
  | some a => inRange a.xMin a.xMax l.pos.x && inRange a.yMin a.yMax l.pos.y
  | none => false

/-- R19: the ranges of a lot's fields. -/
def lotIdOk (n : Nat) : Bool := inRangeN 1 65535 n
def declaredOk (n : Nat) : Bool := inRangeN 1 2000000 n
def measuredOk (n : Nat) : Bool := inRangeN 1 4000000 n
def footOk (f : Footprint) : Bool := inRangeN 1 65000 f.length && inRangeN 1 65000 f.breadth

/-- R35, R36: the range of a tank's density. -/
def densityOk (n : Nat) : Bool := inRangeN 600 2000 n

/-! ### Coded operands (11.3) -/

def dirOf : Nat → Option Direction
  | 1 => some .load
  | 2 => some .discharge
  | _ => none

def ctxOf : Nat → Option Ctx
  | 0 => some .actual
  | 1 => some .plan
  | 2 => some .trial
  | _ => none

def severityOf : Nat → Option Severity
  | 1 => some .advisory
  | 2 => some .caution
  | 3 => some .stop
  | _ => none

def triggerOf : Nat → Option Trigger
  | 0 => some .never
  | 2 => some .caution
  | 3 => some .stop
  | _ => none

def lineModeOf : Nat → Option LineMode
  | 0 => some .off
  | 1 => some .follow
  | 2 => some .manual
  | _ => none

def boolOf : Nat → Option Bool
  | 0 => some false
  | 1 => some true
  | _ => none

def craneNum : Nat → Option CraneId
  | 1 => some .one
  | 2 => some .two
  | _ => none

/-- A transfer end: a tank index 0 to 47, or SEA (0xFF). -/
def endOf (n : Nat) : Option End :=
  if n = 255 then some .sea else if n ≤ 47 then some (.tank n) else none

def triggerCode : Trigger → Nat
  | .never => 0
  | .caution => 2
  | .stop => 3

def lineModeCode : LineMode → Nat
  | .off => 0
  | .follow => 1
  | .manual => 2

/-! ### Setting items (R12, 11.3) -/

def limitGet (w : LimitSet) : Nat → Nat
  | 0 => w.gmMin
  | 1 => w.heelMax
  | 2 => w.trimMax
  | 3 => w.draftMax
  | _ => w.dispMax

def limitPut (w : LimitSet) (k v : Nat) : LimitSet :=
  match k with
  | 0 => { w with gmMin := v }
  | 1 => { w with heelMax := v }
  | 2 => { w with trimMax := v }
  | 3 => { w with draftMax := v }
  | _ => { w with dispMax := v }

/-- The class whose severity an item code names (0x11 to 0x20). -/
def classOfItem (code : Nat) : Option CheckClass :=
  if 0x11 ≤ code then allClasses[code - 0x11]? else none

/-- The working value of a setting by its item code; none for a code that names no stored setting. -/
def settingGet (w : Settings) (code : Nat) : Option Nat :=
  match code with
  | 0x01 => some w.seaDensity
  | 0x02 => some (limitGet w.harbour 0)
  | 0x03 => some (limitGet w.lift 0)
  | 0x04 => some (limitGet w.harbour 1)
  | 0x05 => some (limitGet w.lift 1)
  | 0x06 => some (limitGet w.harbour 2)
  | 0x07 => some (limitGet w.lift 2)
  | 0x08 => some (limitGet w.harbour 3)
  | 0x09 => some (limitGet w.lift 3)
  | 0x0A => some (limitGet w.harbour 4)
  | 0x0B => some (limitGet w.lift 4)
  | 0x21 => some (triggerCode w.trigger)
  | 0x22 => some w.gateThreshold.rank
  | 0x23 => some (lineModeCode w.cautionMode)
  | 0x24 => some (lineModeCode w.stopMode)
  | 0x25 => some (beBool w.cautionLevel)
  | 0x26 => some (beBool w.stopLevel)
  | 0x27 => some (beBool w.interlock1)
  | 0x28 => some (beBool w.interlock2)
  | 0x29 => some w.pairingTimeout
  | 0x2A => some w.requestTimeout
  | 0x2B => some w.clearanceValid
  | 0x2C => some w.hookStale
  | 0x2D => some w.tankStale
  | 0x2E => some w.confirmCount
  | 0x2F => some w.onFraction
  | 0x30 => some w.offFraction
  | 0x31 => some w.discrepancyTol
  | 0x32 => some w.overrunTol
  | 0x33 => some w.untracked
  | 0x34 => some w.wIn
  | 0x35 => some w.wOut
  | _ => (classOfItem code).map (fun c => (w.severity.get c).rank)

/-- The settings with an item set to a value that names one of its values. -/
def settingPut (w : Settings) (code v : Nat) : Settings :=
  match code with
  | 0x01 => { w with seaDensity := v }
  | 0x02 => { w with harbour := limitPut w.harbour 0 v }
  | 0x03 => { w with lift := limitPut w.lift 0 v }
  | 0x04 => { w with harbour := limitPut w.harbour 1 v }
  | 0x05 => { w with lift := limitPut w.lift 1 v }
  | 0x06 => { w with harbour := limitPut w.harbour 2 v }
  | 0x07 => { w with lift := limitPut w.lift 2 v }
  | 0x08 => { w with harbour := limitPut w.harbour 3 v }
  | 0x09 => { w with lift := limitPut w.lift 3 v }
  | 0x0A => { w with harbour := limitPut w.harbour 4 v }
  | 0x0B => { w with lift := limitPut w.lift 4 v }
  | 0x21 => { w with trigger := (triggerOf v).getD w.trigger }
  | 0x22 => { w with gateThreshold := (severityOf v).getD w.gateThreshold }
  | 0x23 => { w with cautionMode := (lineModeOf v).getD w.cautionMode }
  | 0x24 => { w with stopMode := (lineModeOf v).getD w.stopMode }
  | 0x25 => { w with cautionLevel := (boolOf v).getD w.cautionLevel }
  | 0x26 => { w with stopLevel := (boolOf v).getD w.stopLevel }
  | 0x27 => { w with interlock1 := (boolOf v).getD w.interlock1 }
  | 0x28 => { w with interlock2 := (boolOf v).getD w.interlock2 }
  | 0x29 => { w with pairingTimeout := v }
  | 0x2A => { w with requestTimeout := v }
  | 0x2B => { w with clearanceValid := v }
  | 0x2C => { w with hookStale := v }
  | 0x2D => { w with tankStale := v }
  | 0x2E => { w with confirmCount := v }
  | 0x2F => { w with onFraction := v }
  | 0x30 => { w with offFraction := v }
  | 0x31 => { w with discrepancyTol := v }
  | 0x32 => { w with overrunTol := v }
  | 0x33 => { w with untracked := v }
  | 0x34 => { w with wIn := v }
  | 0x35 => { w with wOut := v }
  | _ =>
    match classOfItem code with
    | some c => { w with severity := w.severity.set c ((severityOf v).getD (w.severity.get c)) }
    | none => w

/-- R13 step 3: for an enumerated item, the value names one of the item's values. -/
def enumOk (code v : Nat) : Bool :=
  match code with
  | 0x21 => (triggerOf v).isSome
  | 0x22 => (severityOf v).isSome
  | 0x23 => (lineModeOf v).isSome
  | 0x24 => (lineModeOf v).isSome
  | 0x25 => (boolOf v).isSome
  | 0x26 => (boolOf v).isSome
  | 0x27 => (boolOf v).isSome
  | 0x28 => (boolOf v).isSome
  | _ => if (classOfItem code).isSome then (severityOf v).isSome else true

/-- R12 with R14: the lowest and highest value in range of an item, with the maxima of the ship data where a
PARTICULARS entry is written and the present W_in below W_out. -/
def itemRange (p : Option Particulars) (wIn : Nat) (code : Nat) : Nat × Nat :=
  match code with
  | 0x01 => (1000, 1035)
  | 0x02 => (0, 5000)
  | 0x03 => (0, 5000)
  | 0x04 => (0, 30000)
  | 0x05 => (0, 30000)
  | 0x06 => (0, 20000)
  | 0x07 => (0, 20000)
  | 0x08 => (0, (p.map Particulars.maxDraft).getD Config.maxField)
  | 0x09 => (0, (p.map Particulars.maxDraft).getD Config.maxField)
  | 0x0A => (0, (p.map Particulars.maxDisp).getD Config.maxField)
  | 0x0B => (0, (p.map Particulars.maxDisp).getD Config.maxField)
  | 0x22 => (2, 3)
  | 0x29 => (50, 3000)
  | 0x2A => (100, 6000)
  | 0x2B => (100, 12000)
  | 0x2C => (5, 300)
  | 0x2D => (10, 600)
  | 0x2E => (1, 8)
  | 0x2F => (500, 1000)
  | 0x30 => (0, 500)
  | 0x31 => (0, 500)
  | 0x32 => (0, 500)
  | 0x33 => (100, 2000000)
  | 0x34 => (0, 30000)
  | 0x35 => (wIn, 30000)
  | _ =>
    match classOfItem code with
    | some c => ((floorOf c).rank, 3)
    | none => (0, 3)

def clampTo (r : Nat × Nat) (v : Nat) : Nat := max r.1 (min r.2 v)

/-- R13 step 5 with R14: the settings after a write that passed the checks, and whether a clamp applied. -/
def writeItem (p : Option Particulars) (w : Settings) (code v : Nat) : Settings × Bool :=
  let c := clampTo (itemRange p w.wIn code) v
  let w' := settingPut w code c
  if code = 0x34 ∧ w'.wOut < c then ({ w' with wOut := c }, true) else (w', decide (c ≠ v))

/-- The item codes of the stored settings, in code order. -/
def storedItems : List Nat :=
  [0x01, 0x02, 0x03, 0x04, 0x05, 0x06, 0x07, 0x08, 0x09, 0x0A, 0x0B,
   0x11, 0x12, 0x13, 0x14, 0x15, 0x16, 0x17, 0x18, 0x19, 0x1A, 0x1B, 0x1C, 0x1D, 0x1E, 0x1F, 0x20,
   0x21, 0x22, 0x23, 0x24, 0x25, 0x26, 0x27, 0x28, 0x29, 0x2A, 0x2B, 0x2C, 0x2D, 0x2E, 0x2F, 0x30,
   0x31, 0x32, 0x33, 0x34, 0x35]

/-- R17: every value in its range, the maxima judged against 0 to 4,294,967,295 alone. -/
def settingsInRange (w : Settings) : Bool :=
  storedItems.all (fun code =>
    match settingGet w code with
    | some v => inRangeN (itemRange none w.wIn code).1 (itemRange none w.wIn code).2 v
    | none => false)

/-- R14: on entry into SERVICE the four maxima are clamped to the PARTICULARS in force. -/
def clampLimit (p : Option Particulars) (l : LimitSet) : LimitSet :=
  match p with
  | some p => { l with draftMax := min l.draftMax p.maxDraft, dispMax := min l.dispMax p.maxDisp }
  | none => l

def clampMaxima (p : Option Particulars) (w : Settings) : Settings :=
  { w with harbour := clampLimit p w.harbour, lift := clampLimit p w.lift }

/-! ### Ship data entries (R1, R2, R191) -/

/-- One entry of the ship data set. -/
inductive ShipEntry where
  | particulars (e : Particulars)
  | sections (e : Sections)
  | lightship (e : Lightship)
  | hydro (e : HydroRow)
  | buoyancy (e : List Nat)
  | tank (e : TankGeom)
  | area (e : Area)
  | crane (e : Crane)
  | strength (e : Strength)
deriving DecidableEq, Repr

/-- `n` unsigned fields of four bytes from byte `off`. -/
def fieldsU4 (p : List Byte) (off n : Nat) : List Nat := (List.range n).map (fun i => fieldU p (off + 4 * i) 4)

def fieldsS4 (p : List Byte) (off n : Nat) : List Int := (List.range n).map (fun i => fieldS p (off + 4 * i) 4)

/-- The length an entry of a block has, given its bytes (R191); none for an unknown block. -/
def entryLen (block : Nat) (e : List Byte) : Option Nat :=
  match block with
  | 1 => some 16
  | 2 => some (1 + 4 * (fieldU e 0 1 + 1))
  | 3 => some (17 + 4 * fieldU e 16 1)
  | 4 => some 24
  | 5 => some (1 + 4 * fieldU e 0 1)
  | 6 => some 25
  | 7 => some 24
  | 8 => some 29
  | 9 => some 12
  | _ => none

/-- R2 step 1: no values, or as many bytes as the entry has; an unknown block passes. -/
def entryForm (block : Nat) (e : List Byte) : Bool :=
  match entryLen block e with
  | some n => e.isEmpty || decide (e.length = n)
  | none => true

/-- R2 step 2: the block is known and the index lies in its range (R1). -/
def indexOk (block index : Nat) : Bool :=
  match block with
  | 1 => decide (index = 0)
  | 2 => decide (index = 0)
  | 3 => decide (index = 0)
  | 4 => inRangeN 0 47 index
  | 5 => inRangeN 0 47 index
  | 6 => inRangeN 0 47 index
  | 7 => inRangeN 0 15 index
  | 8 => inRangeN 1 2 index
  | 9 => inRangeN 1 23 index
  | _ => false

/-- The entry that bytes of the right length spell. -/
def entryOf (block : Nat) (e : List Byte) : Option ShipEntry :=
  match block with
  | 1 => some (.particulars ⟨fieldU e 0 4, fieldU e 4 4, fieldU e 8 4, fieldU e 12 4⟩)
  | 2 => some (.sections ⟨fieldsS4 e 1 (fieldU e 0 1 + 1)⟩)
  | 3 => some (.lightship ⟨fieldU e 0 4, posAt e 4, fieldsU4 e 17 (fieldU e 16 1)⟩)
  | 4 => some (.hydro ⟨fieldU e 0 4, fieldU e 4 4, fieldU e 8 4, fieldS e 12 4, fieldS e 16 4, fieldU e 20 4⟩)
  | 5 => some (.buoyancy (fieldsU4 e 1 (fieldU e 0 1)))
  | 6 => some (.tank ⟨fieldU e 0 1, fieldU e 1 4, fieldS e 5 4, fieldS e 9 4, fieldS e 13 4, fieldU e 17 4,
      fieldU e 21 4⟩)
  | 7 => some (.area ⟨fieldS e 0 4, fieldS e 4 4, fieldS e 8 4, fieldS e 12 4, fieldU e 16 4, fieldU e 20 4⟩)
  | 8 => some (.crane ⟨fieldU e 0 1, fieldU e 1 4, posAt e 5, posAt e 17⟩)
  | 9 => some (.strength ⟨fieldU e 0 4, fieldU e 4 4, fieldU e 8 4⟩)
  | _ => none

/-- R2 step 3: every field in its range. -/
def entryOk : ShipEntry → Bool
  | .particulars e =>
    inRangeN 20000 300000 e.lbp && inRangeN 2000 30000 e.halfBreadth && inRangeN 1 30000 e.maxDraft
      && inRangeN 1 4000000000 e.maxDisp
  | .sections e => inRangeN 8 24 (e.xs.length - 1) && e.xs.all xOk
  | .lightship e =>
    inRangeN 1 4000000000 e.mass && posOk e.cg && inRangeN 8 24 e.masses.length
      && e.masses.all (inRangeN 0 4000000000)
  | .hydro e =>
    inRangeN 0 30000 e.draft && inRangeN 0 4000000000 e.disp && inRangeN 0 80000 e.km && xOk e.lcb && xOk e.lcf
      && inRangeN 0 4000000000 e.mtcm
  | .buoyancy e => inRangeN 8 24 e.length && e.all (inRangeN 0 4000000000)
  | .tank e =>
    inRangeN 0 23 e.sec && inRangeN 1 10000000 e.capacity && xOk e.lcg && yOk e.tcg && zOk e.bottom
      && inRangeN 1 30000 e.height && inRangeN 0 100000000 e.inertia
  | .area e =>
    xOk e.xMin && xOk e.xMax && yOk e.yMin && yOk e.yMax && inRangeN 1 4000000000 e.maxMass
      && inRangeN 1 1000000 e.maxPressure
  | .crane e => inRangeN 0 1 e.present && inRangeN 0 1000000 e.boomMass && posOk e.pivot && posOk e.park
  | .strength e =>
    inRangeN 1 4000000000 e.shear && inRangeN 1 2000000000 e.hog && inRangeN 1 2000000000 e.sag

/-- The working copy with an entry written. -/
def putEntry (d : ShipData) (index : Nat) : ShipEntry → ShipData
  | .particulars e => { d with particulars := some e }
  | .sections e => { d with sections := some e }
  | .lightship e => { d with lightship := some e }
  | .hydro e => { d with hydro := tput d.hydro index e }
  | .buoyancy e => { d with buoyancy := tput d.buoyancy index e }
  | .tank e => { d with tanks := tput d.tanks index e }
  | .area e => { d with areas := tput d.areas index e }
  | .crane e => { d with cranes := tput d.cranes index e }
  | .strength e => { d with strength := tput d.strength index e }

/-- The working copy with an entry made unwritten. -/
def dropEntry (d : ShipData) (block index : Nat) : ShipData :=
  match block with
  | 1 => { d with particulars := none }
  | 2 => { d with sections := none }
  | 3 => { d with lightship := none }
  | 4 => { d with hydro := tdrop d.hydro index }
  | 5 => { d with buoyancy := tdrop d.buoyancy index }
  | 6 => { d with tanks := tdrop d.tanks index }
  | 7 => { d with areas := tdrop d.areas index }
  | 8 => { d with cranes := tdrop d.cranes index }
  | 9 => { d with strength := tdrop d.strength index }
  | _ => d

/-- An entry of the working copy, if written. -/
def getEntry (d : ShipData) (block index : Nat) : Option ShipEntry :=
  match block with
  | 1 => d.particulars.map .particulars
  | 2 => d.sections.map .sections
  | 3 => d.lightship.map .lightship
  | 4 => (tget d.hydro index).map .hydro
  | 5 => (tget d.buoyancy index).map .buoyancy
  | 6 => (tget d.tanks index).map .tank
  | 7 => (tget d.areas index).map .area
  | 8 => (tget d.cranes index).map .crane
  | 9 => (tget d.strength index).map .strength
  | _ => none

/-! ### Readings of a Tank Report (R157, R190) -/

structure Reading where
  tank     : Nat
  contents : Nat
  density  : Nat
deriving DecidableEq, Repr

/-- `n` pieces of `w` bytes each from byte `off`. -/
def pieces (p : List Byte) (off w n : Nat) : List (List Byte) :=
  (List.range n).map (fun i => (p.drop (off + w * i)).take w)

/-- R157: the readings of a payload, or none when the count is outside 1 to 12 or the length does not fit it. -/
def readingsOf (p : List Byte) : Option (List Reading) :=
  let n := fieldU p 0 1
  if inRangeN 1 Config.maxReadings n && decide (p.length = 1 + 7 * n) then
    some ((pieces p 1 7 n).map (fun b => ⟨fieldU b 0 1, fieldU b 1 4, fieldU b 5 2⟩))
  else none

/-! ### Moves of an Add Moves (R91, R191) -/

/-- R91 step 1: the 28-byte moves of a payload, or none when the count is outside 1 to 8 or the length does not fit. -/
def movesOf (p : List Byte) : Option (List (List Byte)) :=
  let n := fieldU p 0 1
  if inRangeN 1 Config.maxBatch n && decide (p.length = 1 + 28 * n) then some (pieces p 1 28 n) else none

/-- The move that 28 bytes spell (R191), or none for a kind other than PLAN, UNPLAN or TANK TARGET. -/
def moveOf (b : List Byte) : Option MoveBody :=
  match fieldU b 0 1 with
  | 1 =>
    some (.plan (fieldU b 1 2) (fieldU b 6 4) ⟨posAt b 12, fieldU b 5 1⟩
      (if flagAt b 4 0 then some ⟨fieldU b 24 2, fieldU b 26 2⟩ else none))
  | 2 => some (.unplan (fieldU b 1 2))
  | 3 =>
    some (.tankTarget (fieldU b 3 1) (if flagAt b 4 1 then some ⟨fieldU b 6 4, fieldU b 10 2⟩ else none))
  | _ => none

end Sys2Proof.Machine
end

