-- ==== Sys2Proof/Machine/ShipChecks.lean ====
section
/-! DEFINITION. The commit checks of R4, block by block in the table's order, each giving the failing index; and the
check of a stored set at INITIALIZING (R7). -/

namespace Sys2Proof.Machine

/-- Strictly increasing. -/
def rising : List Int → Bool
  | a :: b :: rest => decide (a < b) && rising (b :: rest)
  | _ => true

/-- N of the SECTIONS entry (R2); 0 when it is unwritten. -/
def sectionCount (d : ShipData) : Nat :=
  match d.sections with
  | some e => e.xs.length - 1
  | none => 0

/-- R4 order 2. -/
def sectionsOk (d : ShipData) : Bool :=
  match d.sections, d.particulars with
  | some e, some p =>
    (match e.xs.head? with | some x0 => inRange (-20000) 0 x0 | none => false)
      && rising e.xs
      && (match e.xs.getLast? with | some xn => decide ((p.lbp : Int) ≤ xn) | none => false)
  | _, _ => false

/-- R4 order 3. -/
def lightshipOk (d : ShipData) : Bool :=
  match d.lightship with
  | some e => decide (e.masses.length = sectionCount d) && decide (e.masses.sum = e.mass)
  | none => false

/-- The hydrostatic rows 0 to R−1 (R4 order 4). -/
def hydroRows (d : ShipData) : List HydroRow := leading 0 d.hydro

/-- One row against the row before it; row 0 stands at draft 0 and displacement 0. -/
def hydroRowOk (before : Option HydroRow) (r : HydroRow) : Bool :=
  match before with
  | none => decide (r.draft = 0) && decide (r.disp = 0)
  | some b => decide (b.draft < r.draft) && decide (b.disp < r.disp) && decide (0 < r.km) && decide (0 < r.mtcm)

/-- The first failing row of rows 0 to R−1. -/
def hydroFail : Nat → Option HydroRow → List HydroRow → Option Nat
  | _, _, [] => none
  | i, before, r :: rest => if hydroRowOk before r then hydroFail (i + 1) (some r) rest else some i

/-- R4 order 4: the failing index of HYDRO ROW.  A row R that is missing below R = 2 fails, and so does a row written
above the gap.  When row 0 is the only row and itself fails its checks, the ascending visit of R4 names index 0 and its
line for R < 2 names index 1; the model takes the visit (DESIGN CHOICE, log 17). -/
def hydroCheck (d : ShipData) : Option Nat :=
  let rows := hydroRows d
  match hydroFail 0 none rows with
  | some i => some i
  | none =>
    if rows.length < 2 then some rows.length
    else (d.hydro.find? (fun p => decide (rows.length ≤ p.1))).map Prod.fst

/-- R4 order 5 at one row. -/
def buoyancyFails (d : ShipData) (i : Nat) : Bool :=
  match tget d.buoyancy i with
  | some m =>
    decide ((hydroRows d).length ≤ i) || decide (m.length ≠ sectionCount d)
      || (decide (i = 0) && m.any (fun x => decide (x ≠ 0)))
  | none => decide (i < (hydroRows d).length)

def buoyancyCheck (d : ShipData) : Option Nat := (List.range 48).find? (buoyancyFails d)

/-- R4 order 6. -/
def tankCheck (d : ShipData) : Option Nat :=
  (d.tanks.find? (fun p => decide (sectionCount d ≤ p.2.sec))).map Prod.fst

/-- R4 order 7. -/
def areaCheck (d : ShipData) : Option Nat :=
  if d.areas.isEmpty then some 0
  else (d.areas.find? (fun p => !(decide (p.2.xMin < p.2.xMax) && decide (p.2.yMin < p.2.yMax)))).map Prod.fst

/-- R4 order 8. -/
def craneCheck (d : ShipData) : Option Nat := [1, 2].find? (fun i => (tget d.cranes i).isNone)

/-- R4 order 9: entries 1 to N−1. -/
def strengthCheck (d : ShipData) : Option Nat :=
  ((List.range (sectionCount d - 1)).map (· + 1)).find? (fun i => (tget d.strength i).isNone)

/-- R4: the first failure of the working copy, as a block code and an index. -/
def commitCheck (d : ShipData) : Option (Nat × Nat) :=
  if d.particulars.isNone then some (1, 0)
  else if !sectionsOk d then some (2, 0)
  else if !lightshipOk d then some (3, 0)
  else
    match hydroCheck d with
    | some i => some (4, i)
    | none =>
    match buoyancyCheck d with
    | some i => some (5, i)
    | none =>
    match tankCheck d with
    | some i => some (6, i)
    | none =>
    match areaCheck d with
    | some i => some (7, i)
    | none =>
    match craneCheck d with
    | some i => some (8, i)
    | none => (strengthCheck d).map (fun i => (9, i))

/-- R5: STRENGTH entries for cuts N and above are removed by a commit. -/
def trimStrength (d : ShipData) : ShipData :=
  { d with strength := d.strength.filter (fun p => decide (p.1 < sectionCount d)) }

/-- The field ranges of R2 over a table of a block. -/
def rowsInRange {α : Type} (block : Nat) (mk : α → ShipEntry) (t : Table α) : Bool :=
  t.all (fun p => indexOk block p.1 && entryOk (mk p.2))

/-- R7: every field of a stored set in its range of R2. -/
def fieldsInRange (d : ShipData) : Bool :=
  d.particulars.all (fun e => entryOk (.particulars e)) && d.sections.all (fun e => entryOk (.sections e))
    && d.lightship.all (fun e => entryOk (.lightship e)) && rowsInRange 4 .hydro d.hydro
    && rowsInRange 5 .buoyancy d.buoyancy && rowsInRange 6 .tank d.tanks && rowsInRange 7 .area d.areas
    && rowsInRange 8 .crane d.cranes && rowsInRange 9 .strength d.strength

/-- R7: the stored set passes the field ranges of R2 and the commit checks of R4. -/
def storedShipOk (d : ShipData) : Bool := fieldsInRange d && (commitCheck d).isNone

end Sys2Proof.Machine
end

