-- ==== Sys2Proof/Machine/Evaluate.lean ====
section
/-! DEFINITION. Condition arithmetic (chapter 3): what a pass computes from the items it captured, stage by stage.
Every sum and product is exact and every division is `rdiv` (R47); each stage takes the rounded outputs of the
stages before it. -/

namespace Sys2Proof.Machine

def valid (v : Int) : Quantity := ⟨.valid, v⟩

/-- R65: a quantity whose class is not VALID carries the value 0. -/
def noValue (c : RClass) : Quantity := ⟨c, 0⟩

def Quantity.isValid (q : Quantity) : Bool := decide (q.cls = .valid)

def Quantity.isOut (q : Quantity) : Bool := decide (q.cls = .outOfTable)

/-! ### S1: the tank item (R50) -/

/-- R50: the tank is slack, more than 1 % and less than 98 % full by mass. -/
def slack (mass cap : Nat) : Bool := decide (cap * 10 < mass * 1000) && decide (mass * 1000 < cap * 980)

/-- R50: the item of a tank counted at a mass and a density. -/
def tankItem (index : Nat) (g : TankGeom) (mass density : Nat) : Item :=
  let c := capacityMass g density
  { mass := mass
    pos := ⟨g.lcg, g.tcg, g.bottom + rdiv ((g.height : Int) * mass) (2 * (c : Int))⟩
    kind := .tank index g.sec (if slack mass c then g.inertia * density else 0) }

/-! ### S2: sums (R51) -/

def Item.fsm (i : Item) : Nat :=
  match i.kind with
  | .tank _ _ f => f
  | _ => 0

def sumBy (f : Item → Int) (items : List Item) : Int := items.foldr (fun i acc => f i + acc) 0

def sumMass (items : List Item) : Int := sumBy (fun i => i.mass) items

/-! ### S5: interpolation (R54, R60) -/

/-- The greatest row whose key is at or below `x`, with the row after it; the rows' keys rise. -/
def bracket {α : Type} (key : α → Int) (x : Int) : List α → Option (α × Option α)
  | [] => none
  | [a] => if key a ≤ x then some (a, none) else none
  | a :: b :: rest =>
    if key a ≤ x then
      match bracket key x (b :: rest) with
      | some r => some r
      | none => some (a, some b)
    else none

/-- R54, R60: a column between two rows, or row j's value on an exact hit. -/
def interpolate (x kj vj : Int) (next : Option (Int × Int)) : Int :=
  match next with
  | some (kn, vn) => if x = kj then vj else vj + rdiv ((vn - vj) * (x - kj)) (kn - kj)
  | none => vj

/-- The five columns of S5. -/
structure Hydro where
  draft : Int
  km    : Int
  lcb   : Int
  lcf   : Int
  mtcm  : Int
deriving DecidableEq, Repr

/-- R54: the columns at W_std, or none above the table. -/
def hydrostatics (rows : List HydroRow) (wStd : Int) : Option Hydro :=
  match rows.getLast? with
  | none => none
  | some last =>
    if (last.disp : Int) < wStd then none
    else
      match bracket (fun r : HydroRow => (r.disp : Int)) wStd rows with
      | none => none
      | some (r, n) =>
        let col (f : HydroRow → Int) : Int := interpolate wStd r.disp (f r) (n.map (fun m => ((m.disp : Int), f m)))
        some ⟨col (fun r => r.draft), col (fun r => r.km), col (fun r => r.lcb), col (fun r => r.lcf),
          col (fun r => r.mtcm)⟩

/-! ### S7: heel (R56) -/

/-- R56: the published heel and whether it was clamped. -/
def heelOf (tcg gm : Int) : Quantity × Bool :=
  if gm ≤ 0 then (noValue .undefined, false)
  else
    let raw := rdiv (tcg * 10000) gm
    if 30000 < raw then (valid 30000, true)
    else if raw < -30000 then (valid (-30000), true)
    else (valid raw, false)

/-! ### S10: strength (R59 to R62) -/

/-- R59: the section of a point: the number of inner boundaries at or below x. -/
def sectionOf (xs : List Int) (x : Int) : Nat := ((xs.drop 1).dropLast).countP (fun b => decide (b ≤ x))

/-- R59: the section an item other than the lightship adds its mass to. -/
def itemSection (xs : List Int) (i : Item) : Nat :=
  match i.kind with
  | .tank _ sec _ => sec
  | _ => sectionOf xs i.pos.x

def Item.isLightship (i : Item) : Bool := decide (i.kind = .lightship)

/-- R59: the weight of section s. -/
def sectionWeight (xs : List Int) (light : List Nat) (items : List Item) (s : Nat) : Int :=
  (light.getD s 0 : Int)
    + sumBy (fun i => if i.isLightship then 0 else if itemSection xs i = s then (i.mass : Int) else 0) items

/-- R60: the midpoint of section s. -/
def midpoint (xs : List Int) (s : Nat) : Int := rdiv (xs.getD s 0 + xs.getD (s + 1) 0) 2

/-- R60: the draft at the middle of section s. -/
def sectionDraft (xs : List Int) (ta t lbp : Int) (s : Nat) : Int := ta - rdiv (t * midpoint xs s) lbp

/-- The section buoyancy table: each row's draft and its masses. -/
def buoyancyRows (d : ShipData) : List (Int × List Nat) :=
  ((hydroRows d).map (fun r => (r.draft : Int))).zip (leading 0 d.buoyancy)

/-- R60: the raw buoyant mass of section s at a draft, or none above the table. -/
def rawBuoyancy (rows : List (Int × List Nat)) (ts : Int) (s : Nat) : Option Int :=
  if ts < 0 then some 0
  else
    match rows.getLast? with
    | none => none
    | some last =>
      if last.1 < ts then none
      else
        match bracket (fun r : Int × List Nat => r.1) ts rows with
        | none => none
        | some (r, n) =>
          let at_ (r : Int × List Nat) : Int := (r.2.getD s 0 : Nat)
          some (interpolate ts r.1 (at_ r) (n.map (fun m => (m.1, at_ m))))

/-- All values, or none when one is missing. -/
def allSome {α : Type} : List (Option α) → Option (List α)
  | [] => some []
  | none :: _ => none
  | some a :: rest =>
    match allSome rest with
    | some l => some (a :: l)
    | none => none

def sumInt (l : List Int) : Int := l.foldr (· + ·) 0

/-- The place of the largest value, the lowest among equals. -/
def argMax : List Int → Nat
  | [] => 0
  | a :: rest =>
    match rest with
    | [] => 0
    | _ => if rest.all (fun b => decide (b ≤ a)) then 0 else argMax rest + 1

/-- Add to one element of a list. -/
def addAt : List Int → Nat → Int → List Int
  | [], _, _ => []
  | a :: rest, 0, r => (a + r) :: rest
  | a :: rest, n + 1, r => a :: addAt rest n r

/-- R61: the corrected buoyancies, or none when no section has buoyancy. -/
def correctBuoyancy (raw : List Int) (rho w : Int) : Option (List Int) :=
  let b := raw.map (fun v => rdiv (v * rho) 1025)
  let total := sumInt b
  if total = 0 then none
  else
    let scaled := b.map (fun v => rdiv (v * w) total)
    some (addAt scaled (argMax b) (w - sumInt scaled))

/-- R62: the shear force at cut k. -/
def shearAt (loads : List Int) (k : Nat) : Int := sumInt (loads.take k)

/-- R62: the exact moment sum at cut k. -/
def momentAt (xs : List Int) (loads : List Int) (k : Nat) : Int :=
  sumInt (((loads.take k).zipIdx).map (fun p => p.1 * (xs.getD k 0 - midpoint xs p.2)))

/-- S10: the shear force and bending moment at cuts 1 to N−1, or none when strength is OUT_OF_TABLE. -/
def strengthOf (d : ShipData) (items : List Item) (rho w ta t : Int) : Option (List (Int × Int)) :=
  match d.sections, d.particulars with
  | some e, some p =>
    let xs := e.xs
    let n := xs.length - 1
    let light := match d.lightship with | some l => l.masses | none => []
    let rows := buoyancyRows d
    match allSome ((List.range n).map (fun s => rawBuoyancy rows (sectionDraft xs ta t p.lbp s) s)) with
    | none => none
    | some raw =>
      match correctBuoyancy raw rho w with
      | none => none
      | some b =>
        let weights := (List.range n).map (sectionWeight xs light items)
        let loads := (weights.zip b).map (fun q => q.1 - q.2)
        some ((List.range (n - 1)).map (fun i => (shearAt loads (i + 1), rdiv (momentAt xs loads (i + 1)) 1000000)))
  | _, _ => none

/-! ### Area totals and pressures (R63, R64) -/

def Item.inArea (i : Item) (a : Nat) : Bool :=
  match i.kind with
  | .lot _ (some b) _ => decide (b = a)
  | _ => false

/-- R63: the total of one area. -/
def areaTotal (items : List Item) (a : Nat) : Int := sumBy (fun i => if i.inArea a then (i.mass : Int) else 0) items

/-- R64: the pressure of an item, if it carries a footprint and an area index. -/
def pressureOf (i : Item) : Option PressureEntry :=
  match i.kind with
  | .lot n (some a) (some f) => some ⟨n, a, rdiv ((i.mass : Int) * 1000000) ((f.length : Int) * f.breadth)⟩
  | _ => none

/-- R64: the pressure list, in ascending slot or trial index. -/
def pressuresOf (items : List Item) : List PressureEntry :=
  sortBy PressureEntry.index (items.filterMap pressureOf)

/-! ### A whole pass (R68) -/

/-- R51 to R68: the result set of a pass over an item list. -/
def evaluate (d : ShipData) (rho : Nat) (gen : Count32) (tainted : Bool) (items : List Item) : ResultSet :=
  let w := sumMass items
  let lcg := rdiv (sumBy (fun i => i.mass * i.pos.x) items) w
  let tcg := rdiv (sumBy (fun i => i.mass * i.pos.y) items) w
  let vcg := rdiv (sumBy (fun i => i.mass * i.pos.z) items) w
  let fsm := sumBy (fun i => (i.fsm : Int)) items
  let wStd := rdiv (w * 1025) rho
  let areas := d.areas.map (fun p => (p.1, areaTotal items p.1))
  let pressures := pressuresOf items
  let out := noValue .outOfTable
  match hydrostatics (hydroRows d) wStd with
  | none =>
    { gen := gen, tainted := tainted, clamped := false, w := valid w, wStd := valid wStd, lcg := valid lcg,
      tcg := valid tcg, vcg := valid vcg, fsm := valid fsm, fsc := out, km := out, gm := out, heel := out,
      trim := out, draft := out, draftAft := out, draftFore := out, lcb := out, lcf := out, mtcm := out,
      strength := .outOfTable, cuts := [], areas := areas, pressures := pressures }
  | some h =>
    let fsc := rdiv fsm w
    let gm := h.km - vcg - fsc
    let heel := heelOf tcg gm
    let base : ResultSet :=
      { gen := gen, tainted := tainted, clamped := heel.2, w := valid w, wStd := valid wStd, lcg := valid lcg,
        tcg := valid tcg, vcg := valid vcg, fsm := valid fsm, fsc := valid fsc, km := valid h.km, gm := valid gm,
        heel := heel.1, trim := out, draft := valid h.draft, draftAft := out, draftFore := out, lcb := valid h.lcb,
        lcf := valid h.lcf, mtcm := valid h.mtcm, strength := .outOfTable, cuts := [], areas := areas,
        pressures := pressures }
    if h.mtcm ≤ 0 then base
    else
      let lbp : Int := match d.particulars with | some p => p.lbp | none => 0
      let t := rdiv (w * (h.lcb - lcg)) h.mtcm
      let ta := h.draft + rdiv (t * h.lcf) lbp
      let trimmed := { base with trim := valid t, draftAft := valid ta, draftFore := valid (ta - t) }
      match strengthOf d items rho w ta t with
      | none => trimmed
      | some cuts => { trimmed with strength := .valid, cuts := cuts }

/-- R66: some quantity of the set has the class OUT_OF_TABLE. -/
def ResultSet.anyOut (r : ResultSet) : Bool :=
  [r.w, r.wStd, r.lcg, r.tcg, r.vcg, r.fsm, r.fsc, r.km, r.gm, r.heel, r.trim, r.draft, r.draftAft, r.draftFore,
    r.lcb, r.lcf, r.mtcm].any Quantity.isOut || decide (r.strength = .outOfTable)

/-- R66: heel has the class UNDEFINED. -/
def ResultSet.heelUndefined (r : ResultSet) : Bool := decide (r.heel.cls = .undefined)

end Sys2Proof.Machine
end

