-- ==== Sys2Proof/Machine/Flags.lean ====
section
/-! DEFINITION. Every flag the spec computes from other state: MODIFIED and DISCREPANCY of a lot, the sticky arithmetic
flags, the standing conditions of the persisting notice events, the CAUTION and STOP lines with their latched statuses,
and the HOIST-INHIBIT lines. -/

namespace Sys2Proof.Machine

/-! ### Lot flags (R21, R150) -/

/-- The lot state code (11.3). -/
def LotState.code : LotState → Nat
  | .planned => 1
  | .lifting _ _ _ _ => 2
  | .aboard => 3

/-- R21: some field that MODIFIED watches differs. -/
def Lot.differs (a b : Lot) : Bool :=
  decide (a.state.code ≠ b.state.code) || decide (a.declared ≠ b.declared) || decide (a.measured ≠ b.measured)
    || decide (a.loc ≠ b.loc) || decide (a.footprint ≠ b.footprint) || decide (a.mark ≠ b.mark)
    || decide (a.discrepancy ≠ b.discrepancy)

/-- R21: the new record, with MODIFIED set when a watched field changed in value. -/
def Lot.noted (old new : Lot) : Lot := if old.differs new then { new with modified := true } else new

/-- The distance between two masses. -/
def massGap (a b : Nat) : Nat := (a - b) + (b - a)

/-- R150: DISCREPANCY as the gate judges it at the entry into HOISTED. -/
def discrepancyOf (tol measured declared : Nat) : Bool := decide (tol * declared < massGap measured declared * 1000)

/-- R150: a report qualifies for load-on. -/
def loadOnQualifies (onFraction expected load : Nat) : Bool := decide (onFraction * expected ≤ load * 1000)

/-- R151: a report qualifies for load-off. -/
def loadOffQualifies (offFraction reference load : Nat) : Bool := decide (load * 1000 ≤ offFraction * reference)

/-- R168: the amount passes the plan by more than the tolerance. -/
def overruns (tol planned amount : Nat) : Bool := decide (planned * (1000 + tol) < amount * 1000)

/-! ### Sticky arithmetic flags (R66) -/

def Sticky.clear : Sticky := ⟨false, false, false⟩

/-- R66: a publication sets the flags and clears none. -/
def Sticky.raise (r : ResultSet) (k : Sticky) : Sticky :=
  ⟨k.outOfTable || r.anyOut, k.undefined || r.heelUndefined, k.clamped || r.clamped⟩

/-! ### Standing conditions of the persisting events (R182) -/

def anyTankStale (s : State) : Bool := s.cond.tanks.any (fun p => p.2.stale)

def anyCraneStale (s : State) : Bool := s.gate.stale.one || s.gate.stale.two

/-- R182: the condition of STALE on each link. -/
def staleStands (s : State) : Link → Bool
  | .l0 => anyCraneStale s || anyTankStale s
  | .l1 => s.gate.stale.one
  | .l2 => s.gate.stale.two
  | .l3 => anyTankStale s

/-- R182: the persisting bits whose conditions stand on a link. -/
def standingBits (s : State) (l : Link) : Word16 :=
  (if s.suspended then Event.suspend.flag else 0#16) ||| (if staleStands s l then Event.stale.flag else 0#16)

/-! ### CAUTION and STOP (R126, R127) -/

/-- ACTUAL has a standing violation, listed or not, of at least a severity. -/
def standsAt (m : SeverityMap) (least : Severity) (v : ViolationList) : Bool :=
  v.kept.any (fun x => (m.get x.cls).atLeast least)

/-- R126: the state a line's mode gives it. -/
def lineTarget (mode : LineMode) (level follow : Bool) : Bool :=
  match mode with
  | .off => false
  | .follow => follow
  | .manual => level

/-- R126: both lines are deasserted until the stored settings are loaded at the end of INITIALIZING (log 15). -/
def cautionTarget (s : State) : Bool :=
  !decide (s.mode = .initializing)
    && lineTarget s.settings.cautionMode s.settings.cautionLevel
      (standsAt s.settings.severity .caution s.monitor.actual)

def stopTarget (s : State) : Bool :=
  !decide (s.mode = .initializing)
    && lineTarget s.settings.stopMode s.settings.stopLevel
      (standsAt s.settings.severity .stop s.monitor.actual || s.suspended)

/-- R127: the line takes a state; a transition to asserted sets the latched status. -/
def AlarmLine.drive (target : Bool) (a : AlarmLine) : AlarmLine := ⟨target, a.latched || (target && !a.asserted)⟩

/-! ### HOIST-INHIBIT (R129, R130) -/

def interlockEnabled (w : Settings) : CraneId → Bool
  | .one => w.interlock1
  | .two => w.interlock2

/-- R129: the line of a crane, asserted or not.  Through INITIALIZING the coil drive is at rest (R194) (log 15). -/
def inhibitTarget (s : State) (c : CraneId) : Bool :=
  if s.mode = .initializing then true
  else if s.craneAbsent c || !interlockEnabled s.settings c then false
  else
    match (s.liftRec c).state with
    | .cleared => false
    | .hoisted => s.suspended
    | .lowering => s.suspended
    | _ => true

/-- R126, R129: every line is brought to the state the rules give it. -/
def refreshLines (s : State) : State :=
  { s with
    monitor :=
      { s.monitor with
        caution := s.monitor.caution.drive (cautionTarget s), stop := s.monitor.stop.drive (stopTarget s) }
    gate := { s.gate with inhibit := ⟨inhibitTarget s .one, inhibitTarget s .two⟩ } }

/-! ### Relay contacts (R194) -/

/-- The CAUTION contact is closed while the line is asserted (log 16). -/
def cautionContactClosed (s : State) : Bool := s.powered && s.monitor.caution.asserted

def stopContactClosed (s : State) : Bool := s.powered && s.monitor.stop.asserted

/-- A HOIST-INHIBIT contact is open while the line is asserted, and open on an unpowered module. -/
def inhibitContactClosed (s : State) (c : CraneId) : Bool := s.powered && !s.gate.inhibit.get c

end Sys2Proof.Machine
end

