-- ==== Sys2Proof/Machine/Images.lean ====
section
/-! DEFINITION. The images a station sees (chapter 11): the codes of 11.3, the record images of 11.6, the replies of
R192 and R193, and the pages of a snapshot (R41). -/

namespace Sys2Proof.Machine

/-! ### Reply fields (R187): a value the field cannot hold is written as the largest of its sign -/

def encU (w n : Nat) : List Byte := beBytes w (min n (256 ^ w - 1))

def encS (w : Nat) (i : Int) : List Byte :=
  beSigned w (max (-((256 ^ w / 2 : Nat) : Int)) (min i ((256 ^ w / 2 : Nat) - 1)))

/-! ### Codes (11.3) -/

def LotOrigin.code : LotOrigin → Nat
  | .planned => 1
  | .aboard => 3

def Direction.code : Direction → Nat
  | .load => 1
  | .discharge => 2

def Ctx.code : Ctx → Nat
  | .actual => 0
  | .plan => 1
  | .trial => 2

def RClass.code : RClass → Nat
  | .empty => 0
  | .valid => 1
  | .outOfTable => 2
  | .undefined => 3

def VOutcome.code : VOutcome → Nat
  | .low => 1
  | .high => 2
  | .unordered => 3
  | .event => 4

def LimitName.code : LimitName → Nat
  | .harbour => 0
  | .lift => 1

def TankSource.code : TankSource → Nat
  | .none => 0
  | .gauged => 1
  | .manual => 2

def Origin.code : Origin → Nat
  | .stored => 0
  | .defaults => 1

def LiftState.code : LiftState → Nat
  | .idle => 0
  | .pairing => 1
  | .requested => 2
  | .cleared => 3
  | .hoisted => 4
  | .lowering => 5
  | .setDown => 6

def Role.code : Role → Nat
  | .single => 1
  | .lead => 2
  | .partner => 3

def Pending.code : Pending → Nat
  | .none => 0
  | .exclusive => 1
  | .suspended => 2
  | .stale => 3
  | .window => 4
  | .limits _ => 5

/-- The worst class of LIMITS, 0 when absent. -/
def Pending.worstCode : Pending → Nat
  | .limits c => c.num
  | _ => 0

def EndKind.code : EndKind → Nat
  | .completed => 1
  | .cancelled => 2
  | .timeout => 3
  | .badMode => 4
  | .ended => 5

def End.code : End → Nat
  | .sea => 255
  | .tank t => t

/-- The code of an optional value, 0 when absent. -/
def codeOr {α : Type} (f : α → Nat) (o : Option α) : Nat := (o.map f).getD 0

/-- A position in a record image of four-byte coordinates. -/
def posImage (p : Pos) : List Byte := encS 4 p.x ++ encS 4 p.y ++ encS 4 p.z

def posImage? : Option Pos → List Byte
  | some p => posImage p
  | none => zeroBytes 12

/-- A location: its position and its area index. -/
def locImage? : Option Loc → List Byte
  | some l => posImage l.pos ++ encU 1 l.area
  | none => zeroBytes 13

/-! ### Ship data entries (R191) -/

def ShipEntry.bytes : ShipEntry → List Byte
  | .particulars e => encU 4 e.lbp ++ encU 4 e.halfBreadth ++ encU 4 e.maxDraft ++ encU 4 e.maxDisp
  | .sections e => encU 1 (e.xs.length - 1) ++ (e.xs.map (encS 4)).flatten
  | .lightship e => encU 4 e.mass ++ posImage e.cg ++ encU 1 e.masses.length ++ (e.masses.map (encU 4)).flatten
  | .hydro e => encU 4 e.draft ++ encU 4 e.disp ++ encU 4 e.km ++ encS 4 e.lcb ++ encS 4 e.lcf ++ encU 4 e.mtcm
  | .buoyancy e => encU 1 e.length ++ (e.map (encU 4)).flatten
  | .tank e =>
    encU 1 e.sec ++ encU 4 e.capacity ++ encS 4 e.lcg ++ encS 4 e.tcg ++ encS 4 e.bottom ++ encU 4 e.height
      ++ encU 4 e.inertia
  | .area e =>
    encS 4 e.xMin ++ encS 4 e.xMax ++ encS 4 e.yMin ++ encS 4 e.yMax ++ encU 4 e.maxMass ++ encU 4 e.maxPressure
  | .crane e => encU 1 e.present ++ encU 4 e.boomMass ++ posImage e.pivot ++ posImage e.park
  | .strength e => encU 4 e.shear ++ encU 4 e.hog ++ encU 4 e.sag

/-! ### Lots, sequence entries, tanks (11.6) -/

/-- The origin, direction and cranes bytes, present in LIFTING. -/
def liftingBytes : LotState → List Byte
  | .lifting o d a b => encU 1 o.code ++ encU 1 d.code ++ flagsByte [a, b]
  | _ => zeroBytes 3

def footImage? : Option Footprint → List Byte
  | some f => encU 2 f.length ++ encU 2 f.breadth
  | none => zeroBytes 4

/-- Lot record, 28 bytes. -/
def lotImage (k : Lot) : List Byte :=
  encU 2 k.id ++ encU 1 k.state.code
    ++ flagsByte [k.mark, k.modified, k.discrepancy, k.measured.isSome, k.footprint.isSome]
    ++ liftingBytes k.state ++ encU 1 k.loc.area ++ encU 3 k.declared ++ encU 3 (k.measured.getD 0)
    ++ encS 3 k.loc.pos.x ++ encS 2 k.loc.pos.y ++ encS 3 k.loc.pos.z ++ footImage? k.footprint ++ zeroBytes 2

/-- Sequence entry, 4 bytes. -/
def seqImage (e : SeqEntry) (lifting : Bool) : List Byte := encU 2 e.lot ++ encU 1 e.dir.code ++ flagsByte [lifting]

/-- Tank record, 16 bytes. -/
def tankImage (t : Nat) (r : TankRow) : List Byte :=
  encU 1 t ++ encU 1 r.source.code ++ flagsByte [r.target.isSome, r.clamped] ++ zeroBytes 1 ++ encU 4 r.contents
    ++ encU 2 r.density
    ++ (match r.target with | some g => encU 4 g.contents ++ encU 2 g.density | none => zeroBytes 6)

/-! ### Snapshot pages (R41) -/

def padTo (n : Nat) (bs : List Byte) : List Byte := bs ++ zeroBytes (n - bs.length)

/-- ⌈n ÷ d⌉. -/
def ceilDiv (n d : Nat) : Nat := (n + d - 1) / d

/-- The pages of a part, `per` records to a page; a part with no records has none. -/
def pagesOf (per : Nat) (recs : List (List Byte)) : List (List Byte) :=
  (List.range (ceilDiv recs.length per)).map
    (fun i => padTo Config.pageBytes ((recs.drop (per * i)).take per).flatten)

/-- R41: the page count of L lots, S sequence entries and T tanks. -/
def pageCount (l s t : Nat) : Nat := 1 + ceilDiv l 8 + ceilDiv s 56 + ceilDiv t 14

def Snapshot.pageCount (q : Snapshot) : Nat := Machine.pageCount q.lots.length q.seq.length q.tanks.length

/-- L, S, T and P, as the header and the reply of Open Snapshot carry them. -/
def Snapshot.counts (q : Snapshot) : List Byte :=
  encU 2 q.lots.length ++ encU 2 q.seq.length ++ encU 1 q.tanks.length ++ encU 1 q.pageCount

def Snapshot.header (q : Snapshot) : List Byte := padTo Config.pageBytes (encU 4 q.time.toNat ++ q.counts)

/-- R41: every page of a snapshot, page 0 first. -/
def Snapshot.pages (q : Snapshot) : List (List Byte) :=
  q.header
    :: (pagesOf 8 (q.lots.map (fun p => lotImage p.2)) ++ pagesOf 56 (q.seq.map (fun p => seqImage p.1 p.2))
      ++ pagesOf 14 (q.tanks.map (fun p => tankImage p.1 p.2)))

/-! ### Settings (11.3) -/

/-- The value of any item of 11.3, the read-only ones included; none for an unknown code. -/
def itemValue (s : State) (code : Nat) : Option Nat :=
  match code with
  | 0x40 => some s.mode.code
  | 0x41 => some s.time.toNat
  | 0x42 => some s.origin.code
  | _ => settingGet s.settings code

/-- The read-only items (R12). -/
def itemReadOnly (code : Nat) : Bool := decide (code = 0x40) || decide (code = 0x41) || decide (code = 0x42)

def lineImage (mode : LineMode) (level : Bool) (a : AlarmLine) : List Byte :=
  encU 1 (lineModeCode mode) ++ encU 1 (beBool level) ++ encU 1 (beBool a.asserted) ++ encU 1 (beBool a.latched)

def cautionImage (s : State) : List Byte :=
  lineImage s.settings.cautionMode s.settings.cautionLevel s.monitor.caution

def stopImage (s : State) : List Byte := lineImage s.settings.stopMode s.settings.stopLevel s.monitor.stop

/-! ### Results (11.5, R192) -/

def State.ctx (s : State) : Ctx → CtxState
  | .actual => s.eval.actual
  | .plan => s.eval.plan
  | .trial => s.eval.trial

/-- R74: judged at each read. -/
def CtxState.current (c : CtxState) : Bool :=
  match c.set with
  | some r => decide (r.gen = c.gen)
  | none => false

/-- Bytes 1 to 11 of every Read Results reply. -/
def resultsCommon (x : Ctx) (c : CtxState) (part : Nat) : List Byte :=
  encU 1 x.code ++ encU 4 (match c.set with | some r => r.gen.toNat | none => 0) ++ encU 4 c.gen.toNat
    ++ flagsByte [c.current, c.set.isNone, (match c.set with | some r => r.tainted | none => false),
      c.sticky.outOfTable, c.sticky.undefined, c.sticky.clamped]
    ++ encU 1 part

/-- The seventeen quantities in the order of 11.5. -/
def ResultSet.quantities (r : ResultSet) : List Quantity :=
  [r.w, r.wStd, r.lcg, r.tcg, r.vcg, r.fsm, r.fsc, r.km, r.gm, r.heel, r.trim, r.draft, r.draftAft, r.draftFore,
    r.lcb, r.lcf, r.mtcm]

def quantitiesOf (set : Option ResultSet) : List Quantity :=
  match set with
  | some r => r.quantities
  | none => List.replicate 17 (noValue .empty)

def summaryPart (set : Option ResultSet) : List Byte :=
  ((quantitiesOf set).map (fun q => encU 1 q.cls.code)).flatten
    ++ ((quantitiesOf set).map (fun q => encS 8 q.val)).flatten

def cutsPart (n : Nat) (set : Option ResultSet) : List Byte :=
  encU 1 (match set with | some r => r.strength.code | none => 0) ++ encU 1 n
    ++ ((List.range (n - 1)).map (fun i =>
      let cut := (match set with | some r => r.cuts | none => []).getD i (0, 0)
      encS 5 cut.1 ++ encS 4 cut.2)).flatten

def areasPart (areas : Table Area) (set : Option ResultSet) : List Byte :=
  encU 1 areas.length
    ++ (areas.map (fun p =>
      encU 1 p.1 ++ encS 8 ((tget (match set with | some r => r.areas | none => []) p.1).getD 0))).flatten

def pressuresIn (set : Option ResultSet) : List PressureEntry :=
  match set with
  | some r => r.pressures
  | none => []

def pressuresPart (page : Nat) (set : Option ResultSet) : List Byte :=
  let here := ((pressuresIn set).drop (32 * page)).take 32
  encU 2 (pressuresIn set).length ++ encU 1 here.length
    ++ (here.map (fun e => encU 2 e.index ++ encU 5 e.pressure.toNat)).flatten

/-! ### Violations and records (11.6) -/

/-- Class, outcome and index: bytes 0 to 3 of an entry and of a record. -/
def violHead (v : Violation) : List Byte := encU 1 v.cls.num ++ encU 1 v.outcome.code ++ encU 2 v.index

/-- Violation entry, 28 bytes, with the severity as it stands. -/
def entryImage (m : SeverityMap) (e : ListEntry) : List Byte :=
  violHead e.viol ++ encU 1 (m.get e.viol.cls).rank ++ flagsByte [e.late] ++ zeroBytes 2 ++ encS 8 e.viol.value
    ++ encS 8 e.viol.limit ++ encU 4 e.firstSeen.toNat

/-- R112: pairs that stand without an entry. -/
def ViolationList.unlisted (v : ViolationList) : Nat := v.kept.length - v.entries.length

/-- R115: the highest severity among the standing violations, 0 for none. -/
def highestRank (m : SeverityMap) (l : List Violation) : Nat := l.foldl (fun acc v => max acc (m.get v.cls).rank) 0

/-- Read Violations after its status: the rest of the 11-byte head and the page's entries. -/
def violationsPage (m : SeverityMap) (x : Ctx) (v : ViolationList) (page : Nat) : List Byte :=
  encU 1 x.code ++ encU 4 v.gen.toNat ++ encU 1 v.limitName.code ++ encU 1 v.entries.length ++ encU 2 v.unlisted
    ++ encU 1 (highestRank m v.kept)
    ++ (((v.entries.drop (8 * page)).take 8).map (entryImage m)).flatten

/-- FIRST and NEXT, 32 bytes. -/
def recordImage : Option ViolationRecord → List Byte
  | some r =>
    violHead r.viol ++ encU 1 1 ++ zeroBytes 3 ++ encS 8 r.viol.value ++ encS 8 r.viol.limit ++ encU 4 r.time.toNat
      ++ encU 4 r.gen.toNat
  | none => zeroBytes 32

/-- Suspension record, 9 bytes. -/
def suspensionImage : Option Suspension → List Byte
  | none => zeroBytes 9
  | some r =>
    match r.cause with
    | .automatic c i => encU 1 1 ++ encU 1 1 ++ encU 1 c.num ++ encU 2 i ++ encU 4 r.time.toNat
    | .commanded => encU 1 1 ++ encU 1 2 ++ encU 1 0 ++ encU 2 0 ++ encU 4 r.time.toNat

/-! ### Lift status (R156, R193) -/

def ageImage (now : Count32) : Option Count32 → List Byte
  | some t => encU 4 (age now t)
  | none => zeroBytes 4

/-- Crane status image, 84 bytes. -/
def craneImage (now : Count32) (stale : Bool) (r : LiftRecord) : List Byte :=
  encU 1 r.state.code ++ encU 1 (codeOr Role.code r.role) ++ encU 2 (codeOr LotRef.id r.lot)
    ++ encU 2 (codeOr LotRef.slot r.lot) ++ encU 1 (codeOr Direction.code r.dir)
    ++ flagsByte [r.deviation, stale, r.plan.isSome, r.landing.isSome,
      (match r.landing with | some (.aboard _) => true | _ => false), r.confirmed.isSome, r.lastReport.isSome,
      r.lastOutcome.isSome]
    ++ flagsByte [r.offConfirmed, r.timer.isSome] ++ encU 1 (codeOr CraneId.num r.other) ++ encU 4 (r.share.getD 0)
    ++ encU 1 r.counter ++ encU 1 (codeOr Pending.code r.reason) ++ encU 1 (codeOr Pending.worstCode r.reason)
    ++ posImage? r.worst ++ locImage? r.plan
    ++ locImage? (match r.landing with | some (.aboard l) => some l | _ => none)
    ++ posImage? r.setDownTip ++ encU 4 (r.confirmed.getD 0) ++ ageImage now r.timer ++ ageImage now r.lastReport
    ++ encU 1 (codeOr (fun o => o.kind.code) r.lastOutcome) ++ encU 2 (codeOr LastOutcome.lot r.lastOutcome)
    ++ encU 1 (codeOr Pending.code (r.lastOutcome.bind LastOutcome.reason))
    ++ encU 1 (codeOr Pending.worstCode (r.lastOutcome.bind LastOutcome.reason))

/-- Bit 0 crane 1, bit 1 crane 2. -/
def cranesByte (cs : List CraneId) : List Byte := flagsByte [cs.contains .one, cs.contains .two]

/-- Gate queue entry image, 8 bytes. -/
def queueImage (s : State) : GateEntry → List Byte
  | .lift r =>
    encU 1 1 ++ cranesByte r.cranes ++ encU 1 (codeOr Pending.code (s.liftRec r.lead).reason)
      ++ encU 1 (codeOr Pending.worstCode (s.liftRec r.lead).reason) ++ ageImage s.time (s.liftRec r.lead).timer
  | .transfer id =>
    match (tget s.ballast.transfers id).map Transfer.phase with
    | some (.requested reason timer) =>
      encU 1 2 ++ encU 1 id ++ encU 1 reason.code ++ encU 1 reason.worstCode ++ ageImage s.time (some timer)
    | _ => encU 1 2 ++ encU 1 id ++ zeroBytes 6

/-- Read Lift Status after its status byte: 228 bytes. -/
def liftStatusImage (s : State) : List Byte :=
  craneImage s.time s.gate.stale.one s.gate.recs.one ++ craneImage s.time s.gate.stale.two s.gate.recs.two
    ++ encU 1 s.gate.queue.length ++ padTo 48 (((s.gate.queue.take 6).map (queueImage s)).flatten)
    ++ cranesByte (match s.gate.slot with | some r => r.cranes | none => []) ++ encU 1 (beBool s.gate.window)
    ++ suspensionImage s.monitor.suspension

/-! ### Transfers (R172, R193) -/

/-- End image, 13 bytes; a SEA end is zero. -/
def endImage (s : State) (start : Option Nat) : End → List Byte
  | .sea => zeroBytes 13
  | .tank t =>
    encU 4 (start.getD 0) ++ encU 4 (s.tankRow t).contents ++ encU 2 (s.tankRow t).density
      ++ flagsByte [(s.tankRow t).clamped, (s.tankRow t).stale] ++ encU 2 (age s.time (s.tankRow t).time)

/-- Transfer entry image, 47 bytes. -/
def transferImage (s : State) (id : Nat) (t : Transfer) : List Byte :=
  match t.phase with
  | .requested reason timer =>
    encU 1 id ++ encU 1 t.source.code ++ encU 1 t.dest.code ++ encU 1 1 ++ zeroBytes 1 ++ encU 1 reason.code
      ++ encU 1 reason.worstCode ++ encU 2 (age s.time timer) ++ encU 4 t.planned ++ zeroBytes 8
      ++ endImage s none t.source ++ endImage s none t.dest
  | .granted ss sd time amount overrun =>
    encU 1 id ++ encU 1 t.source.code ++ encU 1 t.dest.code ++ encU 1 2 ++ flagsByte [overrun] ++ zeroBytes 4
      ++ encU 4 t.planned ++ encU 4 time.toNat ++ encU 4 amount ++ endImage s ss t.source ++ endImage s sd t.dest

/-- Ending log record, 19 bytes. -/
def endRecordImage (r : EndRecord) : List Byte :=
  encU 1 r.id ++ encU 1 r.source.code ++ encU 1 r.dest.code ++ encU 1 r.kind.code
    ++ encU 1 (codeOr Pending.code r.reason) ++ encU 1 (codeOr Pending.worstCode r.reason)
    ++ flagsByte [r.overrun, r.amount.isSome] ++ encU 4 r.planned ++ encU 4 (r.amount.getD 0) ++ encU 4 r.time.toNat

/-- Read Transfers after its status, for TABLE and for LOG. -/
def transferTableImage (s : State) : List Byte :=
  encU 1 s.ballast.nextId ++ encU 1 s.ballast.transfers.length
    ++ (s.ballast.transfers.map (fun p => transferImage s p.1 p.2)).flatten

def transferLogImage (s : State) : List Byte :=
  encU 1 s.ballast.log.length ++ (s.ballast.log.map endRecordImage).flatten

/-! ### Notices (R184) -/

def noticesImage (m : Mode) (u : LinkUnit) : List Byte :=
  encU 2 u.notices.toNat ++ encU 2 u.mask.toNat ++ encU 1 (beBool u.level) ++ encU 1 m.code ++ encU 2 u.dropCount
    ++ encU 2 u.errorCount

end Sys2Proof.Machine
end

