-- ==== Sys2Proof/Machine/Trial.lean ====
section
/-! DEFINITION. The plan side of the lot table and the trial view (chapters 2 and 5): making and changing planned lots,
the replay of the trial stack (R87), the checks of a move (R92) and the fold into the plan (R95, R96). -/

namespace Sys2Proof.Machine

/-! ### Planned lots (R23, R85) -/

/-- R23: a lot created by planning: no measured mass, its mark and DISCREPANCY clear, MODIFIED set (R21). -/
def newPlanned (id mass : Nat) (target : Loc) (foot : Option Footprint) : Lot :=
  { id := id, state := .planned, declared := mass, measured := none, loc := target, footprint := foot, mark := false,
    modified := true, discrepancy := false }

/-- R23: the planned values of a lot are replaced; MODIFIED follows R21. -/
def Lot.replan (mass : Nat) (target : Loc) (foot : Option Footprint) (k : Lot) : Lot :=
  k.noted { k with declared := mass, loc := target, footprint := foot }

def Lot.isPlanned (k : Lot) : Bool := decide (k.state = .planned)

/-- The lot of an id is PLANNED among some lots. -/
def plannedIn (t : Table Lot) (id : Nat) : Bool :=
  match findLot t id with
  | some (_, k) => k.isPlanned
  | none => false

/-! ### The trial view (R87, R88) -/

/-- The view: the lots with the index each has in a TRIAL set, and the tank rows with their view targets. -/
structure View where
  lots  : Table Lot
  tanks : Table TankRow
deriving DecidableEq, Repr

/-- R88: the index of a lot that a PLAN move, the k-th of the stack, brings into the view; a lot
that a slot holds keeps its slot (log 9). -/
def trialIndex (base : Table Lot) (k id : Nat) : Nat :=
  match findLot base id with
  | some (slot, _) => slot
  | none => 512 + k

/-- R87: the move meets what its expectation's kind requires. -/
def View.fits (v : View) (m : Move) : Bool :=
  match m.body with
  | .plan id _ _ _ =>
    match m.expect with
    | .absent => (findLot v.lots id).isNone
    | _ => plannedIn v.lots id
  | .unplan id => plannedIn v.lots id
  | .tankTarget _ _ => true

def TankRow.withTarget (g : Option Target) (r : TankRow) : TankRow := { r with target := g }

/-- R85: the move takes effect on the view. -/
def View.apply (base : Table Lot) (k : Nat) (v : View) : MoveBody → View
  | .plan id mass target foot =>
    if (findLot v.lots id).isSome then
      { v with lots := v.lots.map (fun p => if p.2.id = id then (p.1, p.2.replan mass target foot) else p) }
    else { v with lots := v.lots ++ [(trialIndex base k id, newPlanned id mass target foot)] }
  | .unplan id => { v with lots := v.lots.filter (fun p => decide (p.2.id ≠ id)) }
  | .tankTarget t g => { v with tanks := tput v.tanks t (((tget v.tanks t).getD TankRow.fresh).withTarget g) }

/-- R87: one move of the replay; a move that does not fit is void and passed over. -/
def View.replayMove (base : Table Lot) (v : View) (p : Move × Nat) : View :=
  if v.fits p.1 then v.apply base p.2 p.1.body else v

/-- R87: the replay of every frame, from the bottom upward, over a condition. -/
def replay (c : Condition) (frames : List (List Move)) : View :=
  frames.flatten.zipIdx.foldl (View.replayMove c.lots) ⟨c.lots, c.tanks⟩

def trialView (s : State) : View := replay s.cond s.frames

/-! ### Adding moves (R86, R91, R92) -/

/-- Pool entries in use (R84). -/
def poolInUse (frames : List (List Move)) : Nat := frames.flatten.length

/-- R37, R45, R92: a target's density is in range. -/
def targetDensityOk (g : Option Target) : Bool :=
  match g with
  | some g => densityOk g.density
  | none => true

/-- R35: a target's contents is no greater than the capacity mass at its density. -/
def targetFits (geom : TankGeom) (g : Option Target) : Bool :=
  match g with
  | some g => decide (g.contents ≤ capacityMass geom g.density)
  | none => true

/-- R92 step 2. -/
def moveValuesOk (ship : ShipData) : MoveBody → Bool
  | .plan id mass target foot => lotIdOk id && declaredOk mass && locOk ship target && foot.all footOk
  | .unplan id => lotIdOk id
  | .tankTarget t g =>
    targetDensityOk g && (match tget ship.tanks t with | some geom => targetFits geom g | none => true)

/-- R86: what a lot of the view was, as a move records it. -/
def Lot.expected (k : Lot) : Expect := .planned k.declared k.loc k.footprint

/-- R92 steps 3 and 4 with R86: the expectation the move records, or the status it fails with. -/
def moveMeets (ship : ShipData) (v : View) : MoveBody → Except Status Expect
  | .plan id _ _ _ =>
    match findLot v.lots id with
    | none => .ok .absent
    | some (_, k) => if k.isPlanned then .ok k.expected else .error .state
  | .unplan id =>
    match findLot v.lots id with
    | none => .error .notFound
    | some (_, k) => if k.isPlanned then .ok k.expected else .error .state
  | .tankTarget t _ =>
    match tget ship.tanks t with
    | none => .error .notFound
    | some _ => .ok (.tank ((tget v.tanks t).getD TankRow.fresh).target)

/-- R92: the move that 28 bytes carry, checked against the view and the pool. -/
def checkMove (ship : ShipData) (v : View) (used : Nat) (b : List Byte) : Except Status Move :=
  match moveOf b with
  | none => .error .badValue
  | some body =>
    if !moveValuesOk ship body then .error .badValue
    else
      match moveMeets ship v body with
      | .error e => .error e
      | .ok x => if Config.poolEntries ≤ used then .error .full else .ok ⟨body, x⟩

/-- Append a move to the top frame. -/
def pushMove (frames : List (List Move)) (m : Move) : List (List Move) :=
  match frames.getLast? with
  | some top => frames.dropLast ++ [top ++ [m]]
  | none => frames

/-- R91: the moves of a batch, one at a time; the frames after it, how many were applied, and the status. -/
def addAll (ship : ShipData) (c : Condition) : List (List Byte) → List (List Move) → List (List Move) × Nat × Status
  | [], frames => (frames, 0, .done)
  | b :: rest, frames =>
    match checkMove ship (replay c frames) (poolInUse frames) b with
    | .error e => (frames, 0, e)
    | .ok m =>
      let r := addAll ship c rest (pushMove frames m)
      (r.1, r.2.1 + 1, r.2.2)

/-! ### Folding into the plan (R95, R96) -/

/-- Why a fold is refused: its status and its cause code (11.3). -/
structure FoldFail where
  status : Status
  cause  : Nat
deriving DecidableEq, Repr

def FoldFail.lotState : FoldFail := ⟨.conflict, 1⟩
def FoldFail.lotValues : FoldFail := ⟨.conflict, 2⟩
def FoldFail.tankTransfer : FoldFail := ⟨.conflict, 3⟩
def FoldFail.tankTarget : FoldFail := ⟨.conflict, 4⟩
def FoldFail.full : FoldFail := ⟨.full, 0⟩

/-- R95: a PLANNED expectation against the lot of the working copy, with what the move does to it when they agree. -/
def foldPlanned (c : Condition) (id : Nat) (x : Expect) (act : Nat → Lot → Condition) : Except FoldFail Condition :=
  match findLot c.lots id with
  | none => .error .lotState
  | some (slot, k) =>
    if !k.isPlanned then .error .lotState
    else if k.expected ≠ x then .error .lotValues
    else .ok (act slot k)

/-- R20, R96: a PLAN move expecting ABSENT creates its lot in the lowest FREE slot. -/
def foldCreate (c : Condition) (id mass : Nat) (target : Loc) (foot : Option Footprint) : Except FoldFail Condition :=
  if (findLot c.lots id).isSome then .error .lotState
  else
    match freeSlot c.lots with
    | none => .error .full
    | some slot => .ok { c with lots := tput c.lots slot (newPlanned id mass target foot) }

/-- R95: a TANK TARGET move against the tank of the working copy. -/
def foldTarget (c : Condition) (t : Nat) (g : Option Target) (x : Expect) : Except FoldFail Condition :=
  let row := (tget c.tanks t).getD TankRow.fresh
  if row.transfer.isSome then .error .tankTransfer
  else if Expect.tank row.target ≠ x then .error .tankTarget
  else .ok { c with tanks := tput c.tanks t (row.withTarget g) }

/-- R95, R96: one move against the working copy, and the copy after it. -/
def foldMove (c : Condition) (m : Move) : Except FoldFail Condition :=
  match m.body with
  | .plan id mass target foot =>
    match m.expect with
    | .absent => foldCreate c id mass target foot
    | x => foldPlanned c id x (fun slot k => { c with lots := tput c.lots slot (k.replan mass target foot) })
  | .unplan id =>
    foldPlanned c id m.expect (fun slot _ => { c with lots := tdrop c.lots slot, seq := seqDrop id .load c.seq })
  | .tankTarget t g => foldTarget c t g m.expect

/-- R95: the moves of the bottom frame in their order; the condition they leave, or the first failure with its
position. -/
def foldMoves (c : Condition) : Nat → List Move → Except (FoldFail × Nat) Condition
  | _, [] => .ok c
  | i, m :: rest =>
    match foldMove c m with
    | .error e => .error (e, i)
    | .ok c' => foldMoves c' (i + 1) rest

end Sys2Proof.Machine
end

