-- ==== Sys2Proof/Machine/Contexts.lean ====
section
/-! DEFINITION. The contexts and the pass arbiter (chapter 4): the items each context counts (R38, R39, R49, R154), the
items of a prediction (R142, R165), what a pass and a prediction capture (R72, R79, R100, R101), and the arbiter's
choice (R76, R77). -/

namespace Sys2Proof.Machine

/-! ### Items (R38, R39, R49) -/

/-- R38: each coordinate of the midpoint is rounded with halves away from zero. -/
def midpointOf (a b : Pos) : Pos := ⟨rdiv (a.x + b.x) 2, rdiv (a.y + b.y) 2, rdiv (a.z + b.z) 2⟩

def boomItem (k : Crane) (tip : Pos) : Item := { mass := k.boomMass, pos := midpointOf k.pivot tip, kind := .boom }

def hookItem (h : HookItem) : Item := { mass := h.load, pos := h.tip, kind := .hook }

def lightshipItems (ship : ShipData) : List Item :=
  match ship.lightship with
  | some e => [{ mass := e.mass, pos := e.cg, kind := .lightship }]
  | none => []

/-- The present cranes with their ship data. -/
def presentCranes (ship : ShipData) : List (CraneId × Crane) :=
  bothCranes.filterMap (fun c =>
    match tget ship.cranes c.num with
    | some k => if k.present = 0 then none else some (c, k)
    | none => none)

/-- A lot item at a location that names an area. -/
def lotItem (index mass : Nat) (loc : Loc) (foot : Option Footprint) : Item :=
  { mass := mass, pos := loc.pos, kind := .lot index (some loc.area) foot }

/-- A lot item at a tip: no area, no footprint. -/
def tipItem (index mass : Nat) (tip : Pos) : Item := { mass := mass, pos := tip, kind := .lot index none none }

/-- R39, R50: the tanks counted, each at the mass and density a context gives it, when that mass is above 0. -/
def tankItems (ship : ShipData) (counted : Nat → Nat × Nat) : List Item :=
  ship.tanks.filterMap (fun p =>
    if (counted p.1).1 = 0 then none else some (tankItem p.1 p.2 (counted p.1).1 (counted p.1).2))

/-! ### ACTUAL (R39, R154) -/

/-- The lead or single crane of a LIFTING lot, from its cranes and the roles of the records (R154). -/
def leadOf (s : State) (crane1 crane2 : Bool) : CraneId :=
  if crane1 && crane2 then (if (s.liftRec .one).role = some .partner then .two else .one)
  else if crane2 then .two else .one

/-- R154: the sum of the present hook loads of the lot's cranes. -/
def hookSum (s : State) (crane1 crane2 : Bool) : Nat :=
  (if crane1 then s.cond.hooks.one.load else 0) + (if crane2 then s.cond.hooks.two.load else 0)

/-- R154: the aboard part of a LIFTING lot, from its direction and the record of its lead or single crane; `h` is H
and `tip` the tip of the latest accepted report. -/
def aboardPart (slot : Nat) (k : Lot) (dir : Direction) (r : LiftRecord) (h : Nat) (tip : Pos) : List Item :=
  match r.state with
  | .lowering =>
    match r.landing with
    | some (.aboard loc) => [lotItem slot (k.measured.getD 0 - h) loc k.footprint]
    | _ => []
  | .setDown => [tipItem slot (k.measured.getD 0) (r.setDownTip.getD tip)]
  | .hoisted =>
    match dir with
    | .discharge => [lotItem slot (k.mass - h) k.loc k.footprint]
    | .load => [tipItem slot (k.measured.getD 0 - h) tip]
  | .idle => []
  | _ =>
    match dir with
    | .discharge => [lotItem slot (k.mass - h) k.loc k.footprint]
    | .load => []

/-- R39: what ACTUAL counts of the lot in a slot. -/
def actualLot (s : State) (p : Nat × Lot) : List Item :=
  match p.2.state with
  | .planned => []
  | .aboard => [lotItem p.1 p.2.mass p.2.loc p.2.footprint]
  | .lifting _ dir a b =>
    let lead := leadOf s a b
    aboardPart p.1 p.2 dir (s.liftRec lead) (hookSum s a b) (s.cond.hooks.get lead).tip

/-- The items of ACTUAL, or of ACTUAL as a prediction modifies it: the hook item and the boom's tip of each crane, the
lots but for the one in a slot left out, the items put in its place, and the mass and density of each tank. -/
def gatherActual (s : State) (hook : CraneId → HookItem) (boomTip : CraneId → Pos) (skip : Option Nat)
    (extra : List Item) (counted : Nat → Nat × Nat) : List Item :=
  lightshipItems s.ship
    ++ (presentCranes s.ship).map (fun p => boomItem p.2 (boomTip p.1))
    ++ (presentCranes s.ship).map (fun p => hookItem (hook p.1))
    ++ (s.cond.lots.filter (fun p => decide (some p.1 ≠ skip))).flatMap (actualLot s)
    ++ extra
    ++ tankItems s.ship counted

/-- ACTUAL counts a tank at its contents and density. -/
def tankNow (s : State) (t : Nat) : Nat × Nat := ((s.tankRow t).contents, (s.tankRow t).density)

def hookNow (s : State) (c : CraneId) : HookItem := s.cond.hooks.get c

def tipNow (s : State) (c : CraneId) : Pos := (s.cond.hooks.get c).tip

/-- R39, column ACTUAL. -/
def actualItems (s : State) : List Item := gatherActual s (hookNow s) (tipNow s) none [] (tankNow s)

/-! ### PLAN and TRIAL (R39, R87) -/

def planLot (p : Nat × Lot) : List Item :=
  match p.2.state with
  | .planned => [lotItem p.1 p.2.declared p.2.loc p.2.footprint]
  | .aboard => if p.2.mark then [] else [lotItem p.1 p.2.mass p.2.loc p.2.footprint]
  | .lifting _ .load _ _ => [lotItem p.1 p.2.declared p.2.loc p.2.footprint]
  | .lifting _ .discharge _ _ => []

/-- PLAN counts a tank at its target when one is set. -/
def tankPlanned (tanks : Table TankRow) (t : Nat) : Nat × Nat :=
  let row := (tget tanks t).getD TankRow.fresh
  match row.target with
  | some g => (g.contents, g.density)
  | none => (row.contents, row.density)

/-- R39, column PLAN, over some lots and tanks. -/
def planItemsOf (ship : ShipData) (lots : Table Lot) (tanks : Table TankRow) : List Item :=
  lightshipItems ship ++ (presentCranes ship).map (fun p => boomItem p.2 p.2.park) ++ lots.flatMap planLot
    ++ tankItems ship (tankPlanned tanks)

def planItems (s : State) : List Item := planItemsOf s.ship s.cond.lots s.cond.tanks

/-- R87: TRIAL counts the items of the view as PLAN counts those of the plan. -/
def trialItems (s : State) : List Item := planItemsOf s.ship (trialView s).lots (trialView s).tanks

def itemsOf (s : State) : Ctx → List Item
  | .actual => actualItems s
  | .plan => planItems s
  | .trial => trialItems s

/-! ### Limit sets (R100, R101) -/

def carries (r : LiftRecord) : Bool := decide (r.state = .hoisted) || decide (r.state = .lowering)

/-- R100: the set ACTUAL is judged against. -/
def actualLimitName (s : State) : LimitName :=
  if carries s.gate.recs.one || carries s.gate.recs.two then .lift else .harbour

def limitsOf (w : Settings) : LimitName → LimitSet
  | .harbour => w.harbour
  | .lift => w.lift

def limitNameOf (s : State) : Ctx → LimitName
  | .actual => actualLimitName s
  | _ => .harbour

/-! ### The facts captured for C12 to C16 (R108, R109) -/

def eventViolation (c : CheckClass) (index : Nat) (o : VOutcome) (value limit : Int) : Violation :=
  { cls := c, index := index, outcome := o, value := value, limit := limit }

/-- C12 for the cranes and the tanks that are stale. -/
def staleEvents (s : State) : List Violation :=
  (bothCranes.filter (fun c => s.gate.stale.get c)).map (fun c =>
      eventViolation .c12 c.num .event
        (match (s.liftRec c).lastReport with | some t => age s.time t | none => 0 : Nat) s.settings.hookStale)
    ++ (s.cond.tanks.filter (fun p => p.2.stale)).map (fun p =>
      eventViolation .c12 (16 + p.1) .event (age s.time p.2.time) s.settings.tankStale)

/-- The lot id of the head of the stow sequence, 0 when there is no head. -/
def headLot (s : State) : Nat :=
  match seqHead s.cond.lots s.cond.seq with
  | some i => (s.cond.seq[i]?.map SeqEntry.lot).getD 0
  | none => 0

/-- C13 for the lifts accepted as a sequence deviation. -/
def deviationEvents (s : State) : List Violation :=
  sortBy Violation.index (bothCranes.filterMap (fun c =>
    match (s.liftRec c).deviation, (s.liftRec c).lot with
    | true, some l => some (eventViolation .c13 l.slot .event l.id (headLot s))
    | _, _ => none))

/-- C14 for the lots whose DISCREPANCY flag is set. -/
def discrepancyEvents (s : State) : List Violation :=
  (s.cond.lots.filter (fun p => p.2.discrepancy)).map (fun p =>
    eventViolation .c14 p.1 (if p.2.declared < p.2.measured.getD 0 then .high else .low) (p.2.measured.getD 0 : Nat)
      p.2.declared)

/-- C15 for the present IDLE cranes whose hook holds the threshold or more. -/
def unclearedEvents (s : State) : List Violation :=
  ((presentCranes s.ship).filter (fun p =>
      decide ((s.liftRec p.1).state = .idle) && decide (s.settings.untracked ≤ (s.cond.hooks.get p.1).load))).map
    (fun p => eventViolation .c15 p.1.num .high (s.cond.hooks.get p.1).load s.settings.untracked)

/-- C16 for the GRANTED transfers whose overrun mark is set. -/
def overrunEvents (s : State) : List Violation :=
  s.ballast.transfers.filterMap (fun p =>
    match p.2.phase with
    | .granted _ _ _ amount true => some (eventViolation .c16 p.1 .high amount p.2.planned)
    | _ => none)

/-- C12 to C16 in class-then-index order. -/
def capturedEvents (s : State) : List Violation :=
  staleEvents s ++ deviationEvents s ++ discrepancyEvents s ++ unclearedEvents s ++ overrunEvents s

/-- R67: an input of ACTUAL is stale. -/
def taintNow (s : State) : Bool := anyCraneStale s || anyTankStale s

/-! ### Captures (R72, R79) -/

/-- R72: what a pass of a context captures. -/
def capturePass (s : State) (x : Ctx) : Pass :=
  { ctx := x, gen := (s.ctx x).gen, items := itemsOf s x, rho := s.settings.seaDensity,
    limitName := limitNameOf s x, limits := limitsOf s.settings (limitNameOf s x),
    tainted := decide (x = .actual) && taintNow s,
    events := if x = .actual then capturedEvents s else [] }

/-- The lift a demand is held for. -/
def liftForKey (s : State) : DemandKey → Option LiftRef
  | .recheck => s.gate.slot
  | .lift lead => some (liftOf s lead)
  | .transfer _ => none

/-- The lot of a lift, with its slot (R131). -/
def liftLot (s : State) (r : LiftRef) : Option (Nat × Lot) :=
  match (s.liftRec r.lead).lot with
  | some l => (tget s.cond.lots l.slot).map (fun k => (l.slot, k))
  | none => none

/-- R142: the lift mass of a crane of a lift. -/
def liftMass (s : State) (r : LiftRef) (k : Lot) (c : CraneId) : Nat :=
  match r.partner with
  | none => k.mass
  | some _ => (s.liftRec c).share.getD 0

def liftMassSum (s : State) (r : LiftRef) (k : Lot) : Nat := (r.cranes.map (liftMass s r k)).sum

/-- R142: the items of the HOOK pass. -/
def hookPassItems (s : State) (r : LiftRef) : List Item :=
  match liftLot s r with
  | none => actualItems s
  | some (slot, k) =>
    let worst (c : CraneId) : Pos := (s.liftRec c).worst.getD (tipNow s c)
    gatherActual s
      (fun c => if r.cranes.contains c then ⟨liftMass s r k c, worst c⟩ else hookNow s c)
      (fun c => if r.cranes.contains c then worst c else tipNow s c)
      (some slot) [] (tankNow s)

/-- R142: the items of the LANDED pass. -/
def landedPassItems (s : State) (r : LiftRef) : List Item :=
  match liftLot s r with
  | none => actualItems s
  | some (slot, k) =>
    gatherActual s
      (fun c => if r.cranes.contains c then ⟨0, tipNow s c⟩ else hookNow s c)
      (tipNow s) (some slot)
      (match (s.liftRec r.lead).dir, (s.liftRec r.lead).plan with
       | some .load, some loc => [lotItem slot (liftMassSum s r k) loc k.footprint]
       | _, _ => [])
      (tankNow s)

/-- R165: the end contents and density of one tank of a transfer; `base` gives the base contents of a tank end. -/
def endState (s : State) (t : Transfer) (base : Nat → Nat) (tank : Nat) : Nat × Nat :=
  let row := s.tankRow tank
  if t.source = .tank tank then (base tank - t.planned, row.density)
  else
    let density :=
      if 0 < base tank then row.density
      else
        match t.source with
        | .sea => s.settings.seaDensity
        | .tank src => (s.tankRow src).density
    let cap := match s.tankGeom? tank with | some g => capacityMass g density | none => 0
    (min (base tank + t.planned) cap, density)

/-- R161: the starting contents of a tank end of a GRANTED transfer. -/
def startOf (t : Transfer) (ss sd : Option Nat) (tank : Nat) : Nat :=
  if t.source = .tank tank then ss.getD 0 else sd.getD 0

/-- R165: how the TRANSFER pass for a request counts a tank. -/
def tankEnd (s : State) (id tank : Nat) : Nat × Nat :=
  match (s.tankRow tank).transfer with
  | none => tankNow s tank
  | some n =>
    match tget s.ballast.transfers n with
    | none => tankNow s tank
    | some t =>
      match t.phase with
      | .granted ss sd _ _ _ => endState s t (startOf t ss sd) tank
      | .requested _ _ => if n = id then endState s t (fun k => (s.tankRow k).contents) tank else tankNow s tank

/-- R165: the items of the TRANSFER pass. -/
def transferPassItems (s : State) (id : Nat) : List Item :=
  gatherActual s (hookNow s) (tipNow s) none [] (tankEnd s id)

/-- R79, R101: what a prediction captures. -/
def capturePrediction (s : State) (k : DemandKey) : Prediction :=
  let after := limitsOf s.settings (actualLimitName s)
  let base : Prediction :=
    { key := k, phase := .hook, gen := s.eval.actual.gen, rho := s.settings.seaDensity, hookItems := [],
      lastItems := [], hookLimits := s.settings.lift, lastLimits := after, tainted := taintNow s, first := none }
  match k with
  | .transfer id => { base with phase := .transfer, lastItems := transferPassItems s id }
  | k =>
    match liftForKey s k with
    | some r => { base with hookItems := hookPassItems s r, lastItems := landedPassItems s r }
    | none => { base with hookItems := actualItems s, lastItems := actualItems s }

/-! ### The arbiter (R76, R77) -/

def GateEntry.key : GateEntry → DemandKey
  | .lift r => .lift r.lead
  | .transfer id => .transfer id

/-- R78: the demand order: the re-check first, then the entries of the gate queue. -/
def demandOrder (s : State) : List DemandKey := .recheck :: s.gate.queue.map GateEntry.key

/-- R122: while suspension is in force no prediction is run for a lift entry, so its waiting demand, which the next
decision withdraws or merges, is no candidate (log 18). -/
def demandRuns (s : State) : DemandKey → Bool
  | .lift _ => !s.suspended
  | _ => true

/-- The waiting demand that stands first in the demand order, of those that may be run (R77, R78, R122). -/
def firstDemand (s : State) : Option DemandKey :=
  (demandOrder s).find? (fun k => s.eval.waiting.contains k && demandRuns s k)

def trialEligible (s : State) : Bool := s.eval.trial.dirty && !s.frames.isEmpty

/-- R77: some non-ACTUAL candidate exists. -/
def nonActualWaits (s : State) : Bool := (firstDemand s).isSome || s.eval.plan.dirty || trialEligible s

def CtxState.captured (c : CtxState) : CtxState := { c with dirty := false }

def Eval.clean (e : Eval) : Ctx → Eval
  | .actual => { e with actual := e.actual.captured }
  | .plan => { e with plan := e.plan.captured }
  | .trial => { e with trial := e.trial.captured }

/-- R72: a pass begins: it captures, and the context's dirty flag is cleared. -/
def beginPass (x : Ctx) (alt : Nat) (s : State) : State :=
  { s with eval := { s.eval.clean x with unit := .pass (capturePass s x), alt := alt } }

/-- R79: a demand becomes IN FLIGHT. -/
def beginPrediction (k : DemandKey) (s : State) : State :=
  { s with eval :=
    { s.eval with
      unit := .predicting (capturePrediction s k), alt := 0
      waiting := s.eval.waiting.filter (fun j => decide (j ≠ k)) } }

/-- R77: the arbiter's choice; with no candidate the unit stays IDLE. -/
def choose (s : State) : State :=
  if s.eval.actual.dirty && (decide (s.eval.alt < 2) || !nonActualWaits s) then
    beginPass .actual (min (s.eval.alt + 1) 2) s
  else
    match firstDemand s with
    | some k => beginPrediction k s
    | none =>
      if s.eval.plan.dirty then beginPass .plan 0 s
      else if trialEligible s then beginPass .trial 0 s
      else s

/-- R76: in SERVICE the unit is never IDLE while a candidate is eligible; outside SERVICE it makes no choice. -/
def kick (s : State) : State := if s.mode = .service ∧ s.eval.unit = .idle then choose s else s

/-- What follows every step that changed something: the arbiter's choice, the lines, and the start of transmissions
(log 8). -/
def settle (s : State) : State := startAllTx (refreshLines (kick s))

end Sys2Proof.Machine
end

