-- ==== Sys2Proof/Machine/Judge.lean ====
section
/-! DEFINITION. The limit monitor (chapters 6 and 7): comparison, the judgement of a set, the violation list, the FIRST
and NEXT records, the suspension trigger and the corrective-transfer test. -/

namespace Sys2Proof.Machine

/-! ### Comparison (R102) -/

/-- The outcome of a comparison of a VALID value with a lower and an upper limit, and the limit it met; none is
WITHIN. -/
def compareBounds (lo hi : Option Int) (v : Int) : Option (VOutcome × Int) :=
  match lo with
  | some l => if v < l then some (.low, l) else
    match hi with
    | some h => if h < v then some (.high, h) else none
    | none => none
  | none =>
    match hi with
    | some h => if h < v then some (.high, h) else none
    | none => none

def violationOf (c : CheckClass) (index : Nat) (v : Int) (o : Option (VOutcome × Int)) : List Violation :=
  match o with
  | some (out, limit) => [{ cls := c, index := index, outcome := out, value := v, limit := limit }]
  | none => []

/-- A check of a quantity by two bounds; a quantity that is not VALID gives no violation of its own class. -/
def checkQuantity (c : CheckClass) (index : Nat) (q : Quantity) (lo hi : Option Int) : List Violation :=
  if q.isValid then violationOf c index q.val (compareBounds lo hi q.val) else []

/-! ### The classes C1 to C11 (R103 to R107) -/

/-- R103. -/
def stabilityChecks (r : ResultSet) (w : LimitSet) : List Violation :=
  checkQuantity .c1 0 r.gm (some w.gmMin) none
    ++ checkQuantity .c2 0 r.heel (some (-(w.heelMax : Int))) (some w.heelMax)
    ++ (if r.heel.cls = .undefined then [eventViolation .c3 0 .unordered r.gm.val 0] else [])

/-- R104. -/
def draftChecks (r : ResultSet) (w : LimitSet) : List Violation :=
  checkQuantity .c4 0 r.trim (some (-(w.trimMax : Int))) (some w.trimMax)
    ++ checkQuantity .c5 0 r.draftAft none (some w.draftMax)
    ++ checkQuantity .c5 1 r.draftFore none (some w.draftMax)
    ++ checkQuantity .c5 2 r.draft none (some w.draftMax)
    ++ checkQuantity .c6 0 r.w none (some w.dispMax)

/-- R105: one class at every cut; the cuts of a set whose strength is VALID are numbered from 1. -/
def cutChecks (c : CheckClass) (value : Int × Int → Int) (lo hi : Strength → Int) (limits : Table Strength)
    (r : ResultSet) : List Violation :=
  if r.strength = .valid then
    r.cuts.zipIdx.flatMap (fun p =>
      match tget limits (p.2 + 1) with
      | some e => violationOf c (p.2 + 1) (value p.1) (compareBounds (some (lo e)) (some (hi e)) (value p.1))
      | none => [])
  else []

def strengthChecks (limits : Table Strength) (r : ResultSet) : List Violation :=
  cutChecks .c7 Prod.fst (fun e => -(e.shear : Int)) (fun e => e.shear) limits r
    ++ cutChecks .c8 Prod.snd (fun e => -(e.sag : Int)) (fun e => e.hog) limits r

/-- R106. -/
def loadChecks (areas : Table Area) (r : ResultSet) : List Violation :=
  areas.flatMap (fun p =>
      let total := (tget r.areas p.1).getD 0
      violationOf .c9 p.1 total (compareBounds none (some p.2.maxMass) total))
    ++ r.pressures.flatMap (fun e =>
      match tget areas e.area with
      | some a => violationOf .c10 e.index e.pressure (compareBounds none (some a.maxPressure) e.pressure)
      | none => [])

/-- R107: the displacement of the last hydrostatic row. -/
def lastDisp (ship : ShipData) : Int :=
  match (hydroRows ship).getLast? with
  | some r => r.disp
  | none => 0

/-- R107. -/
def tableChecks (ship : ShipData) (r : ResultSet) : List Violation :=
  (if [r.draft, r.km, r.lcb, r.lcf, r.mtcm, r.fsc, r.gm, r.heel, r.trim, r.draftAft, r.draftFore].any Quantity.isOut
    then [eventViolation .c11 0 .unordered r.wStd.val (lastDisp ship)] else [])
    ++ (if r.strength = .outOfTable then [eventViolation .c11 1 .unordered 0 0] else [])

/-- R116: the judgement of a set over C1 to C11, in class-then-index order. -/
def judge (ship : ShipData) (w : LimitSet) (r : ResultSet) : List Violation :=
  stabilityChecks r w ++ draftChecks r w ++ strengthChecks ship.strength r ++ loadChecks ship.areas r
    ++ tableChecks ship r

/-- R111: the judgement of a published set: C1 to C11, and for ACTUAL the captured facts of C12 to C16. -/
def judgePass (ship : ShipData) (p : Pass) (r : ResultSet) : List Violation := judge ship p.limits r ++ p.events

/-! ### The violation list (R111, R112) -/

def Violation.samePair (a b : Violation) : Bool := decide (a.cls = b.cls) && decide (a.index = b.index)

/-- The pair of `v` stands in a judgement. -/
def standsIn (l : List Violation) (v : Violation) : Bool := l.any v.samePair

/-- R112, steps 1 to 3 in one walk of the new judgement: a persisting pair keeps its entry with the new figures, a
pair without one is given an entry while `room` lasts, and an entry whose pair has cleared is left behind. -/
def relist (now : Count32) (kept : List Violation) (old : List ListEntry) : Nat → List Violation → List ListEntry
  | _, [] => []
  | room, v :: rest =>
    match old.find? (fun e => v.samePair e.viol) with
    | some e => { e with viol := v } :: relist now kept old room rest
    | none =>
      match room with
      | 0 => relist now kept old 0 rest
      | n + 1 => { viol := v, firstSeen := now, late := standsIn kept v } :: relist now kept old n rest

/-- The entries whose pairs persist. -/
def persisting (old : List ListEntry) (new : List Violation) : List ListEntry :=
  old.filter (fun e => standsIn new e.viol)

/-- R112: the list after a publication; `relist` gives an entry to new pairs while it holds fewer than 48. -/
def updateList (now gen : Count32) (name : LimitName) (new : List Violation) (v : ViolationList) : ViolationList :=
  { kept := new
    entries := relist now v.kept v.entries (Config.listEntries - (persisting v.entries new).length) new
    gen := gen
    limitName := name }

/-- R111: the pairs of the new judgement that the kept one does not hold. -/
def newlyAppearing (kept new : List Violation) : List Violation := new.filter (fun v => !standsIn kept v)

def someCleared (kept new : List Violation) : Bool := kept.any (fun v => !standsIn new v)

/-! ### FIRST, NEXT and the STOP count (R117) -/

/-- One newly appearing STOP violation. -/
def fillRecord (gen : Count32) (s : State) (v : Violation) : State :=
  let rec_ : ViolationRecord := { viol := v, time := s.time, gen := gen }
  let counted := bump s.monitor.stopCount
  match s.monitor.first with
  | none => latchOn .record allLinks { s with monitor := { s.monitor with first := some rec_, stopCount := counted } }
  | some _ => { s with monitor := { s.monitor with next := some rec_, stopCount := counted } }

/-- R117: every newly appearing violation of severity STOP, in order. -/
def fillRecords (gen : Count32) (appeared : List Violation) (s : State) : State :=
  (appeared.filter (fun v => decide (s.settings.severity.get v.cls = .stop))).foldl (fillRecord gen) s

/-! ### The suspension trigger (R119, R120) -/

/-- R119: a severity is at or above the trigger. -/
def atTrigger (t : Trigger) (v : Severity) : Bool :=
  match t with
  | .never => false
  | .caution => v.atLeast .caution
  | .stop => v.atLeast .stop

/-- R120, R124: the first standing violation of ACTUAL at or above the trigger. -/
def firstAtTrigger (s : State) : Option Violation :=
  s.monitor.actual.kept.find? (fun v => atTrigger s.settings.trigger (s.settings.severity.get v.cls))

/-! ### The gate threshold (R110, R143) -/

/-- The first violation of the highest severity. -/
def worstOf (m : SeverityMap) : List Violation → Option Violation
  | [] => none
  | v :: rest =>
    match worstOf m rest with
    | none => some v
    | some b => if (m.get v.cls).atLeast (m.get b.cls) then some v else some b

/-- R143: the worst class of some judgements when it blocks at the gate threshold. -/
def blocking (w : Settings) (l : List Violation) : Option CheckClass :=
  match worstOf w.severity l with
  | some v => if (w.severity.get v.cls).atLeast w.gateThreshold then some v.cls else none
  | none => none

/-! ### The corrective-transfer test (R123) -/

/-- The excess of a violation; none for UNORDERED and EVENT. -/
def Violation.excess (v : Violation) : Option Int :=
  match v.outcome with
  | .high => some (v.value - v.limit)
  | .low => some (v.limit - v.value)
  | _ => none

/-- How a pair of the ACTUAL side fares in the prediction. -/
inductive Fare where
  | improved | unchanged | worsened
deriving DecidableEq, Repr

/-- R123, the table. -/
def fare (pred : List Violation) (p : Violation) : Fare :=
  match pred.find? p.samePair with
  | none => .improved
  | some q =>
    match p.excess, q.excess with
    | some e, some e' => if e' < e then .improved else if e' = e then .unchanged else .worsened
    | _, _ => .unchanged

/-- C1 to C11. -/
def hasCounterpart (c : CheckClass) : Bool := decide (c.num ≤ 11)

/-- R123: the ACTUAL side. -/
def actualSide (m : SeverityMap) (kept : List Violation) : List Violation :=
  kept.filter (fun v => hasCounterpart v.cls && decide (m.get v.cls = .stop))

/-- R123: the transfer is corrective. -/
def corrective (m : SeverityMap) (kept pred : List Violation) : Bool :=
  let side := actualSide m kept
  side.all (fun p => decide (fare pred p ≠ .worsened)) && side.any (fun p => decide (fare pred p = .improved))
    && pred.all (fun v => decide (m.get v.cls ≠ .stop) || standsIn side v)

end Sys2Proof.Machine
end

