-- ==== Sys2Proof/Machine/Gate.lean ====
section
/-! DEFINITION. The lift gate and the transfer table's shared operations (chapters 8 and 9): staleness, decision rounds,
grants, withdrawals, the ends of lifts and of transfers, and what the gate does with a delivered prediction.

None of these but `withdrawClearance`, `grantLift` and `grantTransfer` advances a generation: one event advances each
context once (R155), so the command that makes the event advances them. -/

namespace Sys2Proof.Machine

/-! ### Staleness (R149, R160) -/

/-- R149: the crane is stale by its state and the age of its last report (log 7). -/
def craneStaleNow (s : State) (c : CraneId) : Bool := (s.liftRec c).state.pastRequested && !hookFresh s c

/-- The GRANTED transfer that involves a tank. -/
def grantedFor (s : State) (t : Nat) : Option (Nat × Transfer) :=
  match (s.tankRow t).transfer with
  | none => none
  | some id =>
    match tget s.ballast.transfers id with
    | some x =>
      match x.phase with
      | .granted _ _ _ _ _ => some (id, x)
      | .requested _ _ => none
    | none => none

/-- R160: the tank is stale by its transfer and the age of its reading (log 7). -/
def tankStaleNow (s : State) (t : Nat) : Bool := (grantedFor s t).isSome && !tankFresh s t

/-- R149: a crane becomes stale: STALE is latched on its link and on L0. -/
def craneGoesStale (c : CraneId) (s : State) : State := latchOn .stale [c.link, .l0] (s.setStale c true)

/-- R160: a tank becomes stale: STALE is latched on L3 and on L0. -/
def tankGoesStale (t : Nat) (s : State) : State :=
  latchOn .stale [.l3, .l0] (s.setTankRow t { s.tankRow t with stale := true })

/-- R149: a write of the stale period is judged against the present ages at once (log 7). -/
def rejudgeCrane (s : State) (c : CraneId) : State :=
  if craneStaleNow s c then (if s.gate.stale.get c then s else craneGoesStale c s) else s.setStale c false

def rejudgeTank (s : State) (t : Nat) : State :=
  if tankStaleNow s t then (if (s.tankRow t).stale then s else tankGoesStale t s)
  else if (s.tankRow t).stale then s.setTankRow t { s.tankRow t with stale := false } else s

def rejudgeCranes (s : State) : State := bothCranes.foldl rejudgeCrane s

def rejudgeTanks (s : State) : State := (s.cond.tanks.map Prod.fst).foldl rejudgeTank s

/-- The cranes leave the states in which a crane can be stale. -/
def clearStale (cs : List CraneId) (s : State) : State := cs.foldl (fun s c => s.setStale c false) s

/-! ### Decision rounds (R139, R140, R164) -/

def setReason (p : Pending) (r : LiftRecord) : LiftRecord := { r with reason := some p }

/-- R140: a step stops a lift entry. -/
def stopLift (r : LiftRef) (p : Pending) (s : State) : State :=
  withdrawDemand (.lift r.lead) (s.onRecs r.cranes (setReason p))

/-- R140, R143: the first of steps 1 to 4 that stops a lift entry; `tainted` is the mark judged at step 3.  Where a
hoisted lift holds the slot under suspension, R140's order gives EXCLUSIVE and R122 says SUSPENDED; the model follows
the order (DESIGN CHOICE, log 18). -/
def liftStop (s : State) (r : LiftRef) (tainted : Bool) : Option Pending :=
  if s.gate.slot.isSome then some .exclusive
  else if s.suspended then some .suspended
  else if tainted || r.cranes.any (fun c => !hookFresh s c) then some .stale
  else if !s.gate.window then some .window
  else none

def Transfer.setReason (p : Pending) (t : Transfer) : Transfer :=
  match t.phase with
  | .requested _ timer => { t with phase := .requested p timer }
  | .granted _ _ _ _ _ => t

/-- A pending reason of a REQUESTED transfer. -/
def setTransferReason (id : Nat) (p : Pending) (s : State) : State :=
  match tget s.ballast.transfers id with
  | some t => s.setTransfers (tput s.ballast.transfers id (t.setReason p))
  | none => s

/-- The tank ends of a transfer. -/
def Transfer.tankEnds (t : Transfer) : List Nat :=
  (match t.source with | .tank k => [k] | .sea => []) ++ (match t.dest with | .tank k => [k] | .sea => [])

/-- R162, R164, R166: every tank end has a fresh reading. -/
def endsFresh (s : State) (id : Nat) : Bool :=
  match tget s.ballast.transfers id with
  | some t => t.tankEnds.all (tankFresh s)
  | none => false

/-- R139, R140, R164: one entry of a round. -/
def decideEntry (s : State) (e : GateEntry) : State :=
  match e with
  | .lift r =>
    match liftStop s r (actualTainted s) with
    | some p => stopLift r p s
    | none => postDemand (.lift r.lead) s
  | .transfer id =>
    if actualTainted s || !endsFresh s id then withdrawDemand (.transfer id) (setTransferReason id .stale s)
    else postDemand (.transfer id) s

/-- R139: every entry of the queue, head first. -/
def decisionRound (s : State) : State := s.gate.queue.foldl decideEntry s

/-! ### Clearances (R143, R145, R122) -/

/-- An entry leaves the queue; those behind it close up. -/
def leaveQueue (e : GateEntry) (s : State) : State := s.setQueue (s.gate.queue.filter (fun x => decide (x ≠ e)))

def LiftRecord.cleared (now : Count32) (r : LiftRecord) : LiftRecord :=
  { r with state := .cleared, counter := 0, timer := some now, reason := none }

/-- R143: the lift is granted. -/
def grantLift (r : LiftRef) (s : State) : State :=
  let s := (leaveQueue (.lift r) s).onRecs r.cranes (LiftRecord.cleared s.time)
  advanceActual (latchLift r.cranes (s.setSlot (some r)))

def LiftRecord.requeued (now : Count32) (p : Pending) (r : LiftRecord) : LiftRecord :=
  { r with state := .requested, counter := 0, confirmed := none, timer := some now, reason := some p }

/-- R145: the clearance of the lift that holds the slot is withdrawn with a reason. -/
def withdrawClearance (r : LiftRef) (p : Pending) (s : State) : State :=
  let s := (withdrawDemand .recheck s).onRecs r.cranes (LiftRecord.requeued s.time p)
  let s := clearStale r.cranes (s.setSlot none)
  decisionRound (advanceActual (latchLift r.cranes (s.setQueue (.lift r :: s.gate.queue))))

/-- The lift that holds a standing clearance. -/
def standingClearance (s : State) : Option LiftRef :=
  match s.gate.slot with
  | some r => if (s.liftRec r.lead).state = .cleared then some r else none
  | none => none

/-- R122: suspension enters. -/
def enterSuspension (cause : SuspendCause) (s : State) : State :=
  let s := latchOn .suspend allLinks
    { s with monitor := { s.monitor with suspension := some { cause := cause, time := s.time } } }
  match standingClearance s with
  | some r => withdrawClearance r .suspended s
  | none => s

/-- R124, R125: suspension ends. -/
def endSuspension (s : State) : State :=
  latchOn .suspend allLinks { s with monitor := { s.monitor with suspension := none } }

/-! ### The ends of a lift (R136, R144, R146, R147, R153, R9) -/

/-- The record of a crane whose lift has ended.  The counter and the last report time are no part of the lift, and the
last pending reason of a TIMEOUT is the one the record holds at the end: a pairing timeout and a lapse, whose records
hold none, record none (DESIGN CHOICE, log 12). -/
def LiftRecord.ended (kind : EndKind) (r : LiftRecord) : LiftRecord :=
  { LiftRecord.reset with
    counter := r.counter
    offConfirmed := r.offConfirmed
    lastReport := r.lastReport
    lastOutcome := some
      { kind := kind, lot := codeOr LotRef.id r.lot, reason := if kind = .timeout then r.reason else none } }

/-- R136: the lot is again what it was before LIFTING. -/
def Lot.returned (k : Lot) : Lot :=
  match k.state with
  | .lifting .planned _ _ _ => { k with state := .planned, modified := true }
  | .lifting .aboard _ _ _ => { k with state := .aboard, modified := true }
  | _ => k

/-- A change to the lot of a slot. -/
def State.onLot (slot : Nat) (f : Lot → Lot) (s : State) : State :=
  match tget s.cond.lots slot with
  | some k => s.setLots (tput s.cond.lots slot (f k))
  | none => s

/-- A change to the lot of a lift. -/
def State.onLiftLot (r : LiftRef) (f : Lot → Lot) (s : State) : State :=
  match (s.liftRec r.lead).lot with
  | some l => s.onLot l.slot f
  | none => s

/-- Free the slot if the lift holds it, and start the round a freeing starts (R132). -/
def freeSlotOf (r : LiftRef) (s : State) : State :=
  if s.gate.slot = some r then decisionRound (s.setSlot none) else s

/-- A lift ends before its load is on the hook: its entry and its demands go, its lot returns to its origin, its cranes
become IDLE with an outcome, and the slot is freed if it holds it. -/
def releaseLift (r : LiftRef) (kind : EndKind) (s : State) : State :=
  let s := withdrawDemand (.lift r.lead) (leaveQueue (.lift r) s)
  let s := if s.gate.slot = some r then withdrawDemand .recheck s else s
  let s := (s.onLiftLot r Lot.returned).onRecs r.cranes (LiftRecord.ended kind)
  freeSlotOf r (latchLift r.cranes (clearStale r.cranes s))

/-- R153: the lot's record after a landing, when the lot is kept. -/
def Lot.landed (dir : Direction) (place : Landing) (k : Lot) : Lot :=
  match place with
  | .aboard loc => { k with state := .aboard, loc := loc, modified := true }
  | .ashore =>
    match dir with
    | .load => { k with state := .planned, modified := true }
    | .discharge => k

/-- R153: the lot and the stow sequence after a completion. -/
def landLot (dir : Direction) (place : Landing) (l : LotRef) (s : State) : State :=
  match dir, place with
  | .load, .aboard _ => (s.onLot l.slot (Lot.landed dir place)).setSeq (seqDrop l.id .load s.cond.seq)
  | .discharge, .ashore => (s.setLots (tdrop s.cond.lots l.slot)).setSeq (seqDrop l.id .discharge s.cond.seq)
  | _, _ => s.onLot l.slot (Lot.landed dir place)

/-- R153: the lift completes, its landing report being the lead's. -/
def completeLift (r : LiftRef) (s : State) : State :=
  let s :=
    match (s.liftRec r.lead).lot, (s.liftRec r.lead).dir, (s.liftRec r.lead).landing with
    | some l, some dir, some place => landLot dir place l s
    | _, _, _ => s
  freeSlotOf r (latchLift r.cranes (clearStale r.cranes (s.onRecs r.cranes (LiftRecord.ended .completed))))

/-! ### Transfers (R161, R163, R166, R169 to R171) -/

/-- A tank end's transfer field. -/
def setTankTransfer (v : Option Nat) (s : State) (t : Nat) : State :=
  s.setTankRow t { s.tankRow t with transfer := v }

/-- A tank end is left by its transfer: it ceases to be stale (R160). -/
def releaseTank (s : State) (t : Nat) : State :=
  s.setTankRow t { s.tankRow t with transfer := none, stale := false }

/-- R171: the record of an end. -/
def endRecord (now : Count32) (id : Nat) (t : Transfer) (kind : EndKind) : EndRecord :=
  match t.phase with
  | .requested reason _ =>
    { id := id, source := t.source, dest := t.dest, planned := t.planned, kind := kind,
      reason := if kind = .timeout then some reason else none, amount := none, overrun := false, time := now }
  | .granted _ _ _ amount overrun =>
    { id := id, source := t.source, dest := t.dest, planned := t.planned, kind := kind, reason := none,
      amount := some amount, overrun := overrun, time := now }

/-- R171: the log keeps the last four, newest first. -/
def logEnd (e : EndRecord) (s : State) : State :=
  { s with ballast := { s.ballast with log := (e :: s.ballast.log).take Config.maxTransfers } }

/-- R167, R169, R170, R9: a transfer is removed from the table, and from the queue if it is REQUESTED. -/
def removeTransfer (id : Nat) (t : Transfer) (kind : EndKind) (s : State) : State :=
  let s := withdrawDemand (.transfer id) (leaveQueue (.transfer id) s)
  let s := t.tankEnds.foldl releaseTank (s.setTransfers (tdrop s.ballast.transfers id))
  latchTransfer (logEnd (endRecord s.time id t kind) s)

/-- R166: the starting contents of an end. -/
def contentsAt (s : State) : End → Option Nat
  | .sea => none
  | .tank t => some (s.tankRow t).contents

/-- R166: the transfer is granted. -/
def grantTransfer (id : Nat) (t : Transfer) (s : State) : State :=
  let s := leaveQueue (.transfer id) s
  let phase := TransferPhase.granted (contentsAt s t.source) (contentsAt s t.dest) s.time 0 false
  advanceActual (latchTransfer (s.setTransfers (tput s.ballast.transfers id { t with phase := phase })))

/-! ### Deliveries (R143, R145, R166) -/

/-- R143: a lift prediction is delivered to its entry. -/
def deliverLift (r : LiftRef) (tainted : Bool) (worst : Option CheckClass) (s : State) : State :=
  if (s.liftRec r.lead).state ≠ .requested ∨ ¬ s.gate.queue.contains (.lift r) then s
  else
    match liftStop s r tainted with
    | some p => s.onRecs r.cranes (setReason p)
    | none =>
      match worst with
      | some c => s.onRecs r.cranes (setReason (.limits c))
      | none => grantLift r s

/-- R145: the re-check of the standing clearance is delivered. -/
def deliverRecheck (tainted : Bool) (worst : Option CheckClass) (s : State) : State :=
  match standingClearance s with
  | none => s
  | some r =>
    if tainted then withdrawClearance r .stale s
    else
      match worst with
      | some c => withdrawClearance r (.limits c) s
      | none => s

/-- R166: a transfer prediction is delivered; `pred` is the judgement of its set. -/
def deliverTransfer (id : Nat) (tainted : Bool) (pred : List Violation) (s : State) : State :=
  match tget s.ballast.transfers id with
  | none => s
  | some t =>
    match t.phase with
    | .granted _ _ _ _ _ => s
    | .requested _ _ =>
      if !s.gate.queue.contains (.transfer id) then s
      else if tainted || !endsFresh s id then setTransferReason id .stale s
      else if s.suspended then
        if corrective s.settings.severity s.monitor.actual.kept pred then grantTransfer id t s
        else setTransferReason id .suspended s
      else
        match blocking s.settings pred with
        | some c => setTransferReason id (.limits c) s
        | none => grantTransfer id t s

end Sys2Proof.Machine
end

