-- ==== Sys2Proof/Machine/Admission.lean ====
section
/-! DEFINITION. How a station request is taken, admitted and answered (R8, R178 to R180, the role table of 10.4).

A station row of the opcode table presents its request whole at a link: `command` takes it at once when the link can
take a frame and none waits before it, and otherwise lets its frame join the inbound queue (R177), from which TAKE_FRAME
takes it.  Both ways run `takenAs` with the same body (log 2). -/

namespace Sys2Proof.Machine

/-! ### Roles (10.4) -/

/-- The request belongs to the role of the link. -/
def roleOk (l : Link) (r : Request) : Bool :=
  match r with
  | .requestLift _ => decide (l = .l1 ∨ l = .l2)
  | .cancelLift => decide (l = .l1 ∨ l = .l2)
  | .hookReport _ _ => decide (l = .l1 ∨ l = .l2)
  | .landingReport _ => decide (l = .l1 ∨ l = .l2)
  | .tankReport _ => decide (l = .l3)
  | .requestTransfer _ _ _ => decide (l = .l3)
  | .endTransfer _ => decide (l = .l3)
  | .cancelTransfer _ => decide (l = .l3)
  | .readLiftStatus => decide (l ≠ .l3)
  | .readTransfers _ => decide (l = .l0 ∨ l = .l3)
  | .readResults _ _ _ _ => true
  | .setNoticeMask _ _ => true
  | .readNotices => true
  | _ => decide (l = .l0)

/-! ### Modes (R8) -/

/-- R8, row CONFIGURATION, for L0; the notice commands are admitted on every link. -/
def configurationOk (l : Link) (r : Request) : Bool :=
  match r with
  | .readNotices => true
  | .setNoticeMask _ _ => true
  | .enterConfiguration => decide (l = .l0)
  | .writeShipData _ _ _ => decide (l = .l0)
  | .readShipData _ _ => decide (l = .l0)
  | .commitShipData => decide (l = .l0)
  | .writeSetting _ _ => decide (l = .l0)
  | .readSetting _ => decide (l = .l0)
  | .storeSettings => decide (l = .l0)
  | .controlLine _ _ _ => decide (l = .l0)
  | .clearLineStatus _ => decide (l = .l0)
  | .readRecords => decide (l = .l0)
  | .acknowledgeRecords => decide (l = .l0)
  | .restart => decide (l = .l0)
  | _ => false

/-- R8, row UNCONFIGURED. -/
def unconfiguredOk (r : Request) : Bool :=
  match r with
  | .enterConfiguration => true
  | .readNotices => true
  | .setNoticeMask _ _ => true
  | .readSetting item => decide (item = 0x40)
  | _ => false

/-- R8, row SERVICE. -/
def serviceOk (r : Request) : Bool :=
  match r with
  | .writeShipData _ _ _ => false
  | .commitShipData => false
  | _ => true

/-- R8: the request is admitted in the mode. -/
def modeOk (m : Mode) (l : Link) (r : Request) : Bool :=
  match m with
  | .initializing => false
  | .unconfigured => unconfiguredOk r
  | .configuration => configurationOk l r
  | .service => serviceOk r

/-! ### Taking and answering (R178 to R180) -/

/-- R180: the answer fills the place reserved for it, or the place is kept for an operation in flight (log 8). -/
def finish (l : Link) (a : Answer) (s : State) : State :=
  match a with
  | .quiet r => (s.onLink l (LinkUnit.fill .current r)).onLink l (LinkUnit.startTx s.mode)
  | .reply r => settle (s.onLink l (LinkUnit.fill .current r))
  | .inFlight x => settle (s.onLink l (LinkUnit.keepPlace x))
  | .silent => settle s

/-- R84: the depth and the pool entries in use, which every reply to a frame command carries. -/
def stackFigures (frames : List (List Move)) : List Byte := encU 1 frames.length ++ encU 1 (poolInUse frames)

/-- The kinds of the four frame commands (R190). -/
def frameKind (k : Byte) : Bool := k = 0x20#8 || k = 0x21#8 || k = 0x22#8 || k = 0x23#8

/-- R193: what stands in the reply to a frame command of kind `k` that changed nothing: the depth and the pool, for Add
Moves after a count of 0. -/
def frameValues (k : Byte) (s : State) : List Byte :=
  if k = 0x21#8 then encU 1 0 ++ stackFigures s.frames else stackFigures s.frames

/-- The values of a refusal at admission of a frame of kind `k`: with `figures` as R84 has them for the four frame
commands, without as R180 has them for every kind. -/
def refusalValues (figures : Bool) (k : Byte) (s : State) : List Byte :=
  if frameKind k && figures then frameValues k s else []

/-- A refusal at admission of a frame of kind `k` (R179).  R180 has it carry the status alone, R84 has the reply to a
frame command carry the depth and the pool whatever its status; which of the two holds there is a free value (DESIGN
CHOICE, log 11). -/
def refusal (k : Byte) (st : Status) (s : State) : Reply := ⟨st, refusalValues Config.figuresAtAdmission k s⟩

/-- R179: what an admitted request's body does, or the refusal of admission; `k` is the frame's kind. -/
def admitOrRefuse (l : Link) (k : Byte) (req : Option Request) (body : Request → State → State × Answer) (s : State) :
    State × Answer :=
  match req with
  | none => (s, .quiet (refusal k .badForm s))
  | some r =>
    if !roleOk l r then (s, .quiet (refusal k .badRole s))
    else if !modeOk s.mode l r then (s, .quiet (refusal k .badMode s))
    else body r s

/-- R178: a frame of kind `k` and tag `t` has been taken: its reply's place is reserved, and it is admitted. -/
def takenAs (l : Link) (k t : Byte) (req : Option Request) (body : Request → State → State × Answer) (s : State) :
    State :=
  let r := admitOrRefuse l k req body (s.onLink l (LinkUnit.reserve k t))
  finish l r.2 r.1

/-- R178: the link can take a frame. -/
def canTake (s : State) (l : Link) : Bool := !decide (s.mode = .initializing) && (s.links.get l).hasFree

/-- R177: a complete frame reaches the inbound queue (log 2). -/
def frameArrives (l : Link) (f : Frame) (s : State) : State :=
  s.onLink l (fun u => (u.receive f).startTx s.mode)

/-- The frame of a request. -/
def Request.frame (t : Byte) (r : Request) : Frame := { kind := r.kind, tag := t, payload := r.encode }

/-- A station row: the request `r` with tag `t` is presented on link `l` (log 2).  While a break holds the receive line
low the receiver ignores it, so nothing is received (R186). -/
def command (l : Link) (t : Byte) (r : Request) (body : State → State × Answer) (s : State) : Outcome :=
  .next
    (if !s.powered then s
     else if (s.links.get l).lineLow then s
     else if canTake s l && (s.links.get l).inbound.isEmpty then takenAs l r.kind t (some r) (fun _ => body) s
     else frameArrives l (Request.frame t r) s)

/-- An event of the engine: nothing happens without power (log 4). -/
def event (f : State → State) (s : State) : Outcome := .next (if s.powered then f s else s)

/-- An event that is due acts and the step is settled; one that is not due leaves the state as it stands (log 6). -/
def dueEvent (due : State → Bool) (f : State → State) (s : State) : Outcome :=
  event (fun s => if due s then settle (f s) else s) s

end Sys2Proof.Machine
end

