-- ==== Sys2Proof/Machine/Modes.lean ====
section
/-! DEFINITION. Family: power, RESTART, the operating modes and the timebase (chapter 1). -/

namespace Sys2Proof.Machine

/-! ### Stores (R6) -/

/-- R6: a store in flight is interrupted.  Its marker is clear already; its contents become partly old and partly new,
which the spec leaves open: a free value (log 3). -/
def interruptStore (s : State) : State :=
  if s.committing then
    { s with
      committing := false
      nvm := { s.nvm with ship := ⟨false, Config.tornShipData s.freeCount s.nvm.ship.contents (trimStrength s.ship)⟩ }
      freeCount := s.freeCount + 1 }
  else if s.storing then
    { s with
      storing := false
      nvm := { s.nvm with settings := ⟨false, Config.tornSettings s.freeCount s.nvm.settings.contents s.settings⟩ }
      freeCount := s.freeCount + 1 }
  else s

/-! ### RESTART and power-on (R11) -/

/-- R10: the hook item of each crane at load 0 at its park tip; a crane with no entry keeps the origin. -/
def parkedHook (ship : ShipData) (c : CraneId) : HookItem :=
  match tget ship.cranes c.num with
  | some k => ⟨0, k.park⟩
  | none => ⟨0, ⟨0, 0, 0⟩⟩

def parkedHooks (ship : ShipData) : PerCrane HookItem := ⟨parkedHook ship .one, parkedHook ship .two⟩

/-- R174: a link unit at RESTART; the level of its receive line is the line's own (R186) (log 5). -/
def LinkUnit.restarted (l : Link) (u : LinkUnit) : LinkUnit := { LinkUnit.reset l with lineLow := u.lineLow }

def restartLinks (ls : Links) : Links :=
  ⟨ls.l0.restarted .l0, ls.l1.restarted .l1, ls.l2.restarted .l2, ls.l3.restarted .l3⟩

/-- R11, R82, R114, R127, R131: RESTART clears everything but the stored sets, FIRST, NEXT and the STOP count.  The
working ship data and settings stand until INITIALIZING rebuilds them (R7) (log 5). -/
def restartState (s : State) : State :=
  { State.reset with
    restartArmed := s.restartArmed
    nvm := s.nvm
    ship := s.ship
    settings := s.settings
    origin := s.origin
    links := restartLinks s.links
    cond := { State.reset.cond with hooks := parkedHooks s.ship }
    monitor :=
      { State.reset.monitor with
        first := s.monitor.first, next := s.monitor.next, stopCount := s.monitor.stopCount }
    freeCount := s.freeCount
    pending := s.pending }

/-- R11 with R6 and R7: RESTART acts; MODE is latched on the links in their RESTART state. -/
def restartEngine (s : State) : State := latchOn .mode allLinks (restartState (interruptStore s))

/-- R11: power-on has the effects of RESTART and clears FIRST, NEXT and the STOP count too; it latches no MODE (R7)
(log 4). -/
def powerOnState (s : State) : State :=
  let s := interruptStore s
  { State.reset with nvm := s.nvm, freeCount := s.freeCount, pending := s.pending }

/-- POWER_ON (R11). -/
def execPowerOn (s : State) : Outcome := .next (powerOnState s)

/-- RESTART_LINE (R11): the input, held for 20 ms, acts once until it has returned to rest (R194). -/
def execRestartLine (s : State) : Outcome :=
  event (fun s => if s.restartArmed then startAllTx (restartEngine { s with restartArmed := false }) else s) s

/-- RESTART_INPUT_RETURN_TO_REST (R194). -/
def execRestartInputReturnToRest (s : State) : Outcome := .next { s with restartArmed := true }

/-- R11: an admitted Restart command has no reply. -/
def bodyRestart (s : State) : State × Answer := (restartEngine s, .silent)

/-- RESTART (R11). -/
def execRestart (l : Link) (tag : Byte) (s : State) : Outcome := command l tag .restart bodyRestart s

/-- POWER_LOSS (R6, R194): a store in flight is interrupted, and the unpowered module's lines are at rest (log 4). -/
def execPowerLoss (s : State) : Outcome :=
  event (fun s =>
    let s := interruptStore s
    { s with
      powered := false
      monitor :=
        { s.monitor with
          caution := { s.monitor.caution with asserted := false }, stop := { s.monitor.stop with asserted := false } }
      gate := { s.gate with inhibit := ⟨true, true⟩ } }) s

/-- TIMEBASE_ADVANCE (R18): the count wraps at 2^32 (log 6). -/
def execTimebaseAdvance (s : State) : Outcome := event (fun s => { s with time := s.time + 1 }) s

/-! ### Entering SERVICE (R10) -/

/-- R131: a lift record on entry into SERVICE keeps its last outcome. -/
def LiftRecord.serviced (r : LiftRecord) : LiftRecord := { LiftRecord.reset with lastOutcome := r.lastOutcome }

/-- R82: a context whose published set is cleared to EMPTY. -/
def CtxState.emptied (c : CtxState) : CtxState := { c with set := none, sticky := Sticky.clear }

/-- R42: an Open Snapshot in flight at an entry into SERVICE is abandoned, and STATE fills its place. -/
def abandonSnapshot (s : State) : State :=
  match s.snapshotOp with
  | some _ =>
    { s with snapshotOp := none }.onLink .l0 (LinkUnit.fill .snapshot (Reply.bare .state))
  | none => s

/-- R10: the condition and its dependants as they stand on entering SERVICE. -/
def clearedCondition (s : State) : State :=
  { s with
    cond := { lots := [], seq := [], tanks := [], hooks := parkedHooks s.ship }
    snapshot := none
    image := []
    frames := []
    settings := clampMaxima s.ship.particulars s.settings
    eval :=
      { s.eval with
        actual := s.eval.actual.emptied, plan := s.eval.plan.emptied, trial := s.eval.trial.emptied
        unit := .idle, waiting := [] }
    monitor :=
      { s.monitor with
        actual := .emptied, plan := .emptied, trial := .emptied, suspension := none }
    gate :=
      { s.gate with
        recs := ⟨s.gate.recs.one.serviced, s.gate.recs.two.serviced⟩
        stale := ⟨false, false⟩, queue := [], slot := none, window := false }
    ballast := { s.ballast with transfers := [], nextId := 1 } }

/-- R7: a change of operating mode latches MODE on all four links. -/
def changeMode (m : Mode) (s : State) : State := latchOn .mode allLinks { s with mode := m }

/-- R10: the engine enters SERVICE. -/
def enterService (s : State) : State :=
  changeMode .service (advance true true (clearedCondition (abandonSnapshot s)))

/-! ### The end of INITIALIZING (R1, R7, R17) -/

/-- R17. -/
def loadSettings (s : State) : State :=
  if s.nvm.settings.marker && settingsInRange s.nvm.settings.contents then
    { s with settings := s.nvm.settings.contents, origin := .stored }
  else { s with settings := defaultSettings, origin := .defaults }

/-- R1. -/
def loadShipData (s : State) : State :=
  { s with ship := if s.nvm.ship.marker then s.nvm.ship.contents else unwrittenShipData }

/-- R7: the stored ship data is valid. -/
def storedShipValid (s : State) : Bool := s.nvm.ship.marker && storedShipOk s.nvm.ship.contents

/-- R7: the read of the stored sets completes. -/
def endInitializing (s : State) : State :=
  let loaded := loadShipData (loadSettings s)
  if storedShipValid s then enterService loaded else changeMode .unconfigured loaded

/-- END_OF_INITIALIZING (R7).  The queued frames are taken by the TAKE_FRAME steps that follow (log 2). -/
def execEndOfInitializing (s : State) : Outcome :=
  dueEvent (fun s => decide (s.mode = .initializing)) endInitializing s

/-! ### Entering CONFIGURATION (R9) -/

def TransferPhase.isGranted : TransferPhase → Bool
  | .granted _ _ _ _ _ => true
  | .requested _ _ => false

/-- R9: a lift past REQUESTED or a GRANTED transfer holds the engine in SERVICE. -/
def heldInService (s : State) : Bool :=
  s.gate.recs.one.state.pastRequested || s.gate.recs.two.state.pastRequested
    || s.ballast.transfers.any (fun p => p.2.phase.isGranted)

/-- R9 step 1: the pending lift that a crane leads, if any, ends with BAD_MODE. -/
def endPendingLift (s : State) (c : CraneId) : State :=
  if (s.liftRec c).state = .idle ∨ (s.liftRec c).role = some .partner then s
  else releaseLift (liftOf s c) .badMode s

/-- R9 step 2: a REQUESTED transfer is removed with BAD_MODE. -/
def endPendingTransfer (s : State) (p : Nat × Transfer) : State := removeTransfer p.1 p.2 .badMode s

def CtxState.shut (c : CtxState) : CtxState := { c with dirty := false, set := none, sticky := Sticky.clear }

/-- R9 steps 5 and 6, R82, R141: the results, the lists and the window on entry into CONFIGURATION. -/
def shutResults (s : State) : State :=
  { s with
    eval :=
      { actual := s.eval.actual.shut, plan := s.eval.plan.shut, trial := s.eval.trial.shut, unit := .idle, alt := 0,
        waiting := [] }
    monitor := { s.monitor with actual := .emptied, plan := .emptied, trial := .emptied }
    gate := { s.gate with queue := [], window := false } }

/-- R9 step 4. -/
def liftSuspension (s : State) : State := if s.suspended then endSuspension s else s

/-- R9: from SERVICE.  The transfers are removed in ascending id, so that the highest id stands newest in the ending log
(R9 and R171 give no order: DESIGN CHOICE, log 19). -/
def leaveService (s : State) : State :=
  let s := bothCranes.foldl endPendingLift s
  let s := s.ballast.transfers.foldl endPendingTransfer s
  changeMode .configuration (shutResults (liftSuspension s))

/-- R9. -/
def bodyEnterConfiguration (s : State) : State × Answer :=
  match s.mode with
  | .service => if heldInService s then refuse .state s else doneWith (leaveService s)
  | .unconfigured => doneWith (changeMode .configuration s)
  | _ => (s, .quiet (Reply.bare .done))

/-- ENTER_CONFIGURATION (R9). -/
def execEnterConfiguration (l : Link) (tag : Byte) (s : State) : Outcome :=
  command l tag .enterConfiguration bodyEnterConfiguration s

end Sys2Proof.Machine
end

