-- ==== Sys2Proof/Machine/Stores.lean ====
section
/-! DEFINITION. Family: ship data, settings and the alarm lines (chapter 1, R127, R128). -/

namespace Sys2Proof.Machine

/-! ### Ship data (R2 to R5) -/

/-- R2: the checks in order, and the entry written or made unwritten. -/
def bodyWriteShipData (block index : Nat) (e : List Byte) (s : State) : State × Answer :=
  if !entryForm block e then refuse .badForm s
  else if !indexOk block index then refuse .badValue s
  else if e.isEmpty then
    if s.committing then refuse .busy s else doneWith { s with ship := dropEntry s.ship block index }
  else
    match entryOf block e with
    | none => refuse .badValue s
    | some x =>
      if !entryOk x then refuse .badValue s
      else if s.committing then refuse .busy s
      else doneWith { s with ship := putEntry s.ship index x }

/-- WRITE_SHIP_DATA (R2). -/
def execWriteShipData (l : Link) (tag : Byte) (block index : Nat) (entry : List Byte) (s : State) : Outcome :=
  command l tag (.writeShipData block index entry) (bodyWriteShipData block index entry) s

/-- R3. -/
def bodyReadShipData (block index : Nat) (s : State) : State × Answer :=
  if !indexOk block index then refuse .badValue s
  else
    match getEntry s.ship block index with
    | none => refuse .notFound s
    | some x => (s, .quiet ⟨.done, encU 1 block ++ encU 1 index ++ x.bytes⟩)

/-- READ_SHIP_DATA (R3). -/
def execReadShipData (l : Link) (tag : Byte) (block index : Nat) (s : State) : Outcome :=
  command l tag (.readShipData block index) (bodyReadShipData block index) s

/-- R5, R6: the commit becomes an operation in flight; the marker is cleared before any content is written. -/
def startCommit (s : State) : State :=
  { s with committing := true, nvm := { s.nvm with ship := { s.nvm.ship with marker := false } } }

/-- R4, R5. -/
def bodyCommitShipData (s : State) : State × Answer :=
  if s.committing || s.storing then refuse .busy s
  else
    match commitCheck s.ship with
    | some f => (s, .quiet ⟨.badImage, encU 1 f.1 ++ encU 1 f.2⟩)
    | none => (startCommit s, .inFlight .commit)

/-- COMMIT_SHIP_DATA (R4). -/
def execCommitShipData (l : Link) (tag : Byte) (s : State) : Outcome :=
  command l tag .commitShipData bodyCommitShipData s

/-- R5: the store is complete: the working copy loses the STRENGTH entries past the last cut and stands in
non-volatile memory with its marker set, DONE fills the place kept for it, and the engine enters SERVICE. -/
def completeCommit (s : State) : State :=
  let d := trimStrength s.ship
  let s := { s with committing := false, ship := d, nvm := { s.nvm with ship := ⟨true, d⟩ } }
  enterService (s.onLink .l0 (LinkUnit.fill .commit (Reply.bare .done)))

/-- COMMIT_COMPLETION (R5). -/
def execCommitCompletion (s : State) : Outcome := dueEvent State.committing completeCommit s

/-! ### Settings (R13 to R16) -/

/-- Some crane's or tank's staleness changed. -/
def taintChanged (a b : State) : Bool :=
  decide (a.gate.stale ≠ b.gate.stale) || decide (a.cond.tanks ≠ b.cond.tanks)

/-- R13: the item written, with what the write brings at once: the generations for a limit set or ρ_sea in SERVICE,
and the staleness judged again for a stale period (R149, R160; log 7). -/
def applySetting (code v : Nat) (s : State) : State :=
  let new := (writeItem s.ship.particulars s.settings code v).1
  let s' := { s with settings := new }
  let s' := if new.hookStale = s.settings.hookStale then s' else rejudgeCranes s'
  let s' := if new.tankStale = s.settings.tankStale then s' else rejudgeTanks s'
  let judged :=
    decide (new.seaDensity ≠ s.settings.seaDensity ∨ new.harbour ≠ s.settings.harbour ∨ new.lift ≠ s.settings.lift)
  if s.mode = .service ∧ judged = true then advanceAllContexts s'
  else if taintChanged s s' then advanceActual s' else s'

/-- R13, R14: the checks in order, and the reply with the working value after the command. -/
def bodyWriteSetting (code v : Nat) (s : State) : State × Answer :=
  if (itemValue s code).isNone then refuse .notFound s
  else if itemReadOnly code then refuse .badValue s
  else if !enumOk code v then refuse .badValue s
  else if s.storing then refuse .busy s
  else
    let clamped := (writeItem s.ship.particulars s.settings code v).2
    let s' := applySetting code v s
    (s', .reply ⟨if clamped then .adjusted else .done, encU 1 code ++ encU 4 ((itemValue s' code).getD 0)⟩)

/-- WRITE_SETTING (R13). -/
def execWriteSetting (l : Link) (tag : Byte) (item value : Nat) (s : State) : Outcome :=
  command l tag (.writeSetting item value) (bodyWriteSetting item value) s

/-- R15. -/
def bodyReadSetting (code : Nat) (s : State) : State × Answer :=
  match itemValue s code with
  | none => refuse .notFound s
  | some v => (s, .quiet ⟨.done, encU 1 code ++ encU 4 v⟩)

/-- READ_SETTING (R15). -/
def execReadSetting (l : Link) (tag : Byte) (item : Nat) (s : State) : Outcome :=
  command l tag (.readSetting item) (bodyReadSetting item) s

/-- R16, R6. -/
def bodyStoreSettings (s : State) : State × Answer :=
  if s.storing || s.committing then refuse .busy s
  else
    ({ s with storing := true, nvm := { s.nvm with settings := { s.nvm.settings with marker := false } } },
      .inFlight .store)

/-- STORE_SETTINGS (R16). -/
def execStoreSettings (l : Link) (tag : Byte) (s : State) : Outcome := command l tag .storeSettings bodyStoreSettings s

/-- R16: the stored settings are the working settings, the marker is set last, and DONE fills its place. -/
def completeStore (s : State) : State :=
  { s with storing := false, nvm := { s.nvm with settings := ⟨true, s.settings⟩ } }.onLink .l0
    (LinkUnit.fill .store (Reply.bare .done))

/-- STORE_SETTINGS_COMPLETION (R16). -/
def execStoreSettingsCompletion (s : State) : Outcome := dueEvent State.storing completeStore s

/-! ### Alarm lines (R127, R128) -/

/-- R128: the mode, and for MANUAL the level, of line 0 (CAUTION) or line 1 (STOP). -/
def setLine (line : Nat) (m : LineMode) (level : Bool) (w : Settings) : Settings :=
  let keep (old : Bool) : Bool := if m = .manual then level else old
  if line = 0 then { w with cautionMode := m, cautionLevel := keep w.cautionLevel }
  else { w with stopMode := m, stopLevel := keep w.stopLevel }

/-- R128 step 1: the carried values name a line, a mode and, for MANUAL, a level (log 10). -/
def lineArgs (line mode level : Nat) : Option (LineMode × Bool) :=
  if 1 < line then none
  else
    match lineModeOf mode with
    | none => none
    | some .manual => (boolOf level).map (fun b => (.manual, b))
    | some m => some (m, false)

/-- R128: the line is brought to its state before the reply is formed. -/
def bodyControlLine (line mode level : Nat) (s : State) : State × Answer :=
  match lineArgs line mode level with
  | none => refuse .badValue s
  | some (m, v) =>
    if s.storing then refuse .busy s
    else
      let s' := refreshLines { s with settings := setLine line m v s.settings }
      (s', .reply ⟨.done, if line = 0 then cautionImage s' else stopImage s'⟩)

/-- CONTROL_LINE (R128). -/
def execControlLine (l : Link) (tag : Byte) (line mode level : Nat) (s : State) : Outcome :=
  command l tag (.controlLine line mode level) (bodyControlLine line mode level) s

/-- R127: the latched statuses of the selected lines are cleared. -/
def clearStatuses (selection : Nat) (s : State) : State :=
  { s with
    monitor :=
      { s.monitor with
        caution := { s.monitor.caution with latched := s.monitor.caution.latched && !selection.testBit 0 }
        stop := { s.monitor.stop with latched := s.monitor.stop.latched && !selection.testBit 1 } } }

/-- R127: the reply carries the lines as they stood before. -/
def bodyClearLineStatus (selection : Nat) (s : State) : State × Answer :=
  if 3 < selection then refuse .badValue s
  else (clearStatuses selection s, .reply ⟨.done, cautionImage s ++ stopImage s⟩)

/-- CLEAR_LINE_STATUS (R127). -/
def execClearLineStatus (l : Link) (tag : Byte) (selection : Nat) (s : State) : Outcome :=
  command l tag (.clearLineStatus selection) (bodyClearLineStatus selection) s

end Sys2Proof.Machine
end

