-- ==== Sys2Proof/Machine/Stowage.lean ====
section
/-! DEFINITION. Family: the planning commands on lots, the stow sequence and the tanks (chapter 2). -/

namespace Sys2Proof.Machine

/-! ### Lots (R22 to R30) -/

/-- A reply that carries a slot number, or the place an entry took. -/
def doneWith2 (n : Nat) (s : State) : State × Answer := (s, .reply ⟨.done, encU 2 n⟩)

/-- R22, R19: the values of Plan Lot. -/
def planValuesOk (ship : ShipData) (a : PlanLotArgs) : Bool :=
  lotIdOk a.lot && declaredOk a.mass && locOk ship a.target && a.footprint.all footOk

/-- R23 (log 13). -/
def bodyPlanLot (a : PlanLotArgs) (s : State) : State × Answer :=
  if !planValuesOk s.ship a then refuse .badValue s
  else
    match findLot s.cond.lots a.lot with
    | none =>
      match freeSlot s.cond.lots with
      | none => refuse .full s
      | some slot =>
        doneWith2 slot
          (advancePlan (s.setLots (tput s.cond.lots slot (newPlanned a.lot a.mass a.target a.footprint))))
    | some (slot, k) =>
      if !k.isPlanned then refuse .state s
      else if k.differs { k with declared := a.mass, loc := a.target, footprint := a.footprint } then
        doneWith2 slot (advancePlan (s.setLots (tput s.cond.lots slot (k.replan a.mass a.target a.footprint))))
      else (s, .quiet ⟨.done, encU 2 slot⟩)

/-- PLAN_LOT (R23). -/
def execPlanLot (l : Link) (tag : Byte) (a : PlanLotArgs) (s : State) : Outcome :=
  command l tag (.planLot a) (bodyPlanLot a) s

/-- R22: the lot a command names, or the refusal of its value or existence step. -/
def namedLot (id : Nat) (s : State) (f : Nat → Lot → State × Answer) : State × Answer :=
  if !lotIdOk id then refuse .badValue s
  else
    match findLot s.cond.lots id with
    | none => refuse .notFound s
    | some (slot, k) => f slot k

/-- A lot is discarded with its sequence entry (R24, R26, R31). -/
def discardLot (slot id : Nat) (dir : Direction) (s : State) : State :=
  (s.setLots (tdrop s.cond.lots slot)).setSeq (seqDrop id dir s.cond.seq)

/-- R24. -/
def bodyUnplanLot (id : Nat) (s : State) : State × Answer :=
  namedLot id s (fun slot k =>
    if !k.isPlanned then refuse .state s else doneWith (advancePlan (discardLot slot id .load s)))

/-- UNPLAN_LOT (R24). -/
def execUnplanLot (l : Link) (tag : Byte) (lot : Nat) (s : State) : Outcome :=
  command l tag (.unplanLot lot) (bodyUnplanLot lot) s

/-- R22, R19: the values of Place Lot. -/
def placeValuesOk (ship : ShipData) (a : PlaceLotArgs) : Bool :=
  lotIdOk a.lot && a.mass.all declaredOk && locOk ship a.position && a.footprint.all footOk

/-- R25: a lot created aboard. -/
def newAboard (id mass : Nat) (pos : Loc) (foot : Option Footprint) : Lot :=
  { id := id, state := .aboard, declared := mass, measured := none, loc := pos, footprint := foot, mark := false,
    modified := true, discrepancy := false }

/-- R25: a PLANNED lot placed aboard: what is not carried is kept. -/
def Lot.placed (a : PlaceLotArgs) (k : Lot) : Lot :=
  { k with
    state := .aboard, declared := a.mass.getD k.declared, loc := a.position,
    footprint := a.footprint.orElse (fun _ => k.footprint), modified := true }

/-- R25. -/
def bodyPlaceLot (a : PlaceLotArgs) (s : State) : State × Answer :=
  if !placeValuesOk s.ship a then refuse .badValue s
  else
    match findLot s.cond.lots a.lot with
    | none =>
      match a.mass with
      | none => refuse .badValue s
      | some mass =>
        match freeSlot s.cond.lots with
        | none => refuse .full s
        | some slot =>
          doneWith2 slot
            (advance true true (s.setLots (tput s.cond.lots slot (newAboard a.lot mass a.position a.footprint))))
    | some (slot, k) =>
      if !k.isPlanned then refuse .state s
      else
        doneWith2 slot
          (advance true true
            ((s.setLots (tput s.cond.lots slot (k.placed a))).setSeq (seqDrop a.lot .load s.cond.seq)))

/-- PLACE_LOT (R25). -/
def execPlaceLot (l : Link) (tag : Byte) (a : PlaceLotArgs) (s : State) : Outcome :=
  command l tag (.placeLot a) (bodyPlaceLot a) s

def Lot.isAboard (k : Lot) : Bool := decide (k.state = .aboard)

/-- R26, R40. -/
def bodyRemoveLot (id : Nat) (s : State) : State × Answer :=
  namedLot id s (fun slot k =>
    if !k.isAboard then refuse .state s
    else doneWith (advance true (!k.mark) (discardLot slot id .discharge s)))

/-- REMOVE_LOT (R26). -/
def execRemoveLot (l : Link) (tag : Byte) (lot : Nat) (s : State) : Outcome :=
  command l tag (.removeLot lot) (bodyRemoveLot lot) s

/-- R27, R21: the discharge mark of an ABOARD lot is set to a value it does not hold. -/
def Lot.marked (b : Bool) (k : Lot) : Lot := { k with mark := b, modified := true }

/-- R27. -/
def bodyMarkDischarge (id : Nat) (s : State) : State × Answer :=
  namedLot id s (fun slot k =>
    if !k.isAboard then refuse .state s
    else if k.mark then (s, .quiet (Reply.bare .done))
    else
      doneWith
        (advancePlan
          ((s.setLots (tput s.cond.lots slot (k.marked true))).setSeq (s.cond.seq ++ [⟨id, .discharge⟩]))))

/-- MARK_DISCHARGE (R27). -/
def execMarkDischarge (l : Link) (tag : Byte) (lot : Nat) (s : State) : Outcome :=
  command l tag (.markDischarge lot) (bodyMarkDischarge lot) s

/-- R27. -/
def bodyUnmarkDischarge (id : Nat) (s : State) : State × Answer :=
  namedLot id s (fun slot k =>
    if !k.isAboard then refuse .state s
    else if !k.mark then (s, .quiet (Reply.bare .done))
    else
      doneWith
        (advancePlan
          ((s.setLots (tput s.cond.lots slot (k.marked false))).setSeq (seqDrop id .discharge s.cond.seq))))

/-- UNMARK_DISCHARGE (R27). -/
def execUnmarkDischarge (l : Link) (tag : Byte) (lot : Nat) (s : State) : Outcome :=
  command l tag (.unmarkDischarge lot) (bodyUnmarkDischarge lot) s

/-- R28: the measured mass becomes the declared mass and DISCREPANCY is cleared. -/
def Lot.accepted (m : Nat) (k : Lot) : Lot := k.noted { k with declared := m, discrepancy := false }

/-- R28, R40 (log 13). -/
def bodyAcceptWeight (id : Nat) (s : State) : State × Answer :=
  namedLot id s (fun slot k =>
    if k.state.isLifting then refuse .state s
    else
      match k.measured with
      | none => refuse .state s
      | some m =>
        if 2000000 < m then refuse .badValue s
        else if k.differs { k with declared := m, discrepancy := false } then
          doneWith (advance true k.isPlanned (s.setLots (tput s.cond.lots slot (k.accepted m))))
        else (s, .quiet (Reply.bare .done)))

/-- ACCEPT_WEIGHT (R28). -/
def execAcceptWeight (l : Link) (tag : Byte) (lot : Nat) (s : State) : Outcome :=
  command l tag (.acceptWeight lot) (bodyAcceptWeight lot) s

/-- R29: an id held by no slot is NOT_FOUND, the id 0 with them (log 10). -/
def bodyReadLot (id : Nat) (s : State) : State × Answer :=
  match findLot s.cond.lots id with
  | none => refuse .notFound s
  | some (slot, k) => (s, .quiet ⟨.done, lotImage k ++ encU 2 slot⟩)

/-- READ_LOT (R29). -/
def execReadLot (l : Link) (tag : Byte) (lot : Nat) (s : State) : Outcome :=
  command l tag (.readLot lot) (bodyReadLot lot) s

/-- R30. -/
def bodyQuerySlot (slot : Nat) (s : State) : State × Answer :=
  if 511 < slot then refuse .badValue s
  else
    match tget s.cond.lots slot with
    | none => (s, .quiet ⟨.done, encU 1 0⟩)
    | some k =>
      (s, .quiet ⟨.done, encU 1 k.state.code ++ encU 2 k.id ++ flagsByte [k.modified, k.discrepancy]⟩)

/-- QUERY_SLOT (R30). -/
def execQuerySlot (l : Link) (tag : Byte) (slot : Nat) (s : State) : Outcome :=
  command l tag (.querySlot slot) (bodyQuerySlot slot) s

/-! ### The stow sequence (R31 to R34) -/

/-- R32 step 5: the lot is in the state the direction takes. -/
def sequenceable (k : Lot) : Direction → Bool
  | .load => k.isPlanned
  | .discharge => k.isAboard && k.mark

/-- R32 (log 10). -/
def bodyInsertInSequence (id dir place : Nat) (s : State) : State × Answer :=
  match dirOf dir with
  | none => refuse .badValue s
  | some d =>
    match findLot s.cond.lots id with
    | none => refuse .notFound s
    | some (_, k) =>
      if k.state.isLifting then refuse .state s
      else if s.cond.seq.any (fun e => decide (e.lot = id)) then refuse .duplicate s
      else if !sequenceable k d then refuse .state s
      else doneWith2 (min place s.cond.seq.length) (s.setSeq (seqInsert place ⟨id, d⟩ s.cond.seq))

/-- INSERT_IN_SEQUENCE (R32). -/
def execInsertInSequence (l : Link) (tag : Byte) (lot dir place : Nat) (s : State) : Outcome :=
  command l tag (.insertInSequence lot dir place) (bodyInsertInSequence lot dir place) s

/-- R33, its checks in the order in which it names them.  For a LIFTING lot with no entry both refusals apply; the model
answers NOT_FOUND, where R22 and R134 give STATE to the planning commands they govern (DESIGN CHOICE, log 10). -/
def bodyRemoveFromSequence (id : Nat) (s : State) : State × Answer :=
  if !s.cond.seq.any (fun e => decide (e.lot = id)) then refuse .notFound s
  else if lotIsLifting s.cond.lots id then refuse .state s
  else doneWith (s.setSeq (s.cond.seq.filter (fun e => decide (e.lot ≠ id))))

/-- REMOVE_FROM_SEQUENCE (R33). -/
def execRemoveFromSequence (l : Link) (tag : Byte) (lot : Nat) (s : State) : Outcome :=
  command l tag (.removeFromSequence lot) (bodyRemoveFromSequence lot) s

/-- R34: a page of the sequence. -/
def sequencePage (n : Nat) (c : Condition) : List Byte :=
  encU 2 c.seq.length ++ encU 2 ((seqHead c.lots c.seq).getD 0xFFFF) ++ encU 2 (56 * n)
    ++ (((c.seq.drop (56 * n)).take 56).map (fun e => seqImage e (lotIsLifting c.lots e.lot))).flatten

/-- R34. -/
def bodyReadSequence (n : Nat) (s : State) : State × Answer :=
  if 1 ≤ n ∧ s.cond.seq.length ≤ 56 * n then refuse .badValue s
  else (s, .quiet ⟨.done, sequencePage n s.cond⟩)

/-- READ_SEQUENCE (R34). -/
def execReadSequence (l : Link) (tag : Byte) (page : Nat) (s : State) : Outcome :=
  command l tag (.readSequence page) (bodyReadSequence page) s

/-! ### Tanks (R36, R37) -/

/-- R36: a tank set by hand; its reading time is left as it stands. -/
def TankRow.manual (contents density : Nat) (r : TankRow) : TankRow :=
  { r with contents := contents, density := density, source := .manual, clamped := false }

/-- R36, R40 (log 13). -/
def bodySetTankManual (t contents density : Nat) (s : State) : State × Answer :=
  if !densityOk density then refuse .badValue s
  else
    match s.tankGeom? t with
    | none => refuse .notFound s
    | some g =>
      if capacityMass g density < contents then refuse .badValue s
      else if (s.tankRow t).transfer.isSome then refuse .state s
      else
        let r := s.tankRow t
        let changed := decide (r.contents ≠ contents ∨ r.density ≠ density)
        doneWith (advance changed (changed && r.target.isNone) (s.setTankRow t (r.manual contents density)))

/-- SET_TANK_MANUAL (R36). -/
def execSetTankManual (l : Link) (tag : Byte) (tank contents density : Nat) (s : State) : Outcome :=
  command l tag (.setTankManual tank contents density) (bodySetTankManual tank contents density) s

/-- R37, R40 (log 13). -/
def bodySetTankTarget (t : Nat) (g : Option Target) (s : State) : State × Answer :=
  if !targetDensityOk g then refuse .badValue s
  else
    match s.tankGeom? t with
    | none => refuse .notFound s
    | some geom =>
      if !targetFits geom g then refuse .badValue s
      else if (s.tankRow t).target = g then (s, .quiet (Reply.bare .done))
      else doneWith (advancePlan (s.setTankRow t ((s.tankRow t).withTarget g)))

/-- SET_TANK_TARGET (R37). -/
def execSetTankTarget (l : Link) (tag : Byte) (tank : Nat) (target : Option Target) (s : State) : Outcome :=
  command l tag (.setTankTarget tank target) (bodySetTankTarget tank target) s

end Sys2Proof.Machine
end

