-- ==== Sys2Proof/Machine/Frames.lean ====
section
/-! DEFINITION. Family: the trial frame commands (chapter 5). -/

namespace Sys2Proof.Machine

/-- The fault kinds of R97 (11.3). -/
abbrev overflowKind : Nat := 1
abbrev underflowKind : Nat := 2

/-- R97: the stack cannot take the command: TRIAL_FAULT is latched on L0; `before` are the reply values that stand
before the depth. -/
def stackFault (before : List Byte) (kind : Nat) (s : State) : State × Answer :=
  (latch .trialFault .l0 s, .reply ⟨.stackFault, before ++ stackFigures s.frames ++ encU 1 kind⟩)

def State.setFrames (f : List (List Move)) (s : State) : State := { s with frames := f }

/-- A stack change is answered with the figures after it. -/
def stackDone (s : State) : State × Answer := (s, .reply ⟨.done, stackFigures s.frames⟩)

/-- R81: the stack has lost its last frame. -/
def emptyTrial (s : State) : State :=
  { s with
    eval :=
      { s.eval with
        trial := s.eval.trial.emptied
        unit := (match s.eval.unit with
          | .pass p => if p.ctx = .trial then .idle else s.eval.unit
          | u => u) }
    monitor := { s.monitor with trial := .emptied } }

/-- R89, R81: the stack has changed to `f`. -/
def changeStack (f : List (List Move)) (s : State) : State :=
  let s' := advanceTrial (s.setFrames f)
  if f.isEmpty then emptyTrial s' else s'

/-- R90. -/
def bodyOpenFrame (s : State) : State × Answer :=
  if s.frames.length < Config.maxFrames then stackDone (changeStack (s.frames ++ [[]]) s)
  else stackFault [] overflowKind s

/-- OPEN_FRAME (R90). -/
def execOpenFrame (l : Link) (tag : Byte) (s : State) : Outcome := command l tag .openFrame bodyOpenFrame s

/-- R91; its own BAD_FORM, which comes after admission, carries the figures too (DEDUCED, log 11). -/
def bodyAddMoves (payload : List Byte) (s : State) : State × Answer :=
  match movesOf payload with
  | none => (s, .quiet ⟨.badForm, encU 1 0 ++ stackFigures s.frames⟩)
  | some moves =>
    if s.frames.isEmpty then stackFault (encU 1 0) underflowKind s
    else
      let r := addAll s.ship s.cond moves s.frames
      let values := encU 1 r.2.1 ++ stackFigures r.1
      if r.2.1 = 0 then (s, .quiet ⟨r.2.2, values⟩) else (changeStack r.1 s, .reply ⟨r.2.2, values⟩)

/-- ADD_MOVES (R91). -/
def execAddMoves (l : Link) (tag : Byte) (payload : List Byte) (s : State) : Outcome :=
  command l tag (.addMoves payload) (bodyAddMoves payload) s

/-- R93. -/
def bodyDropFrame (s : State) : State × Answer :=
  if s.frames.isEmpty then stackFault [] underflowKind s else stackDone (changeStack s.frames.dropLast s)

/-- DROP_FRAME (R93). -/
def execDropFrame (l : Link) (tag : Byte) (s : State) : Outcome := command l tag .dropFrame bodyDropFrame s

/-- R94: the moves of the top frame go to the end of the frame below. -/
def foldDown (frames : List (List Move)) : List (List Move) :=
  match frames with
  | [] => []
  | [a] => [a]
  | [a, b] => [a ++ b]
  | a :: rest => a :: foldDown rest

/-- R95, R96: the only frame against the plan. -/
def foldIntoPlan (moves : List Move) (s : State) : State × Answer :=
  match foldMoves s.cond 0 moves with
  | .error (e, i) => (s, .quiet ⟨e.status, stackFigures s.frames ++ encU 1 i ++ encU 1 e.cause⟩)
  | .ok c =>
    let folded := { s with cond := c }
    let advanced := if moves.isEmpty then folded
      else { folded with eval := { folded.eval with plan := folded.eval.plan.advance } }
    stackDone (changeStack [] advanced)

/-- R94 to R96. -/
def bodyFoldFrame (s : State) : State × Answer :=
  match s.frames with
  | [] => stackFault [] underflowKind s
  | [moves] => foldIntoPlan moves s
  | frames => stackDone (changeStack (foldDown frames) s)

/-- FOLD_FRAME (R94, R95). -/
def execFoldFrame (l : Link) (tag : Byte) (s : State) : Outcome := command l tag .foldFrame bodyFoldFrame s

end Sys2Proof.Machine
end

