-- ==== Sys2Proof/Machine/Readout.lean ====
section
/-! DEFINITION. Family: what the limit monitor and the published sets answer, and the suspension commands
(chapters 4, 6 and 7). -/

namespace Sys2Proof.Machine

/-! ### Read Results (R75) -/

/-- R75, R192: the part of a set. -/
def resultsPart (s : State) (x : Ctx) (part page : Nat) : List Byte :=
  match part with
  | 0 => summaryPart (s.ctx x).set
  | 1 => cutsPart (sectionCount s.ship) (s.ctx x).set
  | 2 => areasPart s.ship.areas (s.ctx x).set
  | _ => pressuresPart page (s.ctx x).set

def Eval.mapCtx (f : CtxState → CtxState) (e : Eval) : Ctx → Eval
  | .actual => { e with actual := f e.actual }
  | .plan => { e with plan := f e.plan }
  | .trial => { e with trial := f e.trial }

/-- R75: the three sticky flags of a context are cleared. -/
def clearSticky (x : Ctx) (s : State) : State :=
  { s with eval := s.eval.mapCtx (fun c => { c with sticky := Sticky.clear }) x }

/-- R75. -/
def bodyReadResults (l : Link) (context part page clear : Nat) (s : State) : State × Answer :=
  match ctxOf context with
  | none => refuse .badValue s
  | some x =>
    if 3 < part then refuse .badValue s
    else if part ≠ 3 ∧ page ≠ 0 then refuse .badValue s
    else if l ≠ .l0 ∧ (x ≠ .actual ∨ clear = 1) then refuse .badRole s
    else if part = 3 ∧ 1 ≤ page ∧ (pressuresIn (s.ctx x).set).length ≤ 32 * page then refuse .badValue s
    else
      let values := resultsCommon x (s.ctx x) part ++ resultsPart s x part page
      (if clear = 1 then clearSticky x s else s, .quiet ⟨.done, values⟩)

/-- READ_RESULTS (R75). -/
def execReadResults (l : Link) (tag : Byte) (context part page clear : Nat) (s : State) : Outcome :=
  command l tag (.readResults context part page clear) (bodyReadResults l context part page clear) s

/-! ### Read Violations (R115) -/

def listOf (s : State) : Ctx → ViolationList
  | .actual => s.monitor.actual
  | .plan => s.monitor.plan
  | .trial => s.monitor.trial

/-- R115. -/
def bodyReadViolations (context page : Nat) (s : State) : State × Answer :=
  match ctxOf context with
  | none => refuse .badValue s
  | some x =>
    if 5 < page then refuse .badValue s
    else if 1 ≤ page ∧ (listOf s x).entries.length ≤ 8 * page then refuse .badValue s
    else (s, .quiet ⟨.done, violationsPage s.settings.severity x (listOf s x) page⟩)

/-- READ_VIOLATIONS (R115). -/
def execReadViolations (l : Link) (tag : Byte) (context page : Nat) (s : State) : Outcome :=
  command l tag (.readViolations context page) (bodyReadViolations context page) s

/-! ### Records (R118) -/

/-- R118. -/
def bodyReadRecords (s : State) : State × Answer :=
  (s, .quiet ⟨.done, recordImage s.monitor.first ++ recordImage s.monitor.next ++ encU 2 s.monitor.stopCount⟩)

/-- READ_RECORDS (R118). -/
def execReadRecords (l : Link) (tag : Byte) (s : State) : Outcome := command l tag .readRecords bodyReadRecords s

/-- R118: FIRST and NEXT are emptied and the STOP count is 0. -/
def clearRecords (s : State) : State :=
  { s with monitor := { s.monitor with first := none, next := none, stopCount := 0 } }

/-- R118. -/
def bodyAcknowledgeRecords (s : State) : State × Answer := doneWith (clearRecords s)

/-- ACKNOWLEDGE_RECORDS (R118). -/
def execAcknowledgeRecords (l : Link) (tag : Byte) (s : State) : Outcome :=
  command l tag .acknowledgeRecords bodyAcknowledgeRecords s

/-! ### Suspension (R121, R124) -/

/-- R121. -/
def bodySuspendWork (s : State) : State × Answer :=
  if s.suspended then (s, .quiet ⟨.done, suspensionImage s.monitor.suspension⟩)
  else
    let s' := enterSuspension .commanded s
    (s', .reply ⟨.done, suspensionImage s'.monitor.suspension⟩)

/-- SUSPEND_WORK (R121). -/
def execSuspendWork (l : Link) (tag : Byte) (s : State) : Outcome := command l tag .suspendWork bodySuspendWork s

/-- R124.  The reply of STILL_VIOLATED is the record image and then the pair, as the row of R193 lists them; R124 names
the pair alone (DEDUCED, log 11). -/
def bodyResumeWork (s : State) : State × Answer :=
  if !s.suspended then (s, .quiet ⟨.done, suspensionImage none⟩)
  else
    match firstAtTrigger s with
    | some v =>
      (s, .quiet ⟨.stillViolated, suspensionImage s.monitor.suspension ++ encU 1 v.cls.num ++ encU 2 v.index⟩)
    | none => (decisionRound (endSuspension s), .reply ⟨.done, suspensionImage none⟩)

/-- RESUME_WORK (R124). -/
def execResumeWork (l : Link) (tag : Byte) (s : State) : Outcome := command l tag .resumeWork bodyResumeWork s

end Sys2Proof.Machine
end

