-- ==== Sys2Proof/Machine/Pages.lean ====
section
/-! DEFINITION. Family: snapshots and images (R41 to R46). -/

namespace Sys2Proof.Machine

/-! ### Snapshots (R42, R43) -/

/-- The written tanks with their rows. -/
def writtenTanks (s : State) : Table TankRow := s.ship.tanks.map (fun p => (p.1, s.tankRow p.1))

/-- R42: what Open Snapshot captures. -/
def takeSnapshot (s : State) : Snapshot :=
  { time := s.time, lots := s.cond.lots, seq := s.cond.seq.map (fun e => (e, lotIsLifting s.cond.lots e.lot)),
    tanks := writtenTanks s }

def Lot.unmodified (k : Lot) : Lot := { k with modified := false }

/-- R42, R21: the capture, the release of the snapshot held before, and the clearing of every MODIFIED flag.  R42
releases that snapshot with the opening, R43 lets it stay until the next completed Open Snapshot; the model releases it
at the opening (DESIGN CHOICE, log 20). -/
def startSnapshot (s : State) : State :=
  { s with
    snapshot := none, snapshotOp := some (takeSnapshot s)
    cond := { s.cond with lots := tmap Lot.unmodified s.cond.lots } }

/-- R42. -/
def bodyOpenSnapshot (s : State) : State × Answer :=
  if s.snapshotOp.isSome then refuse .busy s else (startSnapshot s, .inFlight .snapshot)

/-- OPEN_SNAPSHOT (R42). -/
def execOpenSnapshot (l : Link) (tag : Byte) (s : State) : Outcome := command l tag .openSnapshot bodyOpenSnapshot s

/-- R42: the buffer holds the snapshot, and DONE with L, S, T and P fills the place kept for it. -/
def completeSnapshot (s : State) : State :=
  match s.snapshotOp with
  | none => s
  | some q =>
    { s with snapshot := some q, snapshotOp := none }.onLink .l0 (LinkUnit.fill .snapshot ⟨.done, q.counts⟩)

/-- OPEN_SNAPSHOT_COMPLETION (R42). -/
def execOpenSnapshotCompletion (s : State) : Outcome :=
  dueEvent (fun s => s.snapshotOp.isSome) completeSnapshot s

/-- R43. -/
def bodyReadSnapshotPage (page : Nat) (s : State) : State × Answer :=
  if s.snapshotOp.isSome then refuse .busy s
  else
    match s.snapshot with
    | none => refuse .state s
    | some q =>
      match q.pages[page]? with
      | none => refuse .badValue s
      | some bytes => (s, .quiet ⟨.done, bytes⟩)

/-- READ_SNAPSHOT_PAGE (R43). -/
def execReadSnapshotPage (l : Link) (tag : Byte) (page : Nat) (s : State) : Outcome :=
  command l tag (.readSnapshotPage page) (bodyReadSnapshotPage page) s

/-- R43. -/
def bodyCloseSnapshot (s : State) : State × Answer :=
  if s.snapshotOp.isSome then refuse .busy s else doneWith { s with snapshot := none }

/-- CLOSE_SNAPSHOT (R43). -/
def execCloseSnapshot (l : Link) (tag : Byte) (s : State) : Outcome := command l tag .closeSnapshot bodyCloseSnapshot s

/-! ### Image pages (R44) -/

/-- R44: page 0 begins a new image. -/
def storePage (page : Nat) (data : List Byte) (t : Table (List Byte)) : Table (List Byte) :=
  if page = 0 then [(0, data)] else tput t page data

/-- R44. -/
def bodyWriteImagePage (page : Nat) (data : List Byte) (s : State) : State × Answer :=
  if data.length ≠ Config.pageBytes then refuse .badForm s
  else if Config.lastPage < page then refuse .badValue s
  else doneWith { s with image := storePage page data s.image }

/-- WRITE_IMAGE_PAGE (R44). -/
def execWriteImagePage (l : Link) (tag : Byte) (page : Nat) (data : List Byte) (s : State) : Outcome :=
  command l tag (.writeImagePage page data) (bodyWriteImagePage page data) s

/-! ### The records of an image (R45, 11.6) -/

/-- What Apply Image takes from an image. -/
structure ImageContents where
  lots  : List Lot
  seq   : List SeqEntry
  tanks : List (Nat × TankRow)
deriving DecidableEq, Repr

/-- A failure of R45: the image part code and the index. -/
structure ImageFail where
  part  : Nat
  index : Nat
deriving DecidableEq, Repr

def ImageFail.page (i : Nat) : ImageFail := ⟨1, i⟩
def ImageFail.header : ImageFail := ⟨2, 0⟩
def ImageFail.lot (i : Nat) : ImageFail := ⟨3, i⟩
def ImageFail.sequence (i : Nat) : ImageFail := ⟨4, i⟩
def ImageFail.tank (i : Nat) : ImageFail := ⟨5, i⟩

def allZero (bs : List Byte) : Bool := bs.all (fun b => decide (b = 0#8))

/-- The bytes of a page of the image buffer. -/
def imagePage (t : Table (List Byte)) (page : Nat) : List Byte := (tget t page).getD []

/-- Record `i` of a part whose first page is `first`, with `per` records of `size` bytes to a page. -/
def imageRecord (t : Table (List Byte)) (first per size i : Nat) : List Byte :=
  ((imagePage t (first + i / per)).drop (size * (i % per))).take size

/-- The bytes `off` to `off + n - 1` are zero. -/
def zeroAt (b : List Byte) (off n : Nat) : Bool := allZero ((b.drop off).take n)

/-- An optional field: present and in range, or absent with its bytes zero. -/
def optional {α : Type} (present : Bool) (zero : Bool) (v : α) (ok : Bool) : Option (Option α) :=
  if present then (if ok then some (some v) else none) else if zero then some none else none

/-- R45 step 4: the lot a record spells, or none when it fails a check of its own (log 10). -/
def imageLot (ship : ShipData) (b : List Byte) : Option Lot :=
  let flags := fieldU b 3 1
  let loc : Loc := ⟨⟨fieldS b 14 3, fieldS b 17 2, fieldS b 19 3⟩, fieldU b 7 1⟩
  let foot : Footprint := ⟨fieldU b 22 2, fieldU b 24 2⟩
  let state : Option LotState :=
    match fieldU b 2 1 with
    | 1 => some .planned
    | 3 => some .aboard
    | _ => none
  match state, optional (flags.testBit 3) (zeroAt b 11 3) (fieldU b 11 3) (measuredOk (fieldU b 11 3)),
      optional (flags.testBit 4) (zeroAt b 22 4) foot (footOk foot) with
  | some st, some measured, some footprint =>
    if lotIdOk (fieldU b 0 2) && decide (flags < 32) && zeroAt b 4 3 && zeroAt b 26 2 && declaredOk (fieldU b 8 3)
        && locOk ship loc && (!flags.testBit 0 || decide (st = .aboard)) && (!flags.testBit 2 || measured.isSome) then
      some { id := fieldU b 0 2, state := st, declared := fieldU b 8 3, measured := measured, loc := loc,
             footprint := footprint, mark := flags.testBit 0, modified := true, discrepancy := flags.testBit 2 }
    else none
  | _, _, _ => none

/-- R45 step 5: the entry a record spells, against the lots of the image. -/
def imageEntry (lots : List Lot) (b : List Byte) : Option SeqEntry :=
  match dirOf (fieldU b 2 1), lots.find? (fun k => decide (k.id = fieldU b 0 2)) with
  | some d, some k =>
    if zeroAt b 3 1 && (match d with | .load => k.isPlanned | .discharge => k.isAboard && k.mark) then
      some ⟨fieldU b 0 2, d⟩
    else none
  | _, _ => none

/-- R45 step 6: the tank row a record spells; its source is as recorded. -/
def imageTank (ship : ShipData) (b : List Byte) : Option (Nat × TankRow) :=
  let flags := fieldU b 2 1
  let target : Target := ⟨fieldU b 10 4, fieldU b 14 2⟩
  let source : Option TankSource :=
    match fieldU b 1 1 with
    | 0 => some .none
    | 1 => some .gauged
    | 2 => some .manual
    | _ => none
  match tget ship.tanks (fieldU b 0 1), source with
  | some g, some src =>
    match optional (flags.testBit 0) (zeroAt b 10 6) target
        (densityOk target.density && decide (target.contents ≤ capacityMass g target.density)) with
    | some tg =>
      if decide (flags < 4) && zeroAt b 3 1 && densityOk (fieldU b 8 2)
          && decide (fieldU b 4 4 ≤ capacityMass g (fieldU b 8 2))
          && (decide (src ≠ .none) || decide (fieldU b 4 4 = 0)) then
        some (fieldU b 0 1,
          { TankRow.fresh with contents := fieldU b 4 4, density := fieldU b 8 2, source := src, target := tg })
      else none
    | none => none
  | _, _ => none

/-- The records of a part in order, each read by `read` and none with the key of an earlier one; the first failing
index otherwise. -/
def readPart {α : Type} (read : List Byte → Option α) (key : α → Nat) (record : Nat → List Byte) :
    Nat → Nat → List α → Except Nat (List α)
  | 0, _, acc => .ok acc
  | n + 1, i, acc =>
    match read (record i) with
    | none => .error i
    | some a =>
      if acc.any (fun b => decide (key b = key a)) then .error i
      else readPart read key record n (i + 1) (acc ++ [a])

/-- R45 step 7: the bytes after the last record of a part's final page are zero; the failing page otherwise. -/
def tailFault (t : Table (List Byte)) (first per size n : Nat) : Option Nat :=
  if n = 0 then none
  else
    let page := first + (n - 1) / per
    if allZero ((imagePage t page).drop (size * ((n - 1) % per + 1))) then none else some page

/-- R45 step 3: the first absent page of 1 to P − 1. -/
def absentPage (t : Table (List Byte)) (p : Nat) : Option Nat :=
  ((List.range (p - 1)).map (· + 1)).find? (fun i => (tget t i).isNone)

/-- The counts of an image's header. -/
structure ImageCounts where
  l : Nat
  s : Nat
  t : Nat
deriving DecidableEq, Repr

def imageCounts (page0 : List Byte) : ImageCounts := ⟨fieldU page0 4 2, fieldU page0 6 2, fieldU page0 8 1⟩

/-- R45 step 2. -/
def headerOk (page0 : List Byte) (n : ImageCounts) : Bool :=
  decide (n.l ≤ 512) && decide (n.s ≤ n.l) && decide (n.t ≤ 48) && allZero (page0.drop 10)

/-- R45 steps 4 to 7. -/
def readRecords (ship : ShipData) (t : Table (List Byte)) (n : ImageCounts) : Except ImageFail ImageContents :=
  let seqPage := 1 + ceilDiv n.l 8
  let tankPage := seqPage + ceilDiv n.s 56
  match readPart (imageLot ship) Lot.id (imageRecord t 1 8 28) n.l 0 [] with
  | .error i => .error (.lot i)
  | .ok lots =>
    match readPart (imageEntry lots) SeqEntry.lot (imageRecord t seqPage 56 4) n.s 0 [] with
    | .error i => .error (.sequence i)
    | .ok seq =>
      match readPart (imageTank ship) Prod.fst (imageRecord t tankPage 14 16) n.t 0 [] with
      | .error i => .error (.tank i)
      | .ok tanks =>
        match tailFault t 1 8 28 n.l, tailFault t seqPage 56 4 n.s, tailFault t tankPage 14 16 n.t with
        | some p, _, _ => .error (.page p)
        | none, some p, _ => .error (.page p)
        | none, none, some p => .error (.page p)
        | none, none, none => .ok ⟨lots, seq, tanks⟩

/-- R45: the image checked whole. -/
def readImage (ship : ShipData) (t : Table (List Byte)) : Except ImageFail ImageContents :=
  match tget t 0 with
  | none => .error (.page 0)
  | some page0 =>
    let n := imageCounts page0
    if !headerOk page0 n then .error .header
    else
      match absentPage t (pageCount n.l n.s n.t) with
      | some i => .error (.page i)
      | none => readRecords ship t n

/-! ### Applying an image (R46) -/

/-- R46: a written tank after the image. -/
def tankApplied (tanks : List (Nat × TankRow)) (t : Nat) (row : TankRow) : TankRow :=
  match tget tanks t with
  | some r =>
    if row.source = .gauged then { row with target := r.target }
    else
      { row with
        contents := r.contents, density := r.density, target := r.target, clamped := false
        source := if r.source = .none then .none else .manual }
  | none =>
    if row.source = .gauged then { row with target := none }
    else { row with target := none, source := .none, contents := 0, density := 1025 }

/-- R46: the condition replaced in one step. -/
def applyImage (c : ImageContents) (s : State) : State :=
  { s with
    image := []
    cond :=
      { s.cond with
        lots := c.lots.zipIdx.map (fun p => (p.2, p.1))
        seq := c.seq
        tanks := s.ship.tanks.map (fun p => (p.1, tankApplied c.tanks p.1 (s.tankRow p.1))) } }

/-- R45: both cranes IDLE, no transfer, no trial frame. -/
def imageAllowed (s : State) : Bool :=
  decide (s.gate.recs.one.state = .idle) && decide (s.gate.recs.two.state = .idle) && s.ballast.transfers.isEmpty
    && s.frames.isEmpty

/-- R45, R46 (log 13). -/
def bodyApplyImage (s : State) : State × Answer :=
  if !imageAllowed s then refuse .state s
  else
    match readImage s.ship s.image with
    | .error e => (s, .quiet ⟨.badImage, encU 1 e.part ++ encU 2 e.index⟩)
    | .ok c => doneWith (advance true true (applyImage c s))

/-- APPLY_IMAGE (R45, R46). -/
def execApplyImage (l : Link) (tag : Byte) (s : State) : Outcome := command l tag .applyImage bodyApplyImage s

end Sys2Proof.Machine
end

