-- ==== Sys2Proof/Machine/Lifts.lean ====
section
/-! DEFINITION. Family: crane lifts (chapter 8): the requests and reports of the crane controllers, and the timers of
the lift gate. -/

namespace Sys2Proof.Machine

/-! ### Request Lift (R133 to R137) -/

/-- R133 step 1. -/
def liftValuesOk (ship : ShipData) (c : CraneId) (a : RequestLiftArgs) : Bool :=
  (dirOf a.dir).isSome && lotIdOk a.lot && posOk a.worst
    && (match a.landing with | some l => locOk ship l && decide (dirOf a.dir = some .load) | none => true)
    && (match a.tandem with
        | some t => decide (craneNum t.other = some c.opposite) && declaredOk t.share
        | none => true)

/-- R135: the lot's entry is not the head, or it has none. -/
def deviates (s : State) (id : Nat) : Bool :=
  match seqHead s.cond.lots s.cond.seq with
  | some i => decide ((s.cond.seq[i]?).map SeqEntry.lot ≠ some id)
  | none => true

/-- R133 step 6: the lot is in the state the direction takes. -/
def liftable (k : Lot) : Direction → Bool
  | .load => k.isPlanned
  | .discharge => k.isAboard

def Direction.origin : Direction → LotOrigin
  | .load => .planned
  | .discharge => .aboard

/-- R134: the lot becomes LIFTING with one crane. -/
def Lot.lifted (dir : Direction) (c : CraneId) (k : Lot) : Lot :=
  { k with state := .lifting dir.origin dir (decide (c = .one)) (decide (c = .two)), modified := true }

/-- R134: the landing plan of a LOAD request. -/
def landingPlan (dir : Direction) (a : RequestLiftArgs) (k : Lot) : Option Loc :=
  match dir with
  | .load => some (a.landing.getD k.loc)
  | .discharge => none

/-- R134: the record of a single or lead crane at acceptance. -/
def acceptedRecord (s : State) (c : CraneId) (a : RequestLiftArgs) (dir : Direction) (slot : Nat) (k : Lot)
    (dev : Bool) (r : LiftRecord) : LiftRecord :=
  { r with
    state := if a.tandem.isSome then .pairing else .requested
    role := some (if a.tandem.isSome then .lead else .single)
    lot := some ⟨a.lot, slot⟩, dir := some dir, worst := some a.worst, plan := landingPlan dir a k
    other := a.tandem.map (fun _ => c.opposite), share := a.tandem.map TandemArgs.share, deviation := dev
    confirmed := none, landing := none, setDownTip := none, timer := some s.time
    reason := if a.tandem.isSome then none else some .none }

/-- R134: a single or lead request is accepted; the reply carries the deviation mark. -/
def acceptLift (c : CraneId) (a : RequestLiftArgs) (dir : Direction) (slot : Nat) (k : Lot) (s : State) :
    State × Answer :=
  let dev := deviates s a.lot
  let s' := (s.setLots (tput s.cond.lots slot (k.lifted dir c))).onRec c (acceptedRecord s c a dir slot k dev)
  let s' := advance true true s'
  let s' :=
    if a.tandem.isSome then s'
    else decisionRound (s'.setQueue (s'.gate.queue ++ [.lift ⟨c, none⟩]))
  (s', .reply ⟨.accepted, flagsByte [dev]⟩)

/-- R137: the record of the partner. -/
def partnerRecord (now : Count32) (c : CraneId) (a : RequestLiftArgs) (dir : Direction) (l : LotRef) (share : Nat)
    (r : LiftRecord) : LiftRecord :=
  { r with
    state := .requested, role := some .partner, lot := some l, dir := some dir, worst := some a.worst, plan := none
    other := some c.opposite, share := some share, deviation := false, confirmed := none, landing := none
    setDownTip := none, timer := some now, reason := some .none }

/-- R137: the lead leaves PAIRING. -/
def LiftRecord.paired (now : Count32) (r : LiftRecord) : LiftRecord :=
  { r with state := .requested, timer := some now, reason := some .none }

/-- R137: the lot's cranes become both. -/
def Lot.tandem (k : Lot) : Lot :=
  match k.state with
  | .lifting o d _ _ => { k with state := .lifting o d true true }
  | _ => k

/-- R137: the lead waits for this crane, this lot and this direction. -/
def partnerMatches (lead : LiftRecord) (c : CraneId) (id : Nat) (dir : Direction) : Bool :=
  decide (lead.state = .pairing) && decide (lead.role = some .lead) && decide (lead.lot.map LotRef.id = some id)
    && decide (lead.other = some c) && decide (lead.dir = some dir)

/-- R137: a partner request. -/
def joinLift (c : CraneId) (a : RequestLiftArgs) (t : TandemArgs) (dir : Direction) (slot : Nat) (k : Lot) (s : State) :
    State × Answer :=
  let lead := s.liftRec c.opposite
  if !partnerMatches lead c a.lot dir then refuse .state s
  else if lead.share.getD 0 + t.share ≠ k.declared then refuse .badValue s
  else
    let s' := s.onRec c (partnerRecord s.time c a dir ⟨a.lot, slot⟩ t.share)
    let s' := s'.onRec c.opposite (LiftRecord.paired s.time)
    let s' := advanceActual (s'.setLots (tput s'.cond.lots slot k.tandem))
    let s' := latchLift [c.opposite, c] (s'.setQueue (s'.gate.queue ++ [.lift ⟨c.opposite, some c⟩]))
    (decisionRound s', .reply ⟨.accepted, flagsByte [false]⟩)

/-- R133 steps 6 to 8 for a request that is no partner request. -/
def judgeLift (c : CraneId) (a : RequestLiftArgs) (dir : Direction) (slot : Nat) (k : Lot) (s : State) :
    State × Answer :=
  if !liftable k dir then refuse .state s
  else if (match a.tandem with | some t => decide (k.declared ≤ t.share) | none => false) then refuse .badValue s
  else if deviates s a.lot && (s.settings.severity.get .c13).atLeast s.settings.gateThreshold then refuse .sequence s
  else acceptLift c a dir slot k s

/-- R133. -/
def bodyRequestLift (l : Link) (a : RequestLiftArgs) (s : State) : State × Answer :=
  let c := craneOf l
  if !liftValuesOk s.ship c a then refuse .badValue s
  else if s.craneAbsent c || (a.tandem.isSome && s.craneAbsent c.opposite) then refuse .badRole s
  else if (s.liftRec c).state ≠ .idle then refuse .state s
  else
    match findLot s.cond.lots a.lot, dirOf a.dir with
    | some (slot, k), some dir =>
      match a.tandem with
      | some t => if k.state.isLifting then joinLift c a t dir slot k s else judgeLift c a dir slot k s
      | none => judgeLift c a dir slot k s
    | _, _ => refuse .notFound s

/-- REQUEST_LIFT (R133). -/
def execRequestLift (l : Link) (tag : Byte) (a : RequestLiftArgs) (s : State) : Outcome :=
  command l tag (.requestLift a) (bodyRequestLift l a) s

/-! ### Cancel Lift and the timers (R136, R144, R146, R147) -/

/-- R147: the states in which a cancel is taken. -/
def LiftState.cancellable : LiftState → Bool
  | .pairing => true
  | .requested => true
  | .cleared => true
  | _ => false

/-- R147. -/
def bodyCancelLift (l : Link) (s : State) : State × Answer :=
  let c := craneOf l
  if (s.liftRec c).state.cancellable then doneWith (advance true true (releaseLift (liftOf s c) .cancelled s))
  else refuse .state s

/-- CANCEL_LIFT (R147). -/
def execCancelLift (l : Link) (tag : Byte) (s : State) : Outcome := command l tag .cancelLift (bodyCancelLift l) s

/-- The running timer of a crane in a state has reached a period (log 6). -/
def timerDue (s : State) (c : CraneId) (st : LiftState) (period : Nat) : Bool :=
  decide ((s.liftRec c).state = st)
    && (match (s.liftRec c).timer with | some t => decide (period ≤ age s.time t) | none => false)

/-- R136, R144, R146: the lift of a crane ends by its timer. -/
def timeoutLift (c : CraneId) (s : State) : State := advance true true (releaseLift (liftOf s c) .timeout s)

/-- PAIRING_TIMEOUT (R136). -/
def execPairingTimeout (c : CraneId) (s : State) : Outcome :=
  dueEvent (fun s => timerDue s c .pairing s.settings.pairingTimeout) (timeoutLift c) s

/-- REQUEST_TIMEOUT (R144). -/
def execRequestTimeout (c : CraneId) (s : State) : Outcome :=
  dueEvent (fun s => timerDue s c .requested s.settings.requestTimeout) (timeoutLift c) s

/-- R146: the lead of the lift that holds the slot. -/
def slotLead (s : State) : CraneId :=
  match s.gate.slot with
  | some r => r.lead
  | none => .one

/-- CLEARANCE_LAPSE (R146). -/
def execClearanceLapse (s : State) : Outcome :=
  dueEvent (fun s => s.gate.slot.isSome && timerDue s (slotLead s) .cleared s.settings.clearanceValid)
    (fun s => timeoutLift (slotLead s) s) s

/-- CRANE_BECOMES_STALE (R149). -/
def execCraneBecomesStale (c : CraneId) (s : State) : Outcome :=
  dueEvent (fun s => craneStaleNow s c && !s.gate.stale.get c) (fun s => advanceActual (craneGoesStale c s)) s

/-! ### Hook Report (R148 to R151) -/

/-- R148: the load and every tip coordinate are plausible. -/
def plausible (load : Nat) (tip : Pos) : Bool := decide (load ≤ Config.maxHookLoad) && posOk tip

/-- R148: an accepted report moves the items and refreshes the crane, which ceases to be stale (R149). -/
def moveHook (c : CraneId) (load : Nat) (tip : Pos) (s : State) : State :=
  ((s.setHook c ⟨load, tip⟩).onRec c (fun r => { r with lastReport := some s.time })).setStale c false

/-- The counter after a test: one more, or 0. -/
def counted (qualifies : Bool) (n : Nat) : Nat := if qualifies then n + 1 else 0

def LiftRecord.counterAt (n : Nat) (r : LiftRecord) : LiftRecord := { r with counter := n }

/-- The lot of the lift that a crane takes part in. -/
def lotOfCrane (s : State) (c : CraneId) : Option Lot := (liftLot s (liftOf s c)).map Prod.snd

/-- R150: the expected mass of a crane. -/
def expectedMass (s : State) (c : CraneId) : Nat :=
  match (s.liftRec c).role with
  | some .single => codeOr Lot.declared (lotOfCrane s c)
  | _ => (s.liftRec c).share.getD 0

/-- R151: the reference mass of a crane. -/
def referenceMass (s : State) (c : CraneId) : Nat :=
  match (s.liftRec c).role with
  | some .single => ((lotOfCrane s c).bind Lot.measured).getD 0
  | _ => (s.liftRec c).share.getD 0

def LiftRecord.hoisted (r : LiftRecord) : LiftRecord :=
  { r with state := .hoisted, confirmed := none, counter := 0, timer := none }

/-- R150: the lot at the entry into HOISTED. -/
def Lot.weighed (tol measured : Nat) (k : Lot) : Lot :=
  { k with measured := some measured, discrepancy := discrepancyOf tol measured k.declared, modified := true }

/-- R150, R145: the lift becomes HOISTED with the measured mass. -/
def hoist (r : LiftRef) (measured : Nat) (s : State) : State :=
  let s := (s.onLiftLot r (Lot.weighed s.settings.discrepancyTol measured)).onRecs r.cranes LiftRecord.hoisted
  latchLift r.cranes (withdrawDemand .recheck s)

/-- R150: a crane's load-on is confirmed: a single lift is HOISTED; a tandem lift waits for the other crane. -/
def confirmOn (c : CraneId) (load : Nat) (s : State) : State :=
  match (liftOf s c).partner with
  | none => hoist (liftOf s c) load s
  | some _ =>
    match (s.liftRec c.opposite).confirmed with
    | some other => hoist (liftOf s c) (load + other) s
    | none => s.onRec c (fun r => { r with confirmed := some load })

/-- R150: a report in CLEARED; a crane already confirmed is tested no more (log 12). -/
def testLoadOn (c : CraneId) (load : Nat) (s : State) : State :=
  if (s.liftRec c).confirmed.isSome then s
  else
    let n := counted (loadOnQualifies s.settings.onFraction (expectedMass s c) load) (s.liftRec c).counter
    let s' := s.onRec c (LiftRecord.counterAt n)
    if s.settings.confirmCount ≤ n then confirmOn c load s' else s'

def LiftRecord.off (r : LiftRecord) : LiftRecord := { r with counter := 0, offConfirmed := false }

def LiftRecord.setDown (tip : Pos) (r : LiftRecord) : LiftRecord := { r with state := .setDown, setDownTip := some tip }

/-- R151: the lift is confirmed off. -/
def liftOff (r : LiftRef) (s : State) : State :=
  let s := s.onRecs r.cranes LiftRecord.off
  if (s.liftRec r.lead).state = .lowering then completeLift r s
  else latchLift r.cranes (s.onRecs r.cranes (LiftRecord.setDown (tipNow s r.lead)))

/-- R151: a crane's load-off is confirmed: a tandem lift waits for the other crane. -/
def confirmOff (c : CraneId) (s : State) : State :=
  match (liftOf s c).partner with
  | none => liftOff (liftOf s c) s
  | some _ =>
    if (s.liftRec c.opposite).offConfirmed then liftOff (liftOf s c) s
    else s.onRec c (fun r => { r with offConfirmed := true })

/-- R151: a report in HOISTED or LOWERING (log 12). -/
def testLoadOff (c : CraneId) (load : Nat) (s : State) : State :=
  if (s.liftRec c).offConfirmed then s
  else
    let n := counted (loadOffQualifies s.settings.offFraction (referenceMass s c) load) (s.liftRec c).counter
    let s' := s.onRec c (LiftRecord.counterAt n)
    if s.settings.confirmCount ≤ n then confirmOff c s' else s'

/-- R148: the report applied to confirmation by the crane's state. -/
def applyReport (c : CraneId) (load : Nat) (s : State) : State :=
  match (s.liftRec c).state with
  | .cleared => testLoadOn c load s
  | .hoisted => testLoadOff c load s
  | .lowering => testLoadOff c load s
  | _ => s

/-- R148: the reply: accepted or discarded, the crane's state and its counter. -/
def hookReply (acc : Nat) (c : CraneId) (s : State) : Reply :=
  ⟨.done, encU 1 acc ++ encU 1 (s.liftRec c).state.code ++ encU 1 (s.liftRec c).counter⟩

/-- R155: PLAN advances with ACTUAL when the report completed the lift. -/
def acceptReport (c : CraneId) (load : Nat) (tip : Pos) (s : State) : State :=
  let s' := applyReport c load (moveHook c load tip s)
  advance true (decide ((s.liftRec c).state = .lowering ∧ (s'.liftRec c).state = .idle)) s'

/-- R148 (log 14). -/
def bodyHookReport (l : Link) (load : Nat) (tip : Pos) (s : State) : State × Answer :=
  let c := craneOf l
  if s.craneAbsent c then refuse .badRole s
  else if !plausible load tip then (s, .quiet (hookReply 0 c s))
  else (acceptReport c load tip s, .reply (hookReply 1 c (acceptReport c load tip s)))

/-- HOOK_REPORT (R148). -/
def execHookReport (l : Link) (tag : Byte) (load : Nat) (tip : Pos) (s : State) : Outcome :=
  command l tag (.hookReport load tip) (bodyHookReport l load tip) s

/-! ### Landing Report (R152, R153) -/

/-- R152: the carried location passes its tests, and an aboard report carries one (log 14). -/
def landingOk (ship : ShipData) (a : LandingArgs) : Bool :=
  match a.location with
  | some loc => locOk ship loc
  | none => !a.aboard

/-- R152: where the report says the load went. -/
def reportedLanding (a : LandingArgs) : Landing :=
  match a.aboard, a.location with
  | true, some loc => .aboard loc
  | _, _ => .ashore

def LiftRecord.lowered (r : LiftRecord) : LiftRecord := { r with state := .lowering }

def LiftRecord.landedAs (place : Landing) (r : LiftRecord) : LiftRecord := { r with landing := some place }

/-- R152: the landing of the lead or single crane is recorded in HOISTED. -/
def beginLowering (r : LiftRef) (place : Landing) (s : State) : State :=
  latchLift r.cranes ((s.onRec r.lead (LiftRecord.landedAs place)).onRecs r.cranes LiftRecord.lowered)

/-- R152. -/
def bodyLandingReport (l : Link) (a : LandingArgs) (s : State) : State × Answer :=
  let c := craneOf l
  let partner := decide ((s.liftRec c).role = some .partner)
  if !landingOk s.ship a then refuse .badValue s
  else
    match (s.liftRec c).state with
    | .hoisted =>
      if partner then (s, .quiet (Reply.bare .done))
      else doneWith (advance true false (beginLowering (liftOf s c) (reportedLanding a) s))
    | .setDown =>
      if partner then (s, .quiet (Reply.bare .done))
      else doneWith (advance true true (completeLift (liftOf s c) (s.onRec c (LiftRecord.landedAs (reportedLanding a)))))
    | _ => refuse .state s

/-- LANDING_REPORT (R152). -/
def execLandingReport (l : Link) (tag : Byte) (a : LandingArgs) (s : State) : Outcome :=
  command l tag (.landingReport a) (bodyLandingReport l a) s

/-! ### Read Lift Status (R156) -/

/-- R156. -/
def bodyReadLiftStatus (s : State) : State × Answer := (s, .quiet ⟨.done, liftStatusImage s⟩)

/-- READ_LIFT_STATUS (R156). -/
def execReadLiftStatus (l : Link) (tag : Byte) (s : State) : Outcome :=
  command l tag .readLiftStatus bodyReadLiftStatus s

end Sys2Proof.Machine
end

