-- ==== Sys2Proof/Machine/Transfers.lean ====
section
/-! DEFINITION. Family: ballast transfers and tank reports (chapter 9). -/

namespace Sys2Proof.Machine

/-! ### Tank Report (R157 to R160, R168) -/

/-- The outcome of a reading (11.3). -/
inductive ReadingOutcome where
  | accepted | clamped | discardedDensity | discardedTank
deriving DecidableEq, Repr

def ReadingOutcome.code : ReadingOutcome → Nat
  | .accepted => 0
  | .clamped => 1
  | .discardedDensity => 2
  | .discardedTank => 3

def ReadingOutcome.taken : ReadingOutcome → Bool
  | .accepted => true
  | .clamped => true
  | _ => false

/-- R158 steps 1 to 3. -/
def judgeReading (ship : ShipData) (r : Reading) : ReadingOutcome :=
  if !densityOk r.density then .discardedDensity
  else
    match tget ship.tanks r.tank with
    | none => .discardedTank
    | some g => if capacityMass g r.density < r.contents then .clamped else .accepted

/-- R158 steps 3 and 4, R160: the tank after a reading that is taken. -/
def TankRow.read (now : Count32) (contents density : Nat) (clamped : Bool) (r : TankRow) : TankRow :=
  { r with
    contents := contents, density := density, source := .gauged, time := now, clamped := clamped, stale := false }

/-- R168: the transferred amount after a reading of a tank; with a tank source a reading of the destination leaves
it. -/
def amountAfter (t : Transfer) (ss sd : Option Nat) (amount tank contents : Nat) : Nat :=
  match t.source with
  | .tank src => if src = tank then ss.getD 0 - contents else amount
  | .sea => contents - sd.getD 0

/-- R168: the progress of the transfer that involves a tank, measured from the contents then recorded. -/
def measure (tank : Nat) (s : State) : State :=
  match grantedFor s tank with
  | none => s
  | some (id, t) =>
    match t.phase with
    | .requested _ _ => s
    | .granted ss sd time amount mark =>
      let m := amountAfter t ss sd amount tank (s.tankRow tank).contents
      let beyond := overruns s.settings.overrunTol t.planned m
      let s' := s.setTransfers
        (tput s.ballast.transfers id { t with phase := .granted ss sd time m (mark || beyond) })
      if beyond && !mark then latchTransfer s' else s'

/-- R158, R159: one reading taken in: the tank, its staleness, the progress of its transfer. -/
def takeReading (ship : ShipData) (r : Reading) (s : State) : State :=
  match judgeReading ship r, tget ship.tanks r.tank with
  | .accepted, _ => measure r.tank (s.setTankRow r.tank ((s.tankRow r.tank).read s.time r.contents r.density false))
  | .clamped, some g =>
    measure r.tank
      (s.setTankRow r.tank ((s.tankRow r.tank).read s.time (capacityMass g r.density) r.density true))
  | _, _ => s

/-- R157: the readings one at a time, in their order. -/
def takeReadings (rs : List Reading) (s : State) : State := rs.foldl (fun s r => takeReading s.ship r s) s

/-- The readings that are accepted or clamped. -/
def takenReadings (ship : ShipData) (rs : List Reading) : List Reading :=
  rs.filter (fun r => (judgeReading ship r).taken)

/-- R157: the reply. -/
def tankReply (ship : ShipData) (rs : List Reading) : Reply :=
  ⟨.done,
    encU 1 (takenReadings ship rs).length
      ++ encU 1 (rs.filter (fun r => decide (judgeReading ship r = .clamped))).length
      ++ (rs.map (fun r => encU 1 (judgeReading ship r).code)).flatten⟩

/-- R157, R159. -/
def bodyTankReport (payload : List Byte) (s : State) : State × Answer :=
  match readingsOf payload with
  | none => refuse .badForm s
  | some rs =>
    let reply := tankReply s.ship rs
    let taken := takenReadings s.ship rs
    if taken.isEmpty then (s, .quiet reply)
    else
      (advance true (taken.any (fun r => (s.tankRow r.tank).target.isNone)) (takeReadings rs s), .reply reply)

/-- TANK_REPORT (R157). -/
def execTankReport (l : Link) (tag : Byte) (payload : List Byte) (s : State) : Outcome :=
  command l tag (.tankReport payload) (bodyTankReport payload) s

/-- TANK_BECOMES_STALE (R160). -/
def execTankBecomesStale (tank : Nat) (s : State) : Outcome :=
  dueEvent (fun s => tankStaleNow s tank && !(s.tankRow tank).stale) (fun s => advanceActual (tankGoesStale tank s)) s

/-! ### Request Transfer (R162, R163) -/

/-- R161: the first value from `n` on, 255 followed by 1, that no entry holds; at most `fuel` are skipped. -/
def nextFreeId (t : Table Transfer) : Nat → Nat → Nat
  | 0, n => n
  | fuel + 1, n => if (tget t n).isSome then nextFreeId t fuel (if n = 255 then 1 else n + 1) else n

/-- The value that follows an id. -/
def idAfter (n : Nat) : Nat := if n = 255 then 1 else n + 1

/-- R162 step 1. -/
def transferEnds (source dest planned : Nat) : Option (End × End) :=
  match endOf source, endOf dest with
  | some a, some b => if a = b ∨ planned = 0 then none else some (a, b)
  | _, _ => none

/-- R165: the density a destination would take. -/
def densityTaken (s : State) (source : End) (dest : Nat) : Nat :=
  if 0 < (s.tankRow dest).contents then (s.tankRow dest).density
  else
    match source with
    | .sea => s.settings.seaDensity
    | .tank k => (s.tankRow k).density

/-- R162 step 4. -/
def amountsOk (s : State) (source dest : End) (planned : Nat) : Bool :=
  (match source with | .tank k => decide (planned ≤ (s.tankRow k).contents) | .sea => true)
    && (match dest with
        | .tank k =>
          match s.tankGeom? k with
          | some g => decide (planned + (s.tankRow k).contents ≤ capacityMass g (densityTaken s source k))
          | none => false
        | .sea => true)

/-- R163: a request is accepted. -/
def acceptTransfer (source dest : End) (planned : Nat) (s : State) : State × Answer :=
  let id := nextFreeId s.ballast.transfers Config.maxTransfers s.ballast.nextId
  let t : Transfer := { source := source, dest := dest, planned := planned, phase := .requested .none s.time }
  let s' := { s with
    ballast := { s.ballast with transfers := tput s.ballast.transfers id t, nextId := idAfter id } }
  let s' := t.tankEnds.foldl (setTankTransfer (some id)) s'
  (decisionRound (s'.setQueue (s'.gate.queue ++ [.transfer id])), .reply ⟨.accepted, encU 1 id⟩)

/-- R162. -/
def bodyRequestTransfer (source dest planned : Nat) (s : State) : State × Answer :=
  match transferEnds source dest planned with
  | none => refuse .badValue s
  | some (a, b) =>
    let ends := (Transfer.tankEnds { source := a, dest := b, planned := planned, phase := .requested .none 0 })
    if ends.any (fun k => (s.tankGeom? k).isNone) then refuse .notFound s
    else if ends.any (fun k => decide ((s.tankRow k).source ≠ .gauged) || (s.tankRow k).transfer.isSome) then
      refuse .state s
    else if !amountsOk s a b planned then refuse .badValue s
    else if Config.maxTransfers ≤ s.ballast.transfers.length then refuse .full s
    else acceptTransfer a b planned s

/-- REQUEST_TRANSFER (R162). -/
def execRequestTransfer (l : Link) (tag : Byte) (source destination mass : Nat) (s : State) : Outcome :=
  command l tag (.requestTransfer source destination mass) (bodyRequestTransfer source destination mass) s

/-- R167: the request timer of a transfer has reached the request timeout (log 6). -/
def transferDue (s : State) (id : Nat) : Bool :=
  match (tget s.ballast.transfers id).map Transfer.phase with
  | some (.requested _ timer) => decide (s.settings.requestTimeout ≤ age s.time timer)
  | _ => false

/-- R167: the request ends. -/
def timeoutTransfer (id : Nat) (s : State) : State :=
  match tget s.ballast.transfers id with
  | some t => removeTransfer id t .timeout s
  | none => s

/-- TRANSFER_REQUEST_TIMEOUT (R167). -/
def execTransferRequestTimeout (transfer : Nat) (s : State) : Outcome :=
  dueEvent (fun s => transferDue s transfer) (timeoutTransfer transfer) s

/-! ### Ending a transfer (R169, R170) -/

/-- The transferred amount and the overrun mark, as the reply carries them. -/
def amountImage (amount : Nat) (overrun : Bool) : List Byte := encU 4 amount ++ encU 1 (beBool overrun)

/-- R169, R170: a GRANTED transfer is ended. -/
def endGranted (id : Nat) (t : Transfer) (kind : EndKind) (amount : Nat) (overrun : Bool) (s : State) :
    State × Answer :=
  (advanceActual (removeTransfer id t kind s), .reply ⟨.done, amountImage amount overrun⟩)

/-- R169. -/
def bodyEndTransfer (id : Nat) (s : State) : State × Answer :=
  match tget s.ballast.transfers id with
  | none => refuse .notFound s
  | some t =>
    match t.phase with
    | .requested _ _ => refuse .state s
    | .granted _ _ _ amount overrun => endGranted id t .ended amount overrun s

/-- END_TRANSFER (R169). -/
def execEndTransfer (l : Link) (tag : Byte) (transfer : Nat) (s : State) : Outcome :=
  command l tag (.endTransfer transfer) (bodyEndTransfer transfer) s

/-- R170. -/
def bodyCancelTransfer (id : Nat) (s : State) : State × Answer :=
  match tget s.ballast.transfers id with
  | none => refuse .notFound s
  | some t =>
    match t.phase with
    | .requested _ _ => doneWith (removeTransfer id t .cancelled s)
    | .granted _ _ _ amount overrun => endGranted id t .cancelled amount overrun s

/-- CANCEL_TRANSFER (R170). -/
def execCancelTransfer (l : Link) (tag : Byte) (transfer : Nat) (s : State) : Outcome :=
  command l tag (.cancelTransfer transfer) (bodyCancelTransfer transfer) s

/-! ### Read Transfers (R172) -/

/-- R172. -/
def bodyReadTransfers (part : Nat) (s : State) : State × Answer :=
  if part = 0 then (s, .quiet ⟨.done, transferTableImage s⟩)
  else if part = 1 then (s, .quiet ⟨.done, transferLogImage s⟩)
  else refuse .badValue s

/-- READ_TRANSFERS (R172). -/
def execReadTransfers (l : Link) (tag : Byte) (part : Nat) (s : State) : Outcome :=
  command l tag (.readTransfers part) (bodyReadTransfers part) s

end Sys2Proof.Machine
end

