-- ==== Sys2Proof/Machine/Passes.lean ====
section
/-! DEFINITION. Family: the ends of passes and predictions (chapters 4, 6 and 8): publication, the HOOK pass of a lift
prediction, and the completion of a prediction. -/

namespace Sys2Proof.Machine

/-! ### Publication (R73) -/

/-- The set a pass forms (R68). -/
def passSet (ship : ShipData) (p : Pass) : ResultSet := evaluate ship p.rho p.gen p.tainted p.items

/-- R73 step 1: the set replaces the published one, and the sticky flags are set (R66). -/
def CtxState.published (r : ResultSet) (c : CtxState) : CtxState :=
  { c with set := some r, sticky := c.sticky.raise r }

def publishSet (p : Pass) (r : ResultSet) (s : State) : State :=
  { s with eval := { s.eval.mapCtx (CtxState.published r) p.ctx with unit := .idle } }

def Monitor.setList (m : Monitor) (x : Ctx) (v : ViolationList) : Monitor :=
  match x with
  | .actual => { m with actual := v }
  | .plan => { m with plan := v }
  | .trial => { m with trial := v }

/-- R112: the context's list is brought up to date with a judgement. -/
def updateListOf (p : Pass) (new : List Violation) (s : State) : State :=
  { s with monitor :=
    s.monitor.setList p.ctx (updateList s.time p.gen p.limitName new (listOf s p.ctx)) }

/-- R113: the violation events of a publication of ACTUAL. -/
def noteViolations (kept new : List Violation) (s : State) : State :=
  let s := if (newlyAppearing kept new).isEmpty then s else latchOn .violationNew allLinks s
  if someCleared kept new then latchOn .violationCleared allLinks s else s

/-- R120: suspension is entered automatically. -/
def autoSuspend (s : State) : State :=
  if s.suspended then s
  else
    match firstAtTrigger s with
    | some v => enterSuspension (.automatic v.cls v.index) s
    | none => s

/-- R73 step 2 for ACTUAL: the list, the events, the records, the suspension. -/
def monitorActual (p : Pass) (new : List Violation) (s : State) : State :=
  let kept := s.monitor.actual.kept
  autoSuspend (fillRecords p.gen (newlyAppearing kept new) (noteViolations kept new (updateListOf p new s)))

/-- R141: the hoist window after a publication of ACTUAL. -/
def windowAfter (w : Settings) (open_ : Bool) (h : Quantity) : Bool :=
  if h.isValid then
    if h.val.natAbs ≤ w.wIn then true else if h.val.natAbs ≤ w.wOut then open_ else false
  else false

def judgeWindow (r : ResultSet) (s : State) : State :=
  { s with gate := { s.gate with window := windowAfter s.settings s.gate.window r.heel } }

/-- R145: the standing clearance at a publication of ACTUAL. -/
def recheckClearance (s : State) : State :=
  match standingClearance s with
  | none => s
  | some r =>
    if actualTainted s || r.cranes.any (fun c => !hookFresh s c) then withdrawClearance r .stale s
    else postDemand .recheck s

/-- R73 step 3, for ACTUAL only. -/
def gateActual (r : ResultSet) (s : State) : State := decisionRound (recheckClearance (judgeWindow r s))

/-- R73 step 4. -/
def noteResults (x : Ctx) (s : State) : State :=
  match x with
  | .actual => latchOn .results allLinks s
  | _ => latch .results .l0 s

/-- R73: the pass publishes. -/
def publish (p : Pass) (s : State) : State :=
  let r := passSet s.ship p
  let new := judgePass s.ship p r
  let s := publishSet p r s
  match p.ctx with
  | .actual => noteResults .actual (gateActual r (monitorActual p new s))
  | x => noteResults x (updateListOf p new s)

def passInFlight (s : State) : Option Pass :=
  match s.eval.unit with
  | .pass p => some p
  | _ => none

/-- PUBLICATION (R73): the last stage of the pass in flight is complete (log 16). -/
def execPublication (s : State) : Outcome :=
  dueEvent (fun s => (passInFlight s).isSome)
    (fun s => match passInFlight s with | some p => publish p s | none => s) s

/-! ### Predictions (R79, R80) -/

def predictionInFlight (s : State) : Option Prediction :=
  match s.eval.unit with
  | .predicting p => some p
  | _ => none

/-- The set of a prediction's HOOK pass, and of its LANDED or TRANSFER pass. -/
def hookSet (ship : ShipData) (p : Prediction) : ResultSet := evaluate ship p.rho p.gen p.tainted p.hookItems

def lastSet (ship : ShipData) (p : Prediction) : ResultSet := evaluate ship p.rho p.gen p.tainted p.lastItems

def inHookPhase (s : State) : Bool :=
  match predictionInFlight s with
  | some p => decide (p.phase = .hook)
  | none => false

/-- R79: the HOOK pass is complete, and the LANDED pass follows over the same capture. -/
def completeHookPass (s : State) : State :=
  match predictionInFlight s with
  | some p =>
    { s with eval := { s.eval with unit := .predicting { p with phase := .landed, first := some (hookSet s.ship p) } } }
  | none => s

/-- HOOK_PASS_COMPLETE (R76, R79). -/
def execHookPassComplete (s : State) : Outcome := dueEvent inHookPhase completeHookPass s

/-- R116: the judgements of a lift prediction, the HOOK judgement before the LANDED one. -/
def liftJudgement (ship : ShipData) (p : Prediction) : List Violation :=
  (match p.first with | some r => judge ship p.hookLimits r | none => []) ++ judge ship p.lastLimits (lastSet ship p)

/-- R79: the delivery of a prediction to the lift gate. -/
def deliver (p : Prediction) (s : State) : State :=
  match p.key with
  | .recheck => deliverRecheck p.tainted (blocking s.settings (liftJudgement s.ship p)) s
  | .lift lead => deliverLift (liftOf s lead) p.tainted (blocking s.settings (liftJudgement s.ship p)) s
  | .transfer id => deliverTransfer id p.tainted (judge s.ship p.lastLimits (lastSet s.ship p)) s

/-- R80: the prediction is delivered when ACTUAL has not changed since its capture, and is discarded otherwise. -/
def completePrediction (s : State) : State :=
  match predictionInFlight s with
  | none => s
  | some p =>
    let freed := { s with eval := { s.eval with unit := .idle } }
    if s.eval.actual.gen = p.gen then deliver p freed
    else { freed with eval := { freed.eval with waiting := freed.eval.waiting ++ [p.key] } }

/-- The last pass of a prediction is in flight. -/
def inLastPhase (s : State) : Bool := (predictionInFlight s).isSome && !inHookPhase s

/-- PREDICTION_COMPLETION (R80). -/
def execPredictionCompletion (s : State) : Outcome := dueEvent inLastPhase completePrediction s

end Sys2Proof.Machine
end

