-- ==== Sys2Proof/Machine/Traffic.lean ====
section
/-! DEFINITION. Family: the station links (chapter 10): reception, the taking of frames, departures, notices and link
resets. -/

namespace Sys2Proof.Machine

/-! ### Reception (R175, R176) -/

/-- R176: the frame in reception is discarded. -/
def LinkUnit.discard (u : LinkUnit) : LinkUnit :=
  { u with rx := .hunt, errorCount := bump u.errorCount }.latch .frameError

/-- R175, row CHECK: the frame is complete; the check matches or the frame is discarded. -/
def LinkUnit.checkFrame (f : Frame) (hi lo : Byte) (u : LinkUnit) : LinkUnit :=
  if beNat [hi, lo] = (crc f.checked).toNat then { u with rx := .hunt }.receive f else u.discard

/-- R175: a character with a high stop bit, by the receiver's state. -/
def LinkUnit.character (b : Byte) (u : LinkUnit) : LinkUnit :=
  match u.rx with
  | .hunt => if b = Config.mark then { u with rx := .header [] } else u
  | .header [] => if Config.maxPayload < b.toNat then u.discard else { u with rx := .header [b] }
  | .header [n] => { u with rx := .header [n, b] }
  | .header (n :: k :: _) =>
    if n.toNat = 0 then { u with rx := .check k b [] none } else { u with rx := .body n.toNat k b [] }
  | .body len k t got =>
    if got.length + 1 < len then { u with rx := .body len k t (got ++ [b]) }
    else { u with rx := .check k t (got ++ [b]) none }
  | .check k t p none => { u with rx := .check k t p (some b) }
  | .check k t p (some hi) => u.checkFrame { kind := k, tag := t, payload := p } hi b

/-- R175, R176, R186: one character of the receive line; a low stop bit discards a frame in reception and is ignored
in HUNT, and the receiver ignores the line while a break holds it low. -/
def LinkUnit.hear (u : LinkUnit) (c : RxChar) : LinkUnit :=
  if u.lineLow then u
  else if c.stopOk then u.character c.value
  else if u.rx = .hunt then u
  else u.discard

/-- A change to one link, after which its next transmission may begin. -/
def linkEvent (l : Link) (f : LinkUnit → LinkUnit) (s : State) : State :=
  s.onLink l (fun u => (f u).startTx s.mode)

/-- FRAME_RECEIVED (R175 to R177): characters arrive on a receive line (log 16). -/
def execFrameReceived (l : Link) (chars : List RxChar) (s : State) : Outcome :=
  event (linkEvent l (fun u => chars.foldl LinkUnit.hear u)) s

/-- CHARACTER_GAP_TIMEOUT (R176): more than 20 ms have passed since the last character. -/
def execCharacterGapTimeout (l : Link) (s : State) : Outcome :=
  event (linkEvent l (fun u => if u.rx = .hunt then u else u.discard)) s

/-! ### Link reset (R186) -/

/-- R174, column 'After link reset': the persisting bits whose conditions stand are set. -/
def LinkUnit.broken (l : Link) (standing : Word16) : LinkUnit :=
  { LinkUnit.reset l with lineLow := true, notices := standing }

/-- BREAK (R186): the link is reset once while the line is held low. -/
def execLineBreak (l : Link) (s : State) : Outcome :=
  event (fun s => s.onLink l (fun u => if u.lineLow then u else LinkUnit.broken l (standingBits s l))) s

/-- RECEIVE_LINE_RETURN_TO_IDLE (R186). -/
def execReceiveLineReturnToIdle (l : Link) (s : State) : Outcome :=
  .next (s.onLink l (fun u => { u with lineLow := false }))

/-! ### Notices (R184, R185) -/

/-- R184: every bit is cleared but the persisting ones whose conditions stand. -/
def bodyReadNotices (l : Link) (s : State) : State × Answer :=
  let standing := standingBits s l
  (s.onLink l (fun u => { u with notices := u.notices &&& standing }),
    .quiet ⟨.done, noticesImage s.mode (s.links.get l)⟩)

/-- READ_NOTICES (R184). -/
def execReadNotices (l : Link) (tag : Byte) (s : State) : Outcome :=
  command l tag .readNotices (bodyReadNotices l) s

/-- R185: the mask and the mode take the carried values; in LEVEL mode a set bit that is newly unmasked makes a notice
frame due. -/
def LinkUnit.setMask (mask : Word16) (level : Bool) (u : LinkUnit) : LinkUnit :=
  let v := { u with mask := mask, level := level }
  if level && decide (u.notices &&& mask &&& ~~~u.mask ≠ 0#16) then v.noticeDue else v

/-- The events of R189, bits 12 to 15 being reserved (log 10). -/
def namedEvents (events : Nat) : Word16 := BitVec.ofNat 16 events &&& linkEvents .l0

/-- R185. -/
def bodySetNoticeMask (l : Link) (events mode : Nat) (s : State) : State × Answer :=
  let named := namedEvents events
  match boolOf mode with
  | none => refuse .badValue s
  | some level =>
    if named &&& ~~~linkEvents l ≠ 0#16 then refuse .badValue s
    else
      let u := s.links.get l
      (s.onLink l (LinkUnit.setMask named level), .quiet ⟨.done, encU 2 u.mask.toNat ++ encU 1 (beBool u.level)⟩)

/-- SET_NOTICE_MASK (R185). -/
def execSetNoticeMask (l : Link) (tag : Byte) (events mode : Nat) (s : State) : Outcome :=
  command l tag (.setNoticeMask events mode) (bodySetNoticeMask l events mode) s

/-! ### Taking a frame (R178) -/

/-- The body of a request on a link: what its own row runs. -/
def bodyOf (l : Link) (r : Request) : State → State × Answer :=
  match r with
  | .enterConfiguration => bodyEnterConfiguration
  | .writeShipData b i e => bodyWriteShipData b i e
  | .readShipData b i => bodyReadShipData b i
  | .commitShipData => bodyCommitShipData
  | .writeSetting i v => bodyWriteSetting i v
  | .readSetting i => bodyReadSetting i
  | .storeSettings => bodyStoreSettings
  | .controlLine a m v => bodyControlLine a m v
  | .clearLineStatus n => bodyClearLineStatus n
  | .restart => bodyRestart
  | .planLot a => bodyPlanLot a
  | .unplanLot n => bodyUnplanLot n
  | .placeLot a => bodyPlaceLot a
  | .removeLot n => bodyRemoveLot n
  | .markDischarge n => bodyMarkDischarge n
  | .unmarkDischarge n => bodyUnmarkDischarge n
  | .acceptWeight n => bodyAcceptWeight n
  | .readLot n => bodyReadLot n
  | .querySlot n => bodyQuerySlot n
  | .insertInSequence n d p => bodyInsertInSequence n d p
  | .removeFromSequence n => bodyRemoveFromSequence n
  | .readSequence p => bodyReadSequence p
  | .setTankManual t c d => bodySetTankManual t c d
  | .setTankTarget t g => bodySetTankTarget t g
  | .openFrame => bodyOpenFrame
  | .addMoves p => bodyAddMoves p
  | .dropFrame => bodyDropFrame
  | .foldFrame => bodyFoldFrame
  | .readResults c p n k => bodyReadResults l c p n k
  | .readViolations c p => bodyReadViolations c p
  | .readRecords => bodyReadRecords
  | .acknowledgeRecords => bodyAcknowledgeRecords
  | .suspendWork => bodySuspendWork
  | .resumeWork => bodyResumeWork
  | .openSnapshot => bodyOpenSnapshot
  | .readSnapshotPage p => bodyReadSnapshotPage p
  | .closeSnapshot => bodyCloseSnapshot
  | .writeImagePage p d => bodyWriteImagePage p d
  | .applyImage => bodyApplyImage
  | .requestLift a => bodyRequestLift l a
  | .cancelLift => bodyCancelLift l
  | .hookReport n t => bodyHookReport l n t
  | .landingReport a => bodyLandingReport l a
  | .readLiftStatus => bodyReadLiftStatus
  | .tankReport p => bodyTankReport p
  | .requestTransfer a b m => bodyRequestTransfer a b m
  | .endTransfer n => bodyEndTransfer n
  | .cancelTransfer n => bodyCancelTransfer n
  | .readTransfers p => bodyReadTransfers p
  | .setNoticeMask e m => bodySetNoticeMask l e m
  | .readNotices => bodyReadNotices l

/-- R178: the head frame leaves the inbound queue and is taken. -/
def takeHead (l : Link) (s : State) : State :=
  match (s.links.get l).inbound with
  | [] => s
  | f :: rest =>
    takenAs l f.kind f.tag (Request.decode f.kind f.payload) (bodyOf l) (s.onLink l (fun u => { u with inbound := rest }))

/-- TAKE_FRAME (R178). -/
def execTakeFrame (l : Link) (s : State) : Outcome :=
  event (fun s => if canTake s l then takeHead l s else s) s

/-! ### Departures (R181) -/

/-- The queue without the place in transmission. -/
def dropSending : List OutPlace → List OutPlace
  | [] => []
  | .sending _ :: rest => rest
  | p :: rest => p :: dropSending rest

/-- R181 step 2: an owed notice takes the freed place. -/
def LinkUnit.payOwed (u : LinkUnit) : LinkUnit :=
  if u.owed then { u with outbound := u.outbound ++ [.notice], owed := false } else u

/-- R181: the last character of the frame in transmission has been sent. -/
def LinkUnit.depart (u : LinkUnit) : LinkUnit :=
  if u.outbound.any OutPlace.isSending then { u with outbound := dropSending u.outbound }.payOwed else u

/-- FRAME_DEPARTURE (R181) (log 16). -/
def execFrameDeparture (l : Link) (s : State) : Outcome := event (linkEvent l LinkUnit.depart) s

end Sys2Proof.Machine
end

