-- ==== Sys2Proof/Machine/Dispatch.lean ====
section
/-! DEFINITION. The dispatch of commands: one arm for each row of spec/opcode_table.json, in the table's order. -/

namespace Sys2Proof.Machine

def exec (i : Instr) (s : State) : Host.Outcome State Fault Refusal :=
  match i with
  | .powerOn => Sys2Proof.Machine.execPowerOn s
  | .restartLine => Sys2Proof.Machine.execRestartLine s
  | .endOfInitializing => Sys2Proof.Machine.execEndOfInitializing s
  | .timebaseAdvance => Sys2Proof.Machine.execTimebaseAdvance s
  | .enterConfiguration l tag => Sys2Proof.Machine.execEnterConfiguration l tag s
  | .writeShipData l tag block index entry => Sys2Proof.Machine.execWriteShipData l tag block index entry s
  | .readShipData l tag block index => Sys2Proof.Machine.execReadShipData l tag block index s
  | .commitShipData l tag => Sys2Proof.Machine.execCommitShipData l tag s
  | .commitCompletion => Sys2Proof.Machine.execCommitCompletion s
  | .writeSetting l tag item value => Sys2Proof.Machine.execWriteSetting l tag item value s
  | .readSetting l tag item => Sys2Proof.Machine.execReadSetting l tag item s
  | .storeSettings l tag => Sys2Proof.Machine.execStoreSettings l tag s
  | .storeSettingsCompletion => Sys2Proof.Machine.execStoreSettingsCompletion s
  | .controlLine l tag line mode level => Sys2Proof.Machine.execControlLine l tag line mode level s
  | .clearLineStatus l tag selection => Sys2Proof.Machine.execClearLineStatus l tag selection s
  | .restart l tag => Sys2Proof.Machine.execRestart l tag s
  | .planLot l tag a => Sys2Proof.Machine.execPlanLot l tag a s
  | .unplanLot l tag lot => Sys2Proof.Machine.execUnplanLot l tag lot s
  | .placeLot l tag a => Sys2Proof.Machine.execPlaceLot l tag a s
  | .removeLot l tag lot => Sys2Proof.Machine.execRemoveLot l tag lot s
  | .markDischarge l tag lot => Sys2Proof.Machine.execMarkDischarge l tag lot s
  | .unmarkDischarge l tag lot => Sys2Proof.Machine.execUnmarkDischarge l tag lot s
  | .acceptWeight l tag lot => Sys2Proof.Machine.execAcceptWeight l tag lot s
  | .readLot l tag lot => Sys2Proof.Machine.execReadLot l tag lot s
  | .querySlot l tag slot => Sys2Proof.Machine.execQuerySlot l tag slot s
  | .insertInSequence l tag lot dir place => Sys2Proof.Machine.execInsertInSequence l tag lot dir place s
  | .removeFromSequence l tag lot => Sys2Proof.Machine.execRemoveFromSequence l tag lot s
  | .readSequence l tag page => Sys2Proof.Machine.execReadSequence l tag page s
  | .setTankManual l tag tank contents density => Sys2Proof.Machine.execSetTankManual l tag tank contents density s
  | .setTankTarget l tag tank target => Sys2Proof.Machine.execSetTankTarget l tag tank target s
  | .openFrame l tag => Sys2Proof.Machine.execOpenFrame l tag s
  | .addMoves l tag payload => Sys2Proof.Machine.execAddMoves l tag payload s
  | .dropFrame l tag => Sys2Proof.Machine.execDropFrame l tag s
  | .foldFrame l tag => Sys2Proof.Machine.execFoldFrame l tag s
  | .readResults l tag context part page clear => Sys2Proof.Machine.execReadResults l tag context part page clear s
  | .readViolations l tag context page => Sys2Proof.Machine.execReadViolations l tag context page s
  | .readRecords l tag => Sys2Proof.Machine.execReadRecords l tag s
  | .acknowledgeRecords l tag => Sys2Proof.Machine.execAcknowledgeRecords l tag s
  | .suspendWork l tag => Sys2Proof.Machine.execSuspendWork l tag s
  | .resumeWork l tag => Sys2Proof.Machine.execResumeWork l tag s
  | .openSnapshot l tag => Sys2Proof.Machine.execOpenSnapshot l tag s
  | .openSnapshotCompletion => Sys2Proof.Machine.execOpenSnapshotCompletion s
  | .readSnapshotPage l tag page => Sys2Proof.Machine.execReadSnapshotPage l tag page s
  | .closeSnapshot l tag => Sys2Proof.Machine.execCloseSnapshot l tag s
  | .writeImagePage l tag page data => Sys2Proof.Machine.execWriteImagePage l tag page data s
  | .applyImage l tag => Sys2Proof.Machine.execApplyImage l tag s
  | .readLiftStatus l tag => Sys2Proof.Machine.execReadLiftStatus l tag s
  | .readTransfers l tag part => Sys2Proof.Machine.execReadTransfers l tag part s
  | .setNoticeMask l tag events mode => Sys2Proof.Machine.execSetNoticeMask l tag events mode s
  | .readNotices l tag => Sys2Proof.Machine.execReadNotices l tag s
  | .requestLift l tag a => Sys2Proof.Machine.execRequestLift l tag a s
  | .cancelLift l tag => Sys2Proof.Machine.execCancelLift l tag s
  | .hookReport l tag load tip => Sys2Proof.Machine.execHookReport l tag load tip s
  | .landingReport l tag a => Sys2Proof.Machine.execLandingReport l tag a s
  | .pairingTimeout c => Sys2Proof.Machine.execPairingTimeout c s
  | .requestTimeout c => Sys2Proof.Machine.execRequestTimeout c s
  | .clearanceLapse => Sys2Proof.Machine.execClearanceLapse s
  | .craneBecomesStale c => Sys2Proof.Machine.execCraneBecomesStale c s
  | .tankReport l tag payload => Sys2Proof.Machine.execTankReport l tag payload s
  | .tankBecomesStale tank => Sys2Proof.Machine.execTankBecomesStale tank s
  | .requestTransfer l tag source destination mass => Sys2Proof.Machine.execRequestTransfer l tag source destination mass s
  | .transferRequestTimeout transfer => Sys2Proof.Machine.execTransferRequestTimeout transfer s
  | .endTransfer l tag transfer => Sys2Proof.Machine.execEndTransfer l tag transfer s
  | .cancelTransfer l tag transfer => Sys2Proof.Machine.execCancelTransfer l tag transfer s
  | .publication => Sys2Proof.Machine.execPublication s
  | .hookPassComplete => Sys2Proof.Machine.execHookPassComplete s
  | .predictionCompletion => Sys2Proof.Machine.execPredictionCompletion s
  | .frameReceived l chars => Sys2Proof.Machine.execFrameReceived l chars s
  | .characterGapTimeout l => Sys2Proof.Machine.execCharacterGapTimeout l s
  | .lineBreak l => Sys2Proof.Machine.execLineBreak l s
  | .takeFrame l => Sys2Proof.Machine.execTakeFrame l s
  | .frameDeparture l => Sys2Proof.Machine.execFrameDeparture l s
  | .powerLoss => Sys2Proof.Machine.execPowerLoss s
  | .receiveLineReturnToIdle l => Sys2Proof.Machine.execReceiveLineReturnToIdle l s
  | .restartInputReturnToRest => Sys2Proof.Machine.execRestartInputReturnToRest s

end Sys2Proof.Machine
end

