-- ==== Sys2Proof/WellFormed.lean ====
section
/-! DEFINITION. Which commands a station can send: every field of the command fits the field of the payload that
carries it (R187, R191).  A field that its payload can carry and its rule refuses (a direction code of 9, a lot id of 0)
is well formed: the command's own rule answers it. -/

namespace Sys2Proof

/-- `n` fits an unsigned field of `w` bytes. -/
def fitsU (w n : Nat) : Bool := decide (n < 256 ^ w)

/-- `i` fits a signed field of `w` bytes, in two's complement. -/
def fitsS (w : Nat) (i : Int) : Bool := decide (-(256 ^ w : Int) ≤ 2 * i ∧ 2 * i < (256 ^ w : Int))

/-- Coordinates of a request are four bytes wide (R191). -/
def Pos.wf (p : Pos) : Bool := fitsS 4 p.x && fitsS 4 p.y && fitsS 4 p.z

def Loc.wf (l : Loc) : Bool := l.pos.wf && fitsU 1 l.area

def Footprint.wf (f : Footprint) : Bool := fitsU 2 f.length && fitsU 2 f.breadth

def PlanLotArgs.wf (a : PlanLotArgs) : Bool :=
  fitsU 2 a.lot && fitsU 4 a.mass && a.target.wf && a.footprint.all Footprint.wf

def PlaceLotArgs.wf (a : PlaceLotArgs) : Bool :=
  fitsU 2 a.lot && a.mass.all (fitsU 4) && a.position.wf && a.footprint.all Footprint.wf

def Target.wf (t : Target) : Bool := fitsU 4 t.contents && fitsU 2 t.density

def TandemArgs.wf (t : TandemArgs) : Bool := fitsU 1 t.other && fitsU 4 t.share

def RequestLiftArgs.wf (a : RequestLiftArgs) : Bool :=
  fitsU 2 a.lot && fitsU 1 a.dir && a.worst.wf && a.landing.all Loc.wf && a.tandem.all TandemArgs.wf

def LandingArgs.wf (a : LandingArgs) : Bool := a.location.all Loc.wf

/-- The request fits its payload (R188, R191). -/
def Request.wf : Request → Bool
  | .enterConfiguration => true
  | .writeShipData b i e => fitsU 1 b && fitsU 1 i && decide (e.length + 2 ≤ Config.maxPayload)
  | .readShipData b i => fitsU 1 b && fitsU 1 i
  | .commitShipData => true
  | .writeSetting i v => fitsU 1 i && fitsU 4 v
  | .readSetting i => fitsU 1 i
  | .storeSettings => true
  | .controlLine l m v => fitsU 1 l && fitsU 1 m && fitsU 1 v
  | .clearLineStatus n => fitsU 1 n
  | .restart => true
  | .planLot a => a.wf
  | .unplanLot n => fitsU 2 n
  | .placeLot a => a.wf
  | .removeLot n => fitsU 2 n
  | .markDischarge n => fitsU 2 n
  | .unmarkDischarge n => fitsU 2 n
  | .acceptWeight n => fitsU 2 n
  | .readLot n => fitsU 2 n
  | .querySlot n => fitsU 2 n
  | .insertInSequence n d p => fitsU 2 n && fitsU 1 d && fitsU 2 p
  | .removeFromSequence n => fitsU 2 n
  | .readSequence p => fitsU 1 p
  | .setTankManual t c d => fitsU 1 t && fitsU 4 c && fitsU 2 d
  | .setTankTarget t g => fitsU 1 t && g.all Target.wf
  | .openFrame => true
  | .addMoves p => decide (29 ≤ p.length ∧ p.length ≤ Config.maxPayload)
  | .dropFrame => true
  | .foldFrame => true
  | .readResults c p n k => fitsU 1 c && fitsU 1 p && fitsU 1 n && fitsU 1 k
  | .readViolations c p => fitsU 1 c && fitsU 1 p
  | .readRecords => true
  | .acknowledgeRecords => true
  | .suspendWork => true
  | .resumeWork => true
  | .openSnapshot => true
  | .readSnapshotPage p => fitsU 1 p
  | .closeSnapshot => true
  | .writeImagePage p d => fitsU 1 p && decide (d.length = Config.pageBytes)
  | .applyImage => true
  | .requestLift a => a.wf
  | .cancelLift => true
  | .hookReport n t => fitsU 4 n && t.wf
  | .landingReport a => a.wf
  | .readLiftStatus => true
  | .tankReport p => decide (8 ≤ p.length ∧ p.length ≤ Config.maxPayload)
  | .requestTransfer s d m => fitsU 1 s && fitsU 1 d && fitsU 4 m
  | .endTransfer t => fitsU 1 t
  | .cancelTransfer t => fitsU 1 t
  | .readTransfers p => fitsU 1 p
  | .setNoticeMask e m => fitsU 2 e && fitsU 1 m
  | .readNotices => true

/-- The station request of a command, with the link and the tag of its frame; an event has none. -/
def Instr.request : Instr → Option (Link × Byte × Request)
  | .enterConfiguration l t => some (l, t, .enterConfiguration)
  | .writeShipData l t b i e => some (l, t, .writeShipData b i e)
  | .readShipData l t b i => some (l, t, .readShipData b i)
  | .commitShipData l t => some (l, t, .commitShipData)
  | .writeSetting l t i v => some (l, t, .writeSetting i v)
  | .readSetting l t i => some (l, t, .readSetting i)
  | .storeSettings l t => some (l, t, .storeSettings)
  | .controlLine l t a m v => some (l, t, .controlLine a m v)
  | .clearLineStatus l t n => some (l, t, .clearLineStatus n)
  | .restart l t => some (l, t, .restart)
  | .planLot l t a => some (l, t, .planLot a)
  | .unplanLot l t n => some (l, t, .unplanLot n)
  | .placeLot l t a => some (l, t, .placeLot a)
  | .removeLot l t n => some (l, t, .removeLot n)
  | .markDischarge l t n => some (l, t, .markDischarge n)
  | .unmarkDischarge l t n => some (l, t, .unmarkDischarge n)
  | .acceptWeight l t n => some (l, t, .acceptWeight n)
  | .readLot l t n => some (l, t, .readLot n)
  | .querySlot l t n => some (l, t, .querySlot n)
  | .insertInSequence l t n d p => some (l, t, .insertInSequence n d p)
  | .removeFromSequence l t n => some (l, t, .removeFromSequence n)
  | .readSequence l t p => some (l, t, .readSequence p)
  | .setTankManual l t k c d => some (l, t, .setTankManual k c d)
  | .setTankTarget l t k g => some (l, t, .setTankTarget k g)
  | .openFrame l t => some (l, t, .openFrame)
  | .addMoves l t p => some (l, t, .addMoves p)
  | .dropFrame l t => some (l, t, .dropFrame)
  | .foldFrame l t => some (l, t, .foldFrame)
  | .readResults l t c p n k => some (l, t, .readResults c p n k)
  | .readViolations l t c p => some (l, t, .readViolations c p)
  | .readRecords l t => some (l, t, .readRecords)
  | .acknowledgeRecords l t => some (l, t, .acknowledgeRecords)
  | .suspendWork l t => some (l, t, .suspendWork)
  | .resumeWork l t => some (l, t, .resumeWork)
  | .openSnapshot l t => some (l, t, .openSnapshot)
  | .readSnapshotPage l t p => some (l, t, .readSnapshotPage p)
  | .closeSnapshot l t => some (l, t, .closeSnapshot)
  | .writeImagePage l t p d => some (l, t, .writeImagePage p d)
  | .applyImage l t => some (l, t, .applyImage)
  | .readLiftStatus l t => some (l, t, .readLiftStatus)
  | .readTransfers l t p => some (l, t, .readTransfers p)
  | .setNoticeMask l t e m => some (l, t, .setNoticeMask e m)
  | .readNotices l t => some (l, t, .readNotices)
  | .requestLift l t a => some (l, t, .requestLift a)
  | .cancelLift l t => some (l, t, .cancelLift)
  | .hookReport l t n p => some (l, t, .hookReport n p)
  | .landingReport l t a => some (l, t, .landingReport a)
  | .tankReport l t p => some (l, t, .tankReport p)
  | .requestTransfer l t a b m => some (l, t, .requestTransfer a b m)
  | .endTransfer l t n => some (l, t, .endTransfer n)
  | .cancelTransfer l t n => some (l, t, .cancelTransfer n)
  | .powerOn => none
  | .restartLine => none
  | .endOfInitializing => none
  | .timebaseAdvance => none
  | .commitCompletion => none
  | .storeSettingsCompletion => none
  | .openSnapshotCompletion => none
  | .pairingTimeout _ => none
  | .requestTimeout _ => none
  | .clearanceLapse => none
  | .craneBecomesStale _ => none
  | .tankBecomesStale _ => none
  | .transferRequestTimeout _ => none
  | .publication => none
  | .hookPassComplete => none
  | .predictionCompletion => none
  | .frameReceived _ _ => none
  | .characterGapTimeout _ => none
  | .lineBreak _ => none
  | .takeFrame _ => none
  | .frameDeparture _ => none
  | .powerLoss => none
  | .receiveLineReturnToIdle _ => none
  | .restartInputReturnToRest => none

/-- A command is well formed when its request fits its payload; the events carry nothing to check but the numbers of
tanks (R1: 0 to 47) and of transfers (R161: 1 to 255). -/
def Instr.wf (i : Instr) : Bool :=
  match i with
  | .tankBecomesStale t => decide (t ≤ 47)
  | .transferRequestTimeout n => decide (1 ≤ n ∧ n ≤ 255)
  | i =>
    match i.request with
    | some (_, _, r) => r.wf
    | none => true

end Sys2Proof
end

