-- ==== Sys2Proof/Safety.lean ====
section
/-! DEFINITION. What counts as a safe state, and the vocabulary of the statements: when a link takes a request at once,
how its answer is read in the next state, and what the close of a step may touch. -/

namespace Sys2Proof.Machine

/-! ### What stands between steps -/

def OutPlace.isCurrent : OutPlace → Bool
  | .reserved .current _ _ => true
  | _ => false

/-- No place is reserved for a command that is being served: a command is served within one step (R178). -/
def noneServed (s : State) : Bool :=
  allLinks.all (fun l => (s.links.get l).outbound.all (fun p => !p.isCurrent))

/-- R174: the queues of a link keep within their places, its counts within their ends, and at most one frame is in
transmission. -/
def LinkUnit.bounded (u : LinkUnit) : Bool :=
  decide (u.inbound.length ≤ Config.linkPlaces) && decide (u.outbound.length ≤ Config.linkPlaces)
    && decide (u.dropCount ≤ Config.countCap) && decide (u.errorCount ≤ Config.countCap)
    && decide (u.outbound.countP OutPlace.isSending ≤ 1)

def linksBounded (s : State) : Bool := allLinks.all (fun l => (s.links.get l).bounded)

/-- R84: at most four frames hold at most 64 moves. -/
def stackBounded (s : State) : Bool :=
  decide (s.frames.length ≤ Config.maxFrames) && decide (poolInUse s.frames ≤ Config.poolEntries)

/-- R19, R20: the lot table holds at most one lot to a slot, in slots 0 to 511, and no id twice. -/
def lotsSound (t : Table Lot) : Bool :=
  tableWf t && t.all (fun p => decide (p.1 < Config.lotSlots)) && decide ((t.map (fun p => p.2.id)).Nodup)

/-- R161, R171: at most four transfers, under ids 1 to 255, a next id in 1 to 255, and an ending log of at most four. -/
def ballastSound (b : Ballast) : Bool :=
  tableWf b.transfers && decide (b.transfers.length ≤ Config.maxTransfers)
    && b.transfers.all (fun p => inRangeN 1 255 p.1) && inRangeN 1 255 b.nextId
    && decide (b.log.length ≤ Config.maxTransfers)

/-- R2, R12 to R14: the working settings and the working ship data lie in their ranges, and so does a stored ship data
set whose marker is set; in SERVICE the draft and displacement maxima lie within those of the PARTICULARS in force. -/
def storesSound (s : State) : Bool :=
  settingsInRange s.settings && fieldsInRange s.ship && (!s.nvm.ship.marker || fieldsInRange s.nvm.ship.contents)
    && (!decide (s.mode = .service) || decide (clampMaxima s.ship.particulars s.settings = s.settings))

/-- R70, R71: what a context's dirty flag says.  Outside SERVICE no pass and no prediction is in flight; in SERVICE a
context that is not dirty is CURRENT: its pass in flight captured the present generation, and with no pass of it in
flight its published set was formed at that generation.  TRIAL over an empty stack holds no set (R81). -/
def currencySound (s : State) : Prop :=
  (s.mode ≠ .service → s.eval.unit = .idle)
  ∧ (s.mode = .service → ∀ x, (s.ctx x).dirty = false →
      (∀ p, s.eval.unit = .pass p → p.ctx = x → p.gen = (s.ctx x).gen)
      ∧ ((∃ p, s.eval.unit = .pass p ∧ p.ctx = x)
        ∨ (s.ctx x).set.map ResultSet.gen = some (s.ctx x).gen
        ∨ (x = .trial ∧ s.frames = [])))

/-- R76: in SERVICE the unit is not IDLE while a candidate is eligible. -/
def arbiterBusy (s : State) : Bool :=
  !(decide (s.mode = .service) && decide (s.eval.unit = .idle))
    || !(s.eval.actual.dirty || (firstDemand s).isSome || s.eval.plan.dirty || trialEligible s)

/-- R126, R129: every line of a powered engine stands as the rules give it. -/
def linesDriven (s : State) : Prop :=
  s.powered = true →
    s.monitor.caution.asserted = cautionTarget s ∧ s.monitor.stop.asserted = stopTarget s
      ∧ ∀ c, s.gate.inhibit.get c = inhibitTarget s c

/-! ### A request that a link takes at once -/

/-- The engine can take the request `r` on link `l` in this step and admits it: it is powered and past INITIALIZING,
no break holds the link's receive line low (R186), the link's outbound queue has a free place and no frame waits before
it (R178), and the link's role and the mode permit the request (R179). -/
structure Ready (s : State) (l : Link) (r : Request) : Prop where
  powered : s.powered = true
  mode : s.mode ≠ .initializing
  lineUp : (s.links.get l).lineLow = false
  place : (s.links.get l).outbound.length < Config.linkPlaces
  first : (s.links.get l).inbound = []
  none : noneServed s = true
  role : roleOk l r = true
  admitted : modeOk s.mode l r = true

/-- The link of a state with a reply at the tail of its outbound queue, the next transmission begun if none was under
way, and nothing else changed. -/
def answered (l : Link) (r : Request) (tag : Byte) (rep : Reply) (s : State) : State :=
  s.onLink l (fun u =>
    ({ u with outbound := u.outbound ++ [OutPlace.reply (replyFrame rep r.kind tag)] }).startTx s.mode)

/-- A frame stands in the outbound queue of a link, waiting or in transmission. -/
def State.sends (t : State) (l : Link) (f : Frame) : Prop :=
  OutPlace.reply f ∈ (t.links.get l).outbound ∨ OutPlace.sending f ∈ (t.links.get l).outbound

/-! ### What the close of a step may touch -/

def LinkUnit.standing (u : LinkUnit) : LinkUnit := { u with outbound := [], owed := false }

def CtxState.standing (c : CtxState) : CtxState := { c with dirty := false }

/-- A state without what the close of a step may change: the outbound queues, the arbiter's own fields (the unit, the
alternation count, the WAITING demands, the dirty flags) and the lines.  Two states that stand alike agree in every
other field. -/
def State.standing (s : State) : State :=
  { s with
    links := ⟨s.links.l0.standing, s.links.l1.standing, s.links.l2.standing, s.links.l3.standing⟩
    eval :=
      { actual := s.eval.actual.standing, plan := s.eval.plan.standing, trial := s.eval.trial.standing
        unit := .idle, alt := 0, waiting := [] }
    monitor := { s.monitor with caution := ⟨false, false⟩, stop := ⟨false, false⟩ }
    gate := { s.gate with inhibit := ⟨false, false⟩ } }

/-- The command answers a next state that stands as `s'` does. -/
def Becomes (i : Instr) (s s' : State) : Prop := ∃ t, exec i s = .next t ∧ t.standing = s'.standing

/-- The command answers a next state that stands as `s'` does, and its reply is queued on the link. -/
def Completes (i : Instr) (l : Link) (s s' : State) (f : Frame) : Prop :=
  ∃ t, exec i s = .next t ∧ t.standing = s'.standing ∧ t.sends l f

/-- The frame of a statement about the lift gate: what no lift, no suspension and no transfer touches (the mode stands
apart: a change of mode ends lifts too). -/
structure Untouched (s t : State) : Prop where
  powered : t.powered = s.powered
  armed : t.restartArmed = s.restartArmed
  time : t.time = s.time
  nvm : t.nvm = s.nvm
  ship : t.ship = s.ship
  settings : t.settings = s.settings
  origin : t.origin = s.origin
  stores : t.committing = s.committing ∧ t.storing = s.storing
  snapshots : t.snapshot = s.snapshot ∧ t.snapshotOp = s.snapshotOp
  image : t.image = s.image
  frames : t.frames = s.frames
  count : t.freeCount = s.freeCount
  pending : t.pending = s.pending

/-! ### What the larger commands leave behind -/

/-- The command is answered with a reply, and nothing else happens. -/
def Answers (i : Instr) (l : Link) (r : Request) (tag : Byte) (rep : Reply) (s : State) : Prop :=
  exec i s = .next (answered l r tag rep s)

/-- The command is refused with a status alone, and nothing else happens. -/
def Refuses (i : Instr) (l : Link) (r : Request) (tag : Byte) (st : Status) (s : State) : Prop :=
  Answers i l r tag (Reply.bare st) s

/-- An operation in flight: the reply's place is kept on the link. -/
def Begins (i : Instr) (l : Link) (r : Request) (tag : Byte) (a : Awaits) (s s' : State) : Prop :=
  ∃ t, exec i s = .next t ∧ t.standing = s'.standing
    ∧ OutPlace.reserved a r.kind tag ∈ (t.links.get l).outbound

/-- The first place kept on L0 for an operation in flight has the kind `k` and the tag `tag`. -/
def KeptPlace (a : Awaits) (k tag : Byte) (s : State) : Prop :=
  ∃ p q, s.links.l0.outbound = p ++ OutPlace.reserved a k tag :: q ∧ ∀ x ∈ p, ∀ k t, x ≠ .reserved a k t

/-- R81, R83: the command empties the trial stack: TRIAL is dirty and holds no set, a TRIAL pass in flight is abandoned,
and any other pass or prediction in flight goes on. -/
def EmptiesTrial (i : Instr) (s : State) : Prop :=
  ∃ t, exec i s = .next t ∧ t.frames = [] ∧ t.eval.trial.dirty = true ∧ t.eval.trial.set = none
    ∧ (∀ q, t.eval.unit = .pass q → q.ctx ≠ .trial)
    ∧ (s.eval.unit ≠ .idle → (∀ p, s.eval.unit = .pass p → p.ctx ≠ .trial) → t.eval.unit = s.eval.unit)

/-- R10: what `t`, in SERVICE with the ship data `ship`, holds when it was entered from `s`. -/
structure EnteredService (s t : State) (ship : ShipData) (w : Settings) : Prop where
  mode : t.mode = .service
  data : t.ship = ship
  settings : t.settings = clampMaxima ship.particulars w
  cond : t.cond = { lots := [], seq := [], tanks := [], hooks := parkedHooks ship }
  buffers : t.snapshot = none ∧ t.snapshotOp = none ∧ t.image = [] ∧ t.frames = []
  sets : ∀ x, (t.ctx x).set = none ∧ (t.ctx x).sticky = Sticky.clear
  gens : t.eval.actual.gen = s.eval.actual.gen + 1 ∧ t.eval.plan.gen = s.eval.plan.gen + 1
    ∧ t.eval.trial.gen = s.eval.trial.gen
  lists : ∀ x, listOf t x = ViolationList.emptied
  suspension : t.monitor.suspension = none
  records : t.monitor.first = s.monitor.first ∧ t.monitor.next = s.monitor.next
    ∧ t.monitor.stopCount = s.monitor.stopCount
  cranes : ∀ c, t.liftRec c = { LiftRecord.reset with lastOutcome := (s.liftRec c).lastOutcome }
  gate : t.gate.queue = [] ∧ t.gate.slot = none ∧ t.gate.window = false ∧ t.gate.stale = ⟨false, false⟩
  transfers : t.ballast = { transfers := [], nextId := 1, log := s.ballast.log }
  notices : ∀ l, (t.links.get l).notices = (s.links.get l).notices ||| Event.mode.flag
  time : t.time = s.time

/-- R11: what RESTART leaves of `s`. -/
structure Restarted (s t : State) : Prop where
  mode : t.mode = .initializing
  time : t.time = 0
  cond : t.cond = { lots := [], seq := [], tanks := [], hooks := parkedHooks s.ship }
  buffers : t.snapshot = none ∧ t.snapshotOp = none ∧ t.image = [] ∧ t.frames = []
  stores : t.committing = false ∧ t.storing = false
  eval : t.eval = State.reset.eval
  monitor : t.monitor =
    { State.reset.monitor with
      first := s.monitor.first, next := s.monitor.next, stopCount := s.monitor.stopCount }
  gate : t.gate = State.reset.gate
  ballast : t.ballast = State.reset.ballast
  kept : t.ship = s.ship ∧ t.settings = s.settings ∧ t.origin = s.origin
  markers : t.nvm.ship.marker = (s.nvm.ship.marker && !s.committing)
    ∧ (s.committing = false → t.nvm.ship = s.nvm.ship)
  settingsMarker : (s.storing = false ∨ s.committing = true → t.nvm.settings = s.nvm.settings)
    ∧ (s.storing = true → s.committing = false → t.nvm.settings.marker = false)
  links : ∀ l, t.links.get l =
    { LinkUnit.reset l with
      lineLow := (s.links.get l).lineLow, notices := Event.mode.flag
      outbound := [.sending { kind := 0xFF#8, tag := 0#8, payload := [0#8, 1#8, 0#8] }] }

/-- A lift record without its pending reason, which a decision round may write. -/
def LiftRecord.silent (r : LiftRecord) : LiftRecord := { r with reason := none }

/-- R136, R144, R146, R147: what the end `kind` of the lift `r` before its load is on the hook leaves of `s`. -/
structure Released (r : LiftRef) (kind : EndKind) (s t : State) : Prop where
  cranes : ∀ c ∈ r.cranes,
    (t.liftRec c).state = .idle ∧ (t.liftRec c).role = none ∧ (t.liftRec c).lot = none ∧ (t.liftRec c).timer = none
      ∧ (t.liftRec c).deviation = false
      ∧ (t.liftRec c).lastOutcome = some
          { kind := kind, lot := codeOr LotRef.id (s.liftRec c).lot
            reason := if kind = .timeout then (s.liftRec c).reason else none }
  removed : ∀ c ∈ r.cranes,
    (t.liftRec c).dir = none ∧ (t.liftRec c).worst = none ∧ (t.liftRec c).plan = none ∧ (t.liftRec c).other = none
      ∧ (t.liftRec c).share = none ∧ (t.liftRec c).confirmed = none ∧ (t.liftRec c).landing = none
      ∧ (t.liftRec c).setDownTip = none ∧ t.gate.stale.get c = false
  stood : ∀ c ∈ r.cranes,
    (t.liftRec c).counter = (s.liftRec c).counter ∧ (t.liftRec c).offConfirmed = (s.liftRec c).offConfirmed
      ∧ (t.liftRec c).lastReport = (s.liftRec c).lastReport
  others : ∀ c, c ∉ r.cranes → (t.liftRec c).silent = (s.liftRec c).silent
  lot : ∀ n k, (s.liftRec r.lead).lot = some n → tget s.cond.lots n.slot = some k →
    t.cond = { s.cond with lots := tput s.cond.lots n.slot k.returned }
  gate : t.gate.queue = s.gate.queue.filter (fun e => decide (e ≠ .lift r))
    ∧ t.gate.slot = (if s.gate.slot = some r then none else s.gate.slot) ∧ t.gate.window = s.gate.window
  gens : t.eval.actual.gen = s.eval.actual.gen + 1 ∧ t.eval.plan.gen = s.eval.plan.gen + 1
  notices : ∀ l, (t.links.get l).notices = (s.links.get l).notices
    ||| (if l = .l0 ∨ l ∈ r.cranes.map CraneId.link then Event.lift.flag else 0#16)
  mode : t.mode = s.mode
  frame : Untouched s t

/-- R151, R153, R155: what the completion of the lift `r` of the lot `k`, which landed at `place`, leaves of `s`. -/
structure Landed (r : LiftRef) (dir : Direction) (place : Landing) (lr : LotRef) (k : Lot) (s t : State) : Prop where
  cranes : ∀ c ∈ r.cranes,
    (t.liftRec c).state = .idle ∧ (t.liftRec c).role = none ∧ (t.liftRec c).lot = none ∧ (t.liftRec c).timer = none
      ∧ (t.liftRec c).deviation = false ∧ (t.liftRec c).landing = none ∧ (t.liftRec c).setDownTip = none
      ∧ (t.liftRec c).lastOutcome = some
          { kind := .completed, lot := codeOr LotRef.id (s.liftRec c).lot, reason := none }
  others : ∀ c, c ∉ r.cranes → (t.liftRec c).silent = (s.liftRec c).silent
  loaded : dir = .load → ∀ loc, place = .aboard loc →
    t.cond.lots = tput s.cond.lots lr.slot { k with state := .aboard, loc := loc, modified := true }
    ∧ t.cond.seq = s.cond.seq.filter (fun e => decide (¬ (e.lot = lr.id ∧ e.dir = .load)))
  left : dir = .load → place = .ashore →
    t.cond.lots = tput s.cond.lots lr.slot { k with state := .planned, modified := true } ∧ t.cond.seq = s.cond.seq
  unloaded : dir = .discharge → place = .ashore →
    t.cond.lots = tdrop s.cond.lots lr.slot
    ∧ t.cond.seq = s.cond.seq.filter (fun e => decide (¬ (e.lot = lr.id ∧ e.dir = .discharge)))
  kept : dir = .discharge → ∀ loc, place = .aboard loc →
    t.cond.lots = tput s.cond.lots lr.slot { k with state := .aboard, loc := loc, modified := true }
    ∧ t.cond.seq = s.cond.seq
  slot : t.gate.slot = (if s.gate.slot = some r then none else s.gate.slot) ∧ t.gate.queue = s.gate.queue
  gens : t.eval.actual.gen = s.eval.actual.gen + 1 ∧ t.eval.plan.gen = s.eval.plan.gen + 1
  notices : ∀ l, (t.links.get l).notices = (s.links.get l).notices
    ||| (if l = .l0 ∨ l ∈ r.cranes.map CraneId.link then Event.lift.flag else 0#16)
  tanks : t.cond.tanks = s.cond.tanks
  mode : t.mode = s.mode
  frame : Untouched s t

/-- R132, R138, R122: the gate's records, its queue and the exclusive slot agree.  At most one lift is past REQUESTED and
it holds the slot, its cranes in one state; the REQUESTED cranes are those of the queue's lift entries, no entry twice;
and under suspension no crane is CLEARED. -/
structure GateSound (s : State) : Prop where
  holder : ∀ r, s.gate.slot = some r → ∀ c ∈ r.cranes,
    liftOf s c = r ∧ (s.liftRec c).state = (s.liftRec r.lead).state ∧ (s.liftRec c).state.pastRequested = true
  others : ∀ c, (s.liftRec c).state.pastRequested = true → s.gate.slot = some (liftOf s c)
  entries : ∀ r, GateEntry.lift r ∈ s.gate.queue → ∀ c ∈ r.cranes,
    liftOf s c = r ∧ (s.liftRec c).state = .requested
  queued : ∀ c, (s.liftRec c).state = .requested → GateEntry.lift (liftOf s c) ∈ s.gate.queue ∧ c ∈ (liftOf s c).cranes
  once : ∀ r, s.gate.queue.count (.lift r) ≤ 1
  pairing : ∀ c, (s.liftRec c).state = .pairing → (s.liftRec c).role = some .lead
  suspended : s.suspended = true → ∀ c, (s.liftRec c).state ≠ .cleared

end Sys2Proof.Machine
end

