-- ==== Sys2Proof/Certificates/Slice0/Obligations.lean ====
section
/-! DEFINITION. The statements, each from the numbered rules it names.  `Ready`, `Completes`, `Becomes`, `Answers`,
`Refuses`, `Begins` and `State.standing` are the vocabulary of Safety. -/

open Sys2Proof Sys2Proof.Machine

/-! ### The step and the whole machine -/

/-- A step runs the command at the front of the queue on the state with the queue's rest, and an empty queue leaves
the state as it is (log 1). -/
def Obligations.StepRunsFrontCommand : Prop :=
  (∀ (c : Instr) (rest : List Instr) (s : State), s.pending = c :: rest → step s = exec c { s with pending := rest })
    ∧ ∀ s : State, s.pending = [] → step s = .next s

/-- R11, R6 (log 4): power-on has the effects of RESTART and empties FIRST, NEXT and the STOP count; the stored sets
stand, and a store that was in flight leaves its marker clear. R6, R194 (log 4): power loss interrupts a store in
flight, whose marker stays clear, deasserts the alarm lines and leaves the coils of the HOIST-INHIBIT lines at rest.
Without power no command acts but the return of power and the two returns to rest of the input lines (log 4). R18: the
timebase advances by one in every mode and wraps at 2^32; it raises no event. -/
def Obligations.PowerAndTimebase : Prop :=
  (∀ s : State, ∃ t, exec .powerOn s = .next t
    ∧ t = { State.reset with nvm := t.nvm, freeCount := t.freeCount, pending := s.pending }
    ∧ (s.committing = false → s.storing = false → t.nvm = s.nvm ∧ t.freeCount = s.freeCount)
    ∧ (s.committing = true → t.nvm.ship.marker = false ∧ t.nvm.settings = s.nvm.settings)
    ∧ (s.committing = false → s.storing = true → t.nvm.settings.marker = false ∧ t.nvm.ship = s.nvm.ship))
  ∧ (∀ s : State, s.powered = true → ∃ t, exec .powerLoss s = .next t
    ∧ t.powered = false ∧ t.monitor.caution.asserted = false ∧ t.monitor.stop.asserted = false
    ∧ t.gate.inhibit = ⟨true, true⟩ ∧ t.committing = false
    ∧ (s.committing = false → s.storing = false → t.nvm = s.nvm)
    ∧ (s.committing = true → t.nvm.ship.marker = false)
    ∧ (s.committing = false → s.storing = true → t.nvm.settings.marker = false ∧ t.storing = false))
  ∧ (∀ (i : Instr) (s : State), s.powered = false → i ≠ .powerOn → i ≠ .restartInputReturnToRest →
    (∀ l, i ≠ .receiveLineReturnToIdle l) → exec i s = .next s)
  ∧ (∀ s : State, s.powered = true →
    exec .timebaseAdvance s = .next { s with time := s.time + 1 }
    ∧ (s.time = 4294967295#32 → exec .timebaseAdvance s = .next { s with time := 0#32 }))

/-- What the spec fixes of the state after power-on: INITIALIZING, the count 0, no set published, no lot, no transfer,
an empty stack, every crane IDLE, the window CLOSED, the alarm lines deasserted with clear statuses, empty records,
the default masks in LEVEL mode. The invariants of this file hold after reset. -/
def Obligations.ResetState : Prop :=
  (let s := State.reset
  s.mode = .initializing ∧ s.time = 0 ∧ (∀ x, (s.ctx x).gen = 0 ∧ (s.ctx x).dirty = false ∧ (s.ctx x).set = none)
    ∧ s.eval.unit = .idle ∧ s.eval.alt = 0 ∧ s.cond.lots = [] ∧ s.cond.seq = [] ∧ s.frames = [] ∧ s.image = []
    ∧ s.snapshot = none ∧ (∀ c, s.liftRec c = LiftRecord.reset) ∧ s.gate.queue = [] ∧ s.gate.slot = none
    ∧ s.gate.window = false ∧ s.ballast.transfers = [] ∧ s.ballast.nextId = 1 ∧ s.ballast.log = []
    ∧ s.monitor.suspension = none ∧ s.monitor.caution = ⟨false, false⟩ ∧ s.monitor.stop = ⟨false, false⟩
    ∧ s.monitor.first = none ∧ s.monitor.next = none ∧ s.monitor.stopCount = 0
    ∧ (∀ l, (s.links.get l).inbound = [] ∧ (s.links.get l).outbound = [] ∧ (s.links.get l).notices = 0#16
        ∧ (s.links.get l).mask = defaultMask l ∧ (s.links.get l).level = true))
  ∧ (noneServed State.reset = true ∧ linksBounded State.reset = true ∧ stackBounded State.reset = true
    ∧ lotsSound State.reset.cond.lots = true ∧ ballastSound State.reset.ballast = true
    ∧ arbiterBusy State.reset = true ∧ linesDriven State.reset ∧ storesSound State.reset = true
    ∧ GateSound State.reset ∧ currencySound State.reset)

/-! ### Invariants that every step keeps -/

/-- R174: the queues of every link keep within sixteen places and its counts within 65,535, with at most one frame in
transmission. R178: no step leaves a place reserved for a command that it has finished serving. -/
def Obligations.LinksStayBounded : Prop :=
  (∀ s t : State, linksBounded s = true → step s = .next t → linksBounded t = true)
  ∧ (∀ s t : State, noneServed s = true → step s = .next t → noneServed t = true)

/-- R84: the trial stack never holds more than four frames or more than 64 moves. R20: no two slots hold the same lot
id, and the table holds at most 512 lots, in slots 0 to 511. R161, R171: the transfer table keeps at most four
transfers under ids 1 to 255 and the log at most four records. -/
def Obligations.TablesStaySound : Prop :=
  (∀ s t : State, stackBounded s = true → step s = .next t → stackBounded t = true)
  ∧ (∀ s t : State, lotsSound s.cond.lots = true → step s = .next t → lotsSound t.cond.lots = true)
  ∧ (∀ s t : State, ballastSound s.ballast = true → step s = .next t → ballastSound t.ballast = true)

/-- R2, R12, R13, R14: every working setting and every field of the working ship data keeps its range; in SERVICE the
draft and displacement maxima of both limit sets stay within the maxima of the PARTICULARS in force. -/
def Obligations.StoresStaySound : Prop :=
  ∀ s t : State, storesSound s = true → step s = .next t → storesSound t = true

/-- R76: in SERVICE the evaluation unit is never left IDLE while a candidate is eligible. R70, R71: no step leaves a
context that is not dirty behind its inputs: its pass in flight, or with none in flight its published set, is of the
present generation. R122: under suspension no lift prediction begins (log 18). R72, R76 to R79: a pass or prediction that begins is one captured
from the state then, in SERVICE, a pass with its context's dirty flag cleared. ACTUAL is chosen when its alternation
count is below 2 or nothing else is a candidate, and raises the count to at most 2; else the first waiting demand in the
order of the re-check and then the gate queue, else PLAN, else TRIAL over a stack with frames, each with the count then
0. -/
def Obligations.UnitIsNeverIdleInVain : Prop :=
  (∀ s t : State, arbiterBusy s = true → step s = .next t → arbiterBusy t = true)
  ∧ (∀ s t : State, currencySound s → step s = .next t → currencySound t)
  ∧ (∀ (s t : State) (c : CraneId), step s = .next t → t.suspended = true →
      t.eval.unit.predictsFor (.lift c) = true → s.eval.unit.predictsFor (.lift c) = true)
  ∧ (∀ (i : Instr) (s t : State), exec i s = .next t → t.eval.unit ≠ s.eval.unit →
    let order := DemandKey.recheck :: t.gate.queue.map GateEntry.key
    let noneWaits := fun ks : List DemandKey =>
      ∀ k ∈ ks, k ∈ t.eval.waiting → (∃ c, k = .lift c) ∧ t.suspended = true
    (∀ p, t.eval.unit = .pass p →
      t.mode = .service ∧ p = capturePass t p.ctx ∧ (t.ctx p.ctx).dirty = false
      ∧ (p.ctx = .actual →
        t.eval.alt = min (s.eval.alt + 1) 2
        ∧ (s.eval.alt < 2
          ∨ (noneWaits order ∧ t.eval.plan.dirty = false ∧ (t.eval.trial.dirty = true → t.frames = []))))
      ∧ (p.ctx ≠ .actual →
        t.eval.alt = 0 ∧ noneWaits order ∧ (t.eval.actual.dirty = true → 2 ≤ s.eval.alt))
      ∧ (p.ctx = .trial → t.eval.plan.dirty = false ∧ t.frames ≠ []))
    ∧ (∀ q, t.eval.unit = .predicting q → q.phase ≠ .landed →
      t.mode = .service ∧ q = capturePrediction t q.key ∧ q.key ∉ t.eval.waiting
      ∧ t.eval.alt = 0 ∧ (t.eval.actual.dirty = true → 2 ≤ s.eval.alt)
      ∧ ∃ before after, order = before ++ q.key :: after ∧ noneWaits before
        ∧ ∀ c, q.key = .lift c → t.suspended = false))

/-- R126, R129: no step leaves an alarm line or a HOIST-INHIBIT line behind its rule. That an absent crane's line follows
the working present flag at once, in CONFIGURATION too, and that the lines rest through INITIALIZING, is the model's
(log 15). -/
def Obligations.LinesFollowTheirRules : Prop :=
  ∀ s t : State, linesDriven s → step s = .next t → linesDriven t

/-- R132, R138, R122: at most one lift is past REQUESTED and it holds the exclusive slot, the queue holds each
REQUESTED lift once, and while suspension is in force no crane is CLEARED. -/
def Obligations.LiftGateStaysSound : Prop :=
  ∀ s t : State, GateSound s → step s = .next t → GateSound t

/-! ### Encodings -/

/-- R187, R188, R190, R191: the payload of every well-formed request fits a station frame, and the form check reads
the request back from it. -/
def Obligations.RequestsDecodeAsEncoded : Prop :=
  ∀ r : Request, r.wf = true →
    Request.decode r.kind r.encode = some r ∧ r.encode.length ≤ Config.maxPayload

/-- R2, R3, R191: the values that Read Ship Data returns for an entry in range are taken back by Write Ship Data as
that entry. R41, R45: the record that a snapshot holds of a lot that is not LIFTING, within its ranges, is read back
by Apply Image as that lot, with MODIFIED set. -/
def Obligations.RecordsReadAsWritten : Prop :=
  (∀ (d : ShipData) (block index : Nat) (x : ShipEntry),
    indexOk block index = true → entryOk x = true → getEntry d block index = some x →
    entryForm block x.bytes = true ∧ x.bytes ≠ [] ∧ entryOf block x.bytes = some x)
  ∧ (∀ (ship : ShipData) (k : Lot),
    k.state.isLifting = false → lotIdOk k.id = true → declaredOk k.declared = true →
    k.measured.all measuredOk = true → k.footprint.all footOk = true → locOk ship k.loc = true → k.loc.area ≤ 15 →
    (k.mark = true → k.state = .aboard) → (k.discrepancy = true → k.measured.isSome = true) →
    (lotImage k).length = 28 ∧ imageLot ship (lotImage k) = some { k with modified := true })

/-- R173, R175, R177: a frame of at most 240 payload bytes whose characters arrive at a receiver in HUNT is received
whole: it joins the tail of the inbound queue, or, when the queue is full, it is dropped and counted and QUEUE_OVERRUN
is latched. -/
def Obligations.FramesAreReceivedWhole : Prop :=
  ∀ (s : State) (l : Link) (f : Frame),
    s.powered = true → f.payload.length ≤ Config.maxPayload → (s.links.get l).rx = .hunt →
    (s.links.get l).lineLow = false →
    ((s.links.get l).inbound.length < Config.linkPlaces →
      Becomes (.frameReceived l (f.wire.map (fun b => ⟨b, true⟩))) s
        (s.onLink l (fun u => { u with inbound := u.inbound ++ [f] })))
    ∧ (Config.linkPlaces ≤ (s.links.get l).inbound.length →
      Becomes (.frameReceived l (f.wire.map (fun b => ⟨b, true⟩))) s
        (s.onLink l (fun u =>
          { u with dropCount := bump u.dropCount, notices := u.notices ||| Event.queueOverrun.flag })))

/-- R178, R179 with the role table of 10.4, R186: a station command that a link takes at once does what TAKE_FRAME does with
the command's frame at the head of the inbound queue (log 2), and the frame leaves the queue. -/
def Obligations.TakenFrameRunsItsRequest : Prop :=
  ∀ (i : Instr) (s : State) (l : Link) (tag : Byte) (r : Request),
    i.request = some (l, tag, r) → r.wf = true → s.powered = true → canTake s l = true →
    (s.links.get l).lineLow = false → (s.links.get l).inbound = [] →
    exec (.takeFrame l) (s.onLink l (fun u => { u with inbound := [Request.frame tag r] })) = exec i s
      ∧ ∃ t, exec (.takeFrame l) (s.onLink l (fun u => { u with inbound := [Request.frame tag r] })) = .next t
        ∧ (t.links.get l).inbound = []

/-! ### Links: admission, reception, departures, notices -/

/-- R179: a frame whose kind names no request, or whose length the request does not permit, is answered BAD_FORM; a
command of another role BAD_ROLE; a command the mode does not take BAD_MODE; in that order, and nothing else changes.
R180: such a refusal carries its status alone; for a frame command, kinds 0x20 to 0x23, R84 has it carry the depth and
the pool in use, for Add Moves after a count of 0, and which of the two rules holds there is a free value, for either
value of which the statement says what the refusal carries (log 11). R178: while the mode is INITIALIZING or no place is
free the head frame stays, and an empty queue has no head. R177 (log 2): a station command that finds other
frames waiting, no free place or INITIALIZING joins the inbound queue as its frame, to be taken later; when the queue is
full it is dropped. R186: while a break holds the line low a station command is not received. -/
def Obligations.AdmissionRefusesOrWaits : Prop :=
  (∀ (s : State) (l : Link), s.powered = true → s.mode ≠ .initializing → noneServed s = true →
    (s.links.get l).outbound.length < Config.linkPlaces →
    let figures := encU 1 s.frames.length ++ encU 1 s.frames.flatten.length
    let values := fun k : Byte =>
      if Config.figuresAtAdmission = false then []
      else if k = 0x20#8 ∨ k = 0x22#8 ∨ k = 0x23#8 then figures
      else if k = 0x21#8 then encU 1 0 ++ figures
      else []
    (∀ f rest, (s.links.get l).inbound = f :: rest → Request.decode f.kind f.payload = none →
      exec (.takeFrame l) s = .next (s.onLink l (fun u =>
        ({ u with
            inbound := rest
            outbound := u.outbound ++ [OutPlace.reply (replyFrame ⟨.badForm, values f.kind⟩ f.kind f.tag)] }).startTx
          s.mode)))
    ∧ (∀ i tag r, i.request = some (l, tag, r) → (s.links.get l).lineLow = false → (s.links.get l).inbound = [] →
      (roleOk l r = false → Answers i l r tag ⟨.badRole, values r.kind⟩ s)
      ∧ (roleOk l r = true → modeOk s.mode l r = false → Answers i l r tag ⟨.badMode, values r.kind⟩ s)))
  ∧ (∀ (s : State) (l : Link),
    (s.mode = .initializing ∨ Config.linkPlaces ≤ (s.links.get l).outbound.length ∨ (s.links.get l).inbound = []) →
    exec (.takeFrame l) s = .next s)
  ∧ (∀ (i : Instr) (s : State) (l : Link) (tag : Byte) (r : Request),
    i.request = some (l, tag, r) → s.powered = true → (s.links.get l).lineLow = false →
    (canTake s l = false ∨ (s.links.get l).inbound ≠ []) →
    ((s.links.get l).inbound.length < Config.linkPlaces →
      Becomes i s (s.onLink l (fun u => { u with inbound := u.inbound ++ [Request.frame tag r] })))
    ∧ (Config.linkPlaces ≤ (s.links.get l).inbound.length →
      Becomes i s (s.onLink l (fun u =>
        { u with dropCount := bump u.dropCount, notices := u.notices ||| Event.queueOverrun.flag }))))
  ∧ (∀ (i : Instr) (s : State) (l : Link) (tag : Byte) (r : Request),
    i.request = some (l, tag, r) → (s.links.get l).lineLow = true → exec i s = .next s)

/-- R176: a frame in reception is discarded by a length above 240, by a low stop bit, by a check that does not match
and by a gap: the receiver returns to HUNT, the count rises, FRAME_ERROR is latched; in HUNT a low stop bit and a gap
do nothing. -/
def Obligations.BadFramesAreDiscarded : Prop :=
  ∀ (s : State) (l : Link), s.powered = true →
    let discarded := s.onLink l (fun u =>
      { u with rx := .hunt, errorCount := bump u.errorCount, notices := u.notices ||| Event.frameError.flag })
    ((s.links.get l).rx ≠ .hunt → Becomes (.characterGapTimeout l) s discarded)
    ∧ ((s.links.get l).rx = .hunt → Becomes (.characterGapTimeout l) s s)
    ∧ ((s.links.get l).lineLow = false →
      (∀ b, (s.links.get l).rx ≠ .hunt → Becomes (.frameReceived l [⟨b, false⟩]) s discarded)
      ∧ (∀ b, (s.links.get l).rx = .hunt → Becomes (.frameReceived l [⟨b, false⟩]) s s)
      ∧ (∀ b, (s.links.get l).rx = .header [] → Config.maxPayload < b.toNat →
        Becomes (.frameReceived l [⟨b, true⟩]) s discarded)
      ∧ (∀ k t p hi lo, (s.links.get l).rx = .check k t p (some hi) →
        beNat [hi, lo] ≠ (crc (Frame.checked ⟨k, t, p⟩)).toNat →
        Becomes (.frameReceived l [⟨lo, true⟩]) s discarded))

/-- R186, R174: a break resets its link once while the line is low: every field takes its link reset value, with
SUSPEND and STALE set where their conditions stand; nothing outside the link changes. -/
def Obligations.BreakResetsTheLink : Prop :=
  ∀ (s : State) (l : Link), s.powered = true →
    ((s.links.get l).lineLow = false →
      exec (.lineBreak l) s = .next (s.onLink l (fun _ =>
        { rx := .hunt, lineLow := true, inbound := [], outbound := [], dropCount := 0, errorCount := 0,
          notices := standingBits s l, mask := defaultMask l, level := true, owed := false })))
    ∧ ((s.links.get l).lineLow = true → exec (.lineBreak l) s = .next s)
    ∧ exec (.receiveLineReturnToIdle l) s = .next (s.onLink l (fun u => { u with lineLow := false }))

/-- R181, R183: the frame in transmission leaves, an owed notice takes the freed place at the tail, and the next frame
begins; a notice frame takes the notice set and the mode as they stand. With no frame in transmission nothing departs:
the first place that holds a frame begins to send, empty reserved places are passed over, and a queue of such places
alone, or an empty one, stays as it is. -/
def Obligations.DepartureFreesAPlace : Prop :=
  ∀ (s : State) (l : Link), s.powered = true →
    (∀ a f b, (s.links.get l).outbound = a ++ OutPlace.sending f :: b →
      (∀ p ∈ a ++ b, p.isSending = false) →
      exec (.frameDeparture l) s = .next (s.onLink l (fun u =>
        { u with
          outbound := beginSending
            { kind := 0xFF#8, tag := 0#8, payload := beBytes 2 u.notices.toNat ++ beBytes 1 s.mode.code }
            (a ++ b ++ if u.owed then [OutPlace.notice] else [])
          owed := false })))
    ∧ (∀ a b p f, (s.links.get l).outbound = a ++ p :: b → (∀ q ∈ a, ∃ w k t, q = .reserved w k t) →
      (∀ q ∈ b, q.isSending = false) →
      (p = .reply f ∨ (p = .notice ∧ f =
        { kind := 0xFF#8, tag := 0#8
          payload := beBytes 2 (s.links.get l).notices.toNat ++ beBytes 1 s.mode.code })) →
      exec (.frameDeparture l) s = .next (s.onLink l (fun u => { u with outbound := a ++ .sending f :: b })))
    ∧ ((∀ q ∈ (s.links.get l).outbound, ∃ w k t, q = .reserved w k t) → exec (.frameDeparture l) s = .next s)
    ∧ ((s.links.get l).outbound = [] → exec (.frameDeparture l) s = .next s)

/-- R182, R183: latching an event sets its bit and no other. Taking an unmasked bit from clear to set makes a notice
frame due: it merges with one that waits, takes a free place at the tail, or is owed; otherwise the queue is as it
was. -/
def Obligations.LatchingMakesANoticeDue : Prop :=
  ∀ (e : Event) (u : LinkUnit),
    (u.latch e).notices = u.notices ||| Event.flag e
    ∧ ((u.notices.getLsbD e.bit = true ∨ u.mask.getLsbD e.bit = false) →
        (u.latch e).outbound = u.outbound ∧ (u.latch e).owed = u.owed)
    ∧ (u.notices.getLsbD e.bit = false → u.mask.getLsbD e.bit = true →
        (OutPlace.notice ∈ u.outbound → (u.latch e).outbound = u.outbound ∧ (u.latch e).owed = u.owed)
        ∧ (OutPlace.notice ∉ u.outbound → u.outbound.length < Config.linkPlaces →
            (u.latch e).outbound = u.outbound ++ [.notice] ∧ (u.latch e).owed = u.owed)
        ∧ (OutPlace.notice ∉ u.outbound → Config.linkPlaces ≤ u.outbound.length →
            (u.latch e).outbound = u.outbound ∧ (u.latch e).owed = true))

/-- R184: Read Notices answers the set as it stood with the mask, the mode and the counts, then clears every bit but
the persisting ones whose conditions stand. R185: Set Notice Mask is refused when it names an event the link does not
have or no mode; otherwise the mask and the mode take the carried values, and the reply carries them as they stood
before. R183: in LEVEL mode a set bit that was masked and is now unmasked makes a notice frame due, behind the reply: it
merges with one that waits, takes a free place, or is owed. Bits 12 to 15 of a carried mask are ignored (log 10). -/
def Obligations.NoticeCommandsComplete : Prop :=
  (∀ (s : State) (l : Link) (tag : Byte), Ready s l .readNotices →
    exec (.readNotices l tag) s = .next (s.onLink l (fun u =>
      ({ u with
          outbound := u.outbound ++ [OutPlace.reply (replyFrame ⟨.done, noticesImage s.mode u⟩ 0x51#8 tag)]
          notices := u.notices &&& standingBits s l }).startTx s.mode)))
  ∧ (∀ (s : State) (l : Link) (tag : Byte) (events mode : Nat), Ready s l (.setNoticeMask events mode) →
    ((1 < mode ∨ namedEvents events &&& ~~~linkEvents l ≠ 0#16) →
      Refuses (.setNoticeMask l tag events mode) l (.setNoticeMask events mode) tag .badValue s)
    ∧ (mode ≤ 1 → namedEvents events &&& ~~~linkEvents l = 0#16 →
      Completes (.setNoticeMask l tag events mode) l s
        (s.onLink l (fun u => { u with mask := namedEvents events, level := decide (mode = 1) }))
        (replyFrame ⟨.done, encU 2 (s.links.get l).mask.toNat ++ encU 1 (beBool (s.links.get l).level)⟩ 0x50#8 tag))
    ∧ (mode ≤ 1 → namedEvents events &&& ~~~linkEvents l = 0#16 →
      let u := s.links.get l
      let due := decide (mode = 1) && decide (u.notices &&& namedEvents events &&& ~~~u.mask ≠ 0#16)
        && decide (OutPlace.notice ∉ u.outbound)
      let room := decide (u.outbound.length + 1 < Config.linkPlaces)
      exec (.setNoticeMask l tag events mode) s = .next (s.onLink l (fun u =>
        ({ u with
            mask := namedEvents events, level := decide (mode = 1)
            outbound := u.outbound
              ++ OutPlace.reply (replyFrame ⟨.done, encU 2 u.mask.toNat ++ encU 1 (beBool u.level)⟩ 0x50#8 tag)
                :: (if due && room then [OutPlace.notice] else [])
            owed := u.owed || (due && !room) }).startTx s.mode))))

/-! ### Power, RESTART and the modes -/

/-- R11, R194: the RESTART input acts from any mode, once until it has been at rest; the Restart command, admitted,
has the same effects and no reply. The working stores stand until INITIALIZING ends (log 5). R7, R174, R183: every link
stands at its RESTART value with MODE latched, and its notice frame is in transmission at once, in INITIALIZING (the
model's reading, log 15). -/
def Obligations.RestartCompletes : Prop :=
  ∀ s : State,
    (s.powered = true → s.restartArmed = true →
      ∃ t, exec .restartLine s = .next t ∧ Restarted s t ∧ t.restartArmed = false ∧ t.powered = true
        ∧ t.pending = s.pending)
    ∧ (s.restartArmed = false → exec .restartLine s = .next s)
    ∧ (∀ l tag, Ready s l .restart →
      ∃ t, exec (.restart l tag) s = .next t ∧ Restarted s t ∧ t.restartArmed = s.restartArmed ∧ t.powered = true
        ∧ t.pending = s.pending)
    ∧ exec .restartInputReturnToRest s = .next { s with restartArmed := true }

/-- R7, R10, R17: the end of INITIALIZING loads the settings or the defaults, takes the stored ship data, and enters
SERVICE when the stored set is valid and UNCONFIGURED when it is not; either way MODE is latched on all four links.
In any other mode the event is not due (log 6). The frames that wait are taken by the TAKE_FRAME steps that follow, which
is the model's choice (log 2). -/
def Obligations.EndOfInitializingCompletes : Prop :=
  ∀ s : State, s.powered = true →
    let w := if s.nvm.settings.marker && settingsInRange s.nvm.settings.contents then s.nvm.settings.contents
      else defaultSettings
    let d := if s.nvm.ship.marker then s.nvm.ship.contents else unwrittenShipData
    (s.mode = .initializing → storedShipValid s = true →
      ∃ t, exec .endOfInitializing s = .next t ∧ EnteredService s t d w
        ∧ t.origin = (if s.nvm.settings.marker && settingsInRange s.nvm.settings.contents then .stored else .defaults))
    ∧ (s.mode = .initializing → storedShipValid s = false →
      Becomes .endOfInitializing s
        (latchOn .mode allLinks
          { s with
            mode := .unconfigured, ship := d, settings := w
            origin := if s.nvm.settings.marker && settingsInRange s.nvm.settings.contents then .stored
              else .defaults }))
    ∧ (s.mode ≠ .initializing → exec .endOfInitializing s = .next s)

/-- R9: Enter Configuration from UNCONFIGURED, in CONFIGURATION, and from SERVICE: refused with STATE while a lift is
past REQUESTED or a transfer is GRANTED, and otherwise ending what is pending and emptying the results and the lists.
The generations stand, and the unit starts afresh (R70, R82, R83). In a sound gate every crane becomes IDLE, a lift that
was pending ends with BAD_MODE and its lot is again what it was; each REQUESTED transfer leaves its tanks and enters the
ending log with BAD_MODE, in ascending id (log 19); MODE is latched on all four links, with LIFT, TRANSFER and SUSPEND
where a lift, a transfer or the suspension ended (R125, R147, R171). -/
def Obligations.EnterConfigurationCompletes : Prop :=
  ∀ (s : State) (l : Link) (tag : Byte), Ready s l .enterConfiguration →
    (s.mode = .unconfigured →
      Completes (.enterConfiguration l tag) l s (latchOn .mode allLinks { s with mode := .configuration })
        (replyFrame (Reply.bare .done) 0x01#8 tag))
    ∧ (s.mode = .configuration →
      Answers (.enterConfiguration l tag) l .enterConfiguration tag (Reply.bare .done) s)
    ∧ (s.mode = .service → heldInService s = true →
      Refuses (.enterConfiguration l tag) l .enterConfiguration tag .state s)
    ∧ (s.mode = .service → heldInService s = false →
      ∃ t, exec (.enterConfiguration l tag) s = .next t ∧ t.sends l (replyFrame (Reply.bare .done) 0x01#8 tag)
        ∧ t.mode = .configuration ∧ t.monitor.suspension = none ∧ t.gate.queue = [] ∧ t.gate.window = false
        ∧ t.eval.unit = .idle ∧ t.eval.alt = 0
        ∧ (∀ x, (t.ctx x).set = none ∧ (t.ctx x).dirty = false ∧ (t.ctx x).gen = (s.ctx x).gen
            ∧ listOf t x = ViolationList.emptied)
        ∧ (∀ c, (s.liftRec c).role ≠ some .partner → (t.liftRec c).state = .idle)
        ∧ t.ballast.transfers = [] ∧ t.cond.seq = s.cond.seq ∧ t.cond.hooks = s.cond.hooks
        ∧ t.monitor.first = s.monitor.first ∧ t.monitor.next = s.monitor.next
        ∧ t.monitor.stopCount = s.monitor.stopCount ∧ Untouched s t)
    ∧ (s.mode = .service → heldInService s = false → GateSound s → s.ballast.log.length ≤ 4 →
      let ends := fun c => (s.liftRec c).state ≠ .idle
      let ended := fun j => (j = Link.l0 ∧ (ends .one ∨ ends .two)) ∨ (j = .l1 ∧ ends .one) ∨ (j = .l2 ∧ ends .two)
      let lead := fun c => ends c ∧ (s.liftRec c).role ≠ some .partner
      ∃ t, exec (.enterConfiguration l tag) s = .next t
        ∧ (∀ c, (ends c →
            (t.liftRec c).state = .idle ∧ (t.liftRec c).role = none ∧ (t.liftRec c).lot = none
            ∧ (t.liftRec c).timer = none
            ∧ (t.liftRec c).lastOutcome = some
                { kind := .badMode, lot := codeOr LotRef.id (s.liftRec c).lot, reason := none })
          ∧ (¬ ends c → t.liftRec c = s.liftRec c))
        ∧ (∀ n k o d a b, tget s.cond.lots n = some k → k.state = .lifting o d a b →
          (∃ c, lead c ∧ (s.liftRec c).lot.map LotRef.slot = some n) →
          tget t.cond.lots n = some
            { k with state := (match o with | .planned => .planned | .aboard => .aboard), modified := true })
        ∧ (∀ n, (∀ c, lead c → (s.liftRec c).lot.map LotRef.slot ≠ some n) →
          tget t.cond.lots n = tget s.cond.lots n)
        ∧ (∀ k, t.tankRow k =
          if s.ballast.transfers.any (fun p => p.2.tankEnds.contains k) then
            { s.tankRow k with transfer := none, stale := false }
          else s.tankRow k)
        ∧ t.ballast.log =
          ((s.ballast.transfers.map (fun p =>
              ({ id := p.1, source := p.2.source, dest := p.2.dest, planned := p.2.planned, kind := .badMode,
                 reason := none, amount := none, overrun := false, time := s.time } : EndRecord))).reverse
            ++ s.ballast.log).take 4
        ∧ t.ballast.nextId = s.ballast.nextId
        ∧ (∀ j, (t.links.get j).notices = (s.links.get j).notices ||| Event.mode.flag
          ||| (if s.suspended then Event.suspend.flag else 0#16)
          ||| (if (j = .l0 ∨ j = .l3) ∧ s.ballast.transfers ≠ [] then Event.transfer.flag else 0#16)
          ||| (if ended j then Event.lift.flag else 0#16))
        ∧ ∀ x, (t.ctx x).sticky = ⟨false, false, false⟩)

/-! ### Ship data, settings and the alarm lines -/

/-- R3, R15: Read Ship Data answers the values of a written entry, NOT_FOUND for an unwritten one and BAD_VALUE for no
entry; Read Setting answers the working value, or NOT_FOUND; neither changes anything. R29, R30, R34: Read Lot, Query
Slot and Read Sequence answer what the lot table and the sequence hold and change nothing; a slot above 511 and a page
past the end are refused with BAD_VALUE. That Read Lot answers NOT_FOUND to the id 0 too is the model's reading
(log 10). -/
def Obligations.StoreAndStowageReadsComplete : Prop :=
  (∀ (s : State) (l : Link) (tag : Byte),
    (∀ block index, Ready s l (.readShipData block index) →
      (∀ x, indexOk block index = true → getEntry s.ship block index = some x →
        Answers (.readShipData l tag block index) l (.readShipData block index) tag
          ⟨.done, encU 1 block ++ encU 1 index ++ x.bytes⟩ s)
      ∧ (indexOk block index = true → getEntry s.ship block index = none →
        Refuses (.readShipData l tag block index) l (.readShipData block index) tag .notFound s)
      ∧ (indexOk block index = false →
        Refuses (.readShipData l tag block index) l (.readShipData block index) tag .badValue s))
    ∧ (∀ item, Ready s l (.readSetting item) →
      (∀ v, itemValue s item = some v →
        Answers (.readSetting l tag item) l (.readSetting item) tag ⟨.done, encU 1 item ++ encU 4 v⟩ s)
      ∧ (itemValue s item = none → Refuses (.readSetting l tag item) l (.readSetting item) tag .notFound s)))
  ∧ (∀ (s : State) (l : Link) (tag : Byte) (n : Nat),
    (Ready s l (.readLot n) →
      (∀ slot k, findLot s.cond.lots n = some (slot, k) →
        Answers (.readLot l tag n) l (.readLot n) tag ⟨.done, lotImage k ++ encU 2 slot⟩ s)
      ∧ (findLot s.cond.lots n = none → Refuses (.readLot l tag n) l (.readLot n) tag .notFound s))
    ∧ (Ready s l (.querySlot n) →
      (511 < n → Refuses (.querySlot l tag n) l (.querySlot n) tag .badValue s)
      ∧ (n ≤ 511 → tget s.cond.lots n = none →
        Answers (.querySlot l tag n) l (.querySlot n) tag ⟨.done, encU 1 0⟩ s)
      ∧ (∀ k, n ≤ 511 → tget s.cond.lots n = some k →
        Answers (.querySlot l tag n) l (.querySlot n) tag
          ⟨.done, encU 1 k.state.code ++ encU 2 k.id ++ flagsByte [k.modified, k.discrepancy]⟩ s))
    ∧ (Ready s l (.readSequence n) →
      (1 ≤ n → s.cond.seq.length ≤ 56 * n → Refuses (.readSequence l tag n) l (.readSequence n) tag .badValue s)
      ∧ ((n = 0 ∨ 56 * n < s.cond.seq.length) →
        Answers (.readSequence l tag n) l (.readSequence n) tag
          ⟨.done, encU 2 s.cond.seq.length ++ encU 2 ((seqHead s.cond.lots s.cond.seq).getD 0xFFFF) ++ encU 2 (56 * n)
            ++ (((s.cond.seq.drop (56 * n)).take 56).map
              (fun e => encU 2 e.lot ++ encU 1 e.dir.code ++ flagsByte [lotIsLifting s.cond.lots e.lot])).flatten⟩ s)))

/-- R2: Write Ship Data writes an entry in range, or makes it unwritten when it carries no values; a wrong form,
block, index or field, and a commit in flight, each refuse it, in that order. -/
def Obligations.WriteShipDataCompletes : Prop :=
  ∀ (s : State) (l : Link) (tag : Byte) (block index : Nat) (e : List Byte),
    let r := Request.writeShipData block index e
    let i := Instr.writeShipData l tag block index e
    Ready s l r →
    (entryForm block e = false → Refuses i l r tag .badForm s)
    ∧ (entryForm block e = true → indexOk block index = false → Refuses i l r tag .badValue s)
    ∧ (entryForm block e = true → indexOk block index = true →
      (e = [] → s.committing = false →
        Completes i l s { s with ship := dropEntry s.ship block index } (replyFrame (Reply.bare .done) 0x02#8 tag))
      ∧ (e = [] → s.committing = true → Refuses i l r tag .busy s)
      ∧ (∀ x, e ≠ [] → entryOf block e = some x →
        (entryOk x = false → Refuses i l r tag .badValue s)
        ∧ (entryOk x = true → s.committing = false →
          Completes i l s { s with ship := putEntry s.ship index x } (replyFrame (Reply.bare .done) 0x02#8 tag))
        ∧ (entryOk x = true → s.committing = true → Refuses i l r tag .busy s)))

/-- R4, R5, R6, R16: a commit of ship data that passes the checks clears the stored set's marker and becomes an
operation in flight; one that fails is answered BAD_IMAGE with the block and the index (a HYDRO ROW block of a failing
row 0 alone: log 17); a store in flight refuses it with BUSY. Store Settings likewise. R5, R10: at the completion of a commit the working copy, without the STRENGTH
entries past the last cut, stands in non-volatile memory with its marker set, the engine enters SERVICE, and DONE
fills the place kept for the reply. With no commit in flight the event is not due. R16, R6: at the completion of a
store of settings the working settings stand in non-volatile memory with their marker set, and DONE fills the place
kept for the reply. Events that are not due: log 6. -/
def Obligations.StoresBeginAndComplete : Prop :=
  (∀ (s : State) (l : Link) (tag : Byte),
    (Ready s l .commitShipData →
      (s.committing = false → s.storing = false → commitCheck s.ship = none →
        Begins (.commitShipData l tag) l .commitShipData tag .commit s
          { s with committing := true, nvm := { s.nvm with ship := { s.nvm.ship with marker := false } } })
      ∧ (∀ f, s.committing = false → s.storing = false → commitCheck s.ship = some f →
        Answers (.commitShipData l tag) l .commitShipData tag ⟨.badImage, encU 1 f.1 ++ encU 1 f.2⟩ s)
      ∧ (s.committing = true ∨ s.storing = true →
        Refuses (.commitShipData l tag) l .commitShipData tag .busy s))
    ∧ (Ready s l .storeSettings →
      (s.committing = false → s.storing = false →
        Begins (.storeSettings l tag) l .storeSettings tag .store s
          { s with storing := true, nvm := { s.nvm with settings := { s.nvm.settings with marker := false } } })
      ∧ (s.committing = true ∨ s.storing = true →
        Refuses (.storeSettings l tag) l .storeSettings tag .busy s)))
  ∧ (∀ s : State, s.powered = true →
    (s.committing = true →
      ∃ t, exec .commitCompletion s = .next t ∧ EnteredService s t (trimStrength s.ship) s.settings
        ∧ t.committing = false ∧ t.nvm = { s.nvm with ship := ⟨true, trimStrength s.ship⟩ } ∧ t.origin = s.origin
        ∧ (∀ k tag, KeptPlace .commit k tag s → t.sends .l0 (replyFrame (Reply.bare .done) k tag)))
    ∧ (s.committing = false → exec .commitCompletion s = .next s))
  ∧ (∀ s : State, s.powered = true →
    (s.storing = true →
      ∃ t, exec .storeSettingsCompletion s = .next t
        ∧ t.standing =
          ({ s with storing := false, nvm := { s.nvm with settings := ⟨true, s.settings⟩ } } : State).standing
        ∧ (∀ k tag, KeptPlace .store k tag s → t.sends .l0 (replyFrame (Reply.bare .done) k tag)))
    ∧ (s.storing = false → exec .storeSettingsCompletion s = .next s))

/-- R13, R14: Write Setting refuses an unknown item, a read-only item, a value that names none and a store in flight,
in that order; otherwise the item takes the value clamped to its range, a W_in above W_out takes W_out with it, every
other setting stands, and the reply carries the working value with DONE, or ADJUSTED when a bound acted. A new stale
period is judged at once (log 7). -/
def Obligations.WriteSettingCompletes : Prop :=
  ∀ (s : State) (l : Link) (tag : Byte) (item v : Nat),
    let r := Request.writeSetting item v
    let i := Instr.writeSetting l tag item v
    let c := clampTo (itemRange s.ship.particulars s.settings.wIn item) v
    Ready s l r →
    (itemValue s item = none → Refuses i l r tag .notFound s)
    ∧ (itemValue s item ≠ none → itemReadOnly item = true ∨ enumOk item v = false → Refuses i l r tag .badValue s)
    ∧ (settingGet s.settings item ≠ none → itemReadOnly item = false → enumOk item v = true →
      (s.storing = true → Refuses i l r tag .busy s)
      ∧ (s.storing = false →
        ∃ t, exec i s = .next t
          ∧ settingGet t.settings item = some c
          ∧ (∀ other, other ≠ item → (other ≠ 0x35 ∨ item ≠ 0x34) →
            settingGet t.settings other = settingGet s.settings other)
          ∧ (item = 0x34 → t.settings.wOut = max s.settings.wOut c)
          ∧ t.sends l (replyFrame
              ⟨if c = v ∧ ¬ (item = 0x34 ∧ s.settings.wOut < c) then .done else .adjusted, encU 1 item ++ encU 4 c⟩
              0x05#8 tag)
          ∧ ((item ≠ 0x2C ∧ item ≠ 0x2D) →
            t.standing = (if s.mode = .service ∧ item ≤ 0x0B ∧ t.settings ≠ s.settings
              then advanceAllContexts { s with settings := t.settings }
              else { s with settings := t.settings }).standing)
          ∧ (item = 0x2C → t.cond = s.cond
            ∧ (t.settings ≠ s.settings → ∀ k, t.gate.stale.get k = craneStaleNow t k))
          ∧ (item = 0x2D → ({ t.cond with tanks := s.cond.tanks } : Condition) = s.cond
            ∧ (t.settings ≠ s.settings → ∀ k row, tget t.cond.tanks k = some row → row.stale = tankStaleNow t k))))

/-- R127, R128: Control Line refuses no line, no mode or no level, and a store in flight; otherwise the mode, and for
MANUAL the level, take the carried values, the line is brought to its state, and the reply carries mode, level, state
and latched status. R127: Clear Line Status answers both lines as they stood, then clears the latched statuses of the
selected lines; a selection above 3 is refused. The lines of a powered engine stand as their rules give (the
invariant), so no status is set again. The level is read for MANUAL alone (log 10). -/
def Obligations.AlarmLineCommandsComplete : Prop :=
  (∀ (s : State) (l : Link) (tag : Byte) (line mode level : Nat),
    let r := Request.controlLine line mode level
    let i := Instr.controlLine l tag line mode level
    Ready s l r →
    (lineArgs line mode level = none → Refuses i l r tag .badValue s)
    ∧ (∀ m b, lineArgs line mode level = some (m, b) → s.storing = true → Refuses i l r tag .busy s)
    ∧ (∀ m b, lineArgs line mode level = some (m, b) → s.storing = false →
      ∃ t, exec i s = .next t
        ∧ t.standing = ({ s with settings := t.settings } : State).standing
        ∧ (line = 0 →
          t.settings = { s.settings with
            cautionMode := m, cautionLevel := if m = .manual then b else s.settings.cautionLevel }
          ∧ t.monitor.caution.asserted = cautionTarget t
          ∧ t.monitor.caution.latched =
            (s.monitor.caution.latched || (cautionTarget t && !s.monitor.caution.asserted))
          ∧ t.sends l (replyFrame
              ⟨.done, encU 1 (lineModeCode m) ++ encU 1 (beBool t.settings.cautionLevel)
                ++ encU 1 (beBool t.monitor.caution.asserted) ++ encU 1 (beBool t.monitor.caution.latched)⟩ 0x08#8 tag))
        ∧ (line = 1 →
          t.settings = { s.settings with
            stopMode := m, stopLevel := if m = .manual then b else s.settings.stopLevel }
          ∧ t.monitor.stop.asserted = stopTarget t
          ∧ t.monitor.stop.latched = (s.monitor.stop.latched || (stopTarget t && !s.monitor.stop.asserted))
          ∧ t.sends l (replyFrame
              ⟨.done, encU 1 (lineModeCode m) ++ encU 1 (beBool t.settings.stopLevel)
                ++ encU 1 (beBool t.monitor.stop.asserted) ++ encU 1 (beBool t.monitor.stop.latched)⟩ 0x08#8 tag))))
  ∧ (∀ (s : State) (l : Link) (tag : Byte) (selection : Nat), Ready s l (.clearLineStatus selection) →
    (3 < selection →
      Refuses (.clearLineStatus l tag selection) l (.clearLineStatus selection) tag .badValue s)
    ∧ (selection ≤ 3 → linesDriven s →
      ∃ t, exec (.clearLineStatus l tag selection) s = .next t ∧ t.standing = s.standing
        ∧ t.monitor.caution =
          { s.monitor.caution with latched := s.monitor.caution.latched && !selection.testBit 0 }
        ∧ t.monitor.stop = { s.monitor.stop with latched := s.monitor.stop.latched && !selection.testBit 1 }
        ∧ t.sends l (replyFrame
            ⟨.done, encU 1 (lineModeCode s.settings.cautionMode) ++ encU 1 (beBool s.settings.cautionLevel)
              ++ encU 1 (beBool s.monitor.caution.asserted) ++ encU 1 (beBool s.monitor.caution.latched)
              ++ (encU 1 (lineModeCode s.settings.stopMode) ++ encU 1 (beBool s.settings.stopLevel)
              ++ encU 1 (beBool s.monitor.stop.asserted) ++ encU 1 (beBool s.monitor.stop.latched))⟩ 0x09#8 tag)))

/-! ### Lots, the stow sequence and the tanks -/

/-- R23, R20, R21, R40: Plan Lot creates a PLANNED lot in the lowest FREE slot, or replaces the planned values of a
PLANNED one and sets MODIFIED when one of them differs; PLAN advances when something changed; the reply carries the
slot. -/
def Obligations.PlanLotCompletes : Prop :=
  ∀ (s : State) (l : Link) (tag : Byte) (a : PlanLotArgs), Ready s l (.planLot a) →
    (planValuesOk s.ship a = false → Refuses (.planLot l tag a) l (.planLot a) tag .badValue s)
    ∧ (planValuesOk s.ship a = true →
      (findLot s.cond.lots a.lot = none → freeSlot s.cond.lots = none →
        Refuses (.planLot l tag a) l (.planLot a) tag .full s)
      ∧ (∀ n, findLot s.cond.lots a.lot = none → freeSlot s.cond.lots = some n →
        Completes (.planLot l tag a) l s
          (advancePlan (s.setLots (tput s.cond.lots n
            { id := a.lot, state := .planned, declared := a.mass, measured := none, loc := a.target,
              footprint := a.footprint, mark := false, modified := true, discrepancy := false })))
          (replyFrame ⟨.done, encU 2 n⟩ 0x10#8 tag))
      ∧ (∀ n k, findLot s.cond.lots a.lot = some (n, k) →
        (k.state ≠ .planned → Refuses (.planLot l tag a) l (.planLot a) tag .state s)
        ∧ (k.state = .planned → ¬ (k.declared = a.mass ∧ k.loc = a.target ∧ k.footprint = a.footprint) →
          Completes (.planLot l tag a) l s
            (advancePlan (s.setLots (tput s.cond.lots n
              { k with declared := a.mass, loc := a.target, footprint := a.footprint, modified := true })))
            (replyFrame ⟨.done, encU 2 n⟩ 0x10#8 tag))
        ∧ (k.state = .planned → k.declared = a.mass ∧ k.loc = a.target ∧ k.footprint = a.footprint →
          Answers (.planLot l tag a) l (.planLot a) tag ⟨.done, encU 2 n⟩ s)))

/-- R24, R26, R31, R40: Unplan Lot discards a PLANNED lot with its LOAD entry and advances PLAN; Remove Lot discards
an ABOARD lot with its DISCHARGE entry and advances ACTUAL, and PLAN unless the lot was marked; a lot in another state
is refused with STATE, an id held by no slot with NOT_FOUND and an id out of range with BAD_VALUE. -/
def Obligations.LotsAreDiscarded : Prop :=
  ∀ (s : State) (l : Link) (tag : Byte) (id : Nat),
    (Ready s l (.unplanLot id) →
      (lotIdOk id = false → Refuses (.unplanLot l tag id) l (.unplanLot id) tag .badValue s)
      ∧ (lotIdOk id = true → findLot s.cond.lots id = none →
        Refuses (.unplanLot l tag id) l (.unplanLot id) tag .notFound s)
      ∧ (∀ n k, lotIdOk id = true → findLot s.cond.lots id = some (n, k) →
        (k.state ≠ .planned → Refuses (.unplanLot l tag id) l (.unplanLot id) tag .state s)
        ∧ (k.state = .planned →
          Completes (.unplanLot l tag id) l s
            (advancePlan ((s.setLots (tdrop s.cond.lots n)).setSeq
              (s.cond.seq.filter (fun e => decide (¬ (e.lot = id ∧ e.dir = .load))))))
            (replyFrame (Reply.bare .done) 0x11#8 tag))))
    ∧ (Ready s l (.removeLot id) →
      (lotIdOk id = false → Refuses (.removeLot l tag id) l (.removeLot id) tag .badValue s)
      ∧ (lotIdOk id = true → findLot s.cond.lots id = none →
        Refuses (.removeLot l tag id) l (.removeLot id) tag .notFound s)
      ∧ (∀ n k, lotIdOk id = true → findLot s.cond.lots id = some (n, k) →
        (k.state ≠ .aboard → Refuses (.removeLot l tag id) l (.removeLot id) tag .state s)
        ∧ (k.state = .aboard →
          Completes (.removeLot l tag id) l s
            (advance true (!k.mark) ((s.setLots (tdrop s.cond.lots n)).setSeq
              (s.cond.seq.filter (fun e => decide (¬ (e.lot = id ∧ e.dir = .discharge))))))
            (replyFrame (Reply.bare .done) 0x13#8 tag))))

/-- R25, R20, R40: Place Lot creates an ABOARD lot in the lowest FREE slot when it carries a mass, or sets a PLANNED
lot aboard, keeping what is not carried, and removes its LOAD entry; ACTUAL and PLAN advance; the reply carries the
slot. -/
def Obligations.PlaceLotCompletes : Prop :=
  ∀ (s : State) (l : Link) (tag : Byte) (a : PlaceLotArgs), Ready s l (.placeLot a) →
    (placeValuesOk s.ship a = false → Refuses (.placeLot l tag a) l (.placeLot a) tag .badValue s)
    ∧ (placeValuesOk s.ship a = true →
      (findLot s.cond.lots a.lot = none → a.mass = none →
        Refuses (.placeLot l tag a) l (.placeLot a) tag .badValue s)
      ∧ (∀ m, findLot s.cond.lots a.lot = none → a.mass = some m → freeSlot s.cond.lots = none →
        Refuses (.placeLot l tag a) l (.placeLot a) tag .full s)
      ∧ (∀ m n, findLot s.cond.lots a.lot = none → a.mass = some m → freeSlot s.cond.lots = some n →
        Completes (.placeLot l tag a) l s
          (advance true true (s.setLots (tput s.cond.lots n
            { id := a.lot, state := .aboard, declared := m, measured := none, loc := a.position,
              footprint := a.footprint, mark := false, modified := true, discrepancy := false })))
          (replyFrame ⟨.done, encU 2 n⟩ 0x12#8 tag))
      ∧ (∀ n k, findLot s.cond.lots a.lot = some (n, k) →
        (k.state ≠ .planned → Refuses (.placeLot l tag a) l (.placeLot a) tag .state s)
        ∧ (k.state = .planned →
          Completes (.placeLot l tag a) l s
            (advance true true ((s.setLots (tput s.cond.lots n
              { k with
                state := .aboard, declared := a.mass.getD k.declared, loc := a.position,
                footprint := a.footprint.or k.footprint, modified := true })).setSeq
              (s.cond.seq.filter (fun e => decide (¬ (e.lot = a.lot ∧ e.dir = .load))))))
            (replyFrame ⟨.done, encU 2 n⟩ 0x12#8 tag))))

/-- R27, R40: Mark Discharge sets the mark of an ABOARD lot and appends its DISCHARGE entry, Unmark Discharge clears
it and removes the entry, each advancing PLAN; a mark that already stands so is answered DONE with nothing changed; a
lot not ABOARD is refused with STATE. R28, R40: Accept Weight makes the measured mass the declared mass and clears
DISCREPANCY, advancing ACTUAL, and PLAN when the lot is PLANNED; a LIFTING lot and a lot without a measured mass are
refused with STATE, a measured mass above 2,000,000 kg with BAD_VALUE. All three refuse an id held by no slot with
NOT_FOUND, and the id 0 with BAD_VALUE (R22). An Accept Weight that changes nothing advances nothing (log 13). -/
def Obligations.MarksAndWeightsComplete : Prop :=
  (∀ (s : State) (l : Link) (tag : Byte) (id n : Nat) (k : Lot),
    lotIdOk id = true → findLot s.cond.lots id = some (n, k) →
    (Ready s l (.markDischarge id) →
      (k.state ≠ .aboard → Refuses (.markDischarge l tag id) l (.markDischarge id) tag .state s)
      ∧ (k.state = .aboard → k.mark = true →
        Answers (.markDischarge l tag id) l (.markDischarge id) tag (Reply.bare .done) s)
      ∧ (k.state = .aboard → k.mark = false →
        Completes (.markDischarge l tag id) l s
          (advancePlan ((s.setLots (tput s.cond.lots n { k with mark := true, modified := true })).setSeq
            (s.cond.seq ++ [⟨id, .discharge⟩])))
          (replyFrame (Reply.bare .done) 0x14#8 tag)))
    ∧ (Ready s l (.unmarkDischarge id) →
      (k.state ≠ .aboard → Refuses (.unmarkDischarge l tag id) l (.unmarkDischarge id) tag .state s)
      ∧ (k.state = .aboard → k.mark = false →
        Answers (.unmarkDischarge l tag id) l (.unmarkDischarge id) tag (Reply.bare .done) s)
      ∧ (k.state = .aboard → k.mark = true →
        Completes (.unmarkDischarge l tag id) l s
          (advancePlan ((s.setLots (tput s.cond.lots n { k with mark := false, modified := true })).setSeq
            (s.cond.seq.filter (fun e => decide (¬ (e.lot = id ∧ e.dir = .discharge))))))
          (replyFrame (Reply.bare .done) 0x15#8 tag))))
  ∧ (∀ (s : State) (l : Link) (tag : Byte) (id n : Nat) (k : Lot), Ready s l (.acceptWeight id) →
    lotIdOk id = true → findLot s.cond.lots id = some (n, k) →
    (k.state.isLifting = true ∨ k.measured = none →
      Refuses (.acceptWeight l tag id) l (.acceptWeight id) tag .state s)
    ∧ (∀ m, k.state.isLifting = false → k.measured = some m →
      (2000000 < m → Refuses (.acceptWeight l tag id) l (.acceptWeight id) tag .badValue s)
      ∧ (m ≤ 2000000 → (k.declared ≠ m ∨ k.discrepancy = true) →
        Completes (.acceptWeight l tag id) l s
          (advance true (decide (k.state = .planned)) (s.setLots (tput s.cond.lots n
            { k with declared := m, discrepancy := false, modified := true })))
          (replyFrame (Reply.bare .done) 0x16#8 tag))
      ∧ (m ≤ 2000000 → k.declared = m → k.discrepancy = false →
        Answers (.acceptWeight l tag id) l (.acceptWeight id) tag (Reply.bare .done) s)))
  ∧ (∀ (s : State) (l : Link) (tag : Byte) (id : Nat),
    let status := if lotIdOk id then Status.notFound else Status.badValue
    findLot s.cond.lots id = none ∨ lotIdOk id = false →
    (Ready s l (.markDischarge id) → Refuses (.markDischarge l tag id) l (.markDischarge id) tag status s)
    ∧ (Ready s l (.unmarkDischarge id) → Refuses (.unmarkDischarge l tag id) l (.unmarkDischarge id) tag status s)
    ∧ (Ready s l (.acceptWeight id) → Refuses (.acceptWeight l tag id) l (.acceptWeight id) tag status s))

/-- R31, R32: Insert in Sequence checks direction, existence, LIFTING, a second entry and the lot's state, in that
order; then the entry takes the carried place, or the end, and nothing else changes. R33: Remove from Sequence refuses
a lot with no entry and a LIFTING lot; otherwise the entry leaves, the later ones close up, and the lot is not
changed. That both answer NOT_FOUND to the id 0 too, and Remove from Sequence to a LIFTING lot with no entry, is the
model's reading (log 10). -/
def Obligations.SequenceCommandsComplete : Prop :=
  (∀ (s : State) (l : Link) (tag : Byte) (id dir p : Nat),
    let r := Request.insertInSequence id dir p
    let i := Instr.insertInSequence l tag id dir p
    Ready s l r →
    (dirOf dir = none → Refuses i l r tag .badValue s)
    ∧ (∀ d, dirOf dir = some d → findLot s.cond.lots id = none → Refuses i l r tag .notFound s)
    ∧ (∀ d n k, dirOf dir = some d → findLot s.cond.lots id = some (n, k) →
      (k.state.isLifting = true → Refuses i l r tag .state s)
      ∧ (k.state.isLifting = false → (∃ e ∈ s.cond.seq, e.lot = id) → Refuses i l r tag .duplicate s)
      ∧ (k.state.isLifting = false → (∀ e ∈ s.cond.seq, e.lot ≠ id) →
        ((d = .load ∧ k.state = .planned) ∨ (d = .discharge ∧ k.state = .aboard ∧ k.mark = true) →
          Completes i l s (s.setSeq (s.cond.seq.take p ++ ⟨id, d⟩ :: s.cond.seq.drop p))
            (replyFrame ⟨.done, encU 2 (min p s.cond.seq.length)⟩ 0x19#8 tag))
        ∧ (¬ ((d = .load ∧ k.state = .planned) ∨ (d = .discharge ∧ k.state = .aboard ∧ k.mark = true)) →
          Refuses i l r tag .state s))))
  ∧ (∀ (s : State) (l : Link) (tag : Byte) (id : Nat), Ready s l (.removeFromSequence id) →
    ((∀ e ∈ s.cond.seq, e.lot ≠ id) →
      Refuses (.removeFromSequence l tag id) l (.removeFromSequence id) tag .notFound s)
    ∧ ((∃ e ∈ s.cond.seq, e.lot = id) → lotIsLifting s.cond.lots id = true →
      Refuses (.removeFromSequence l tag id) l (.removeFromSequence id) tag .state s)
    ∧ ((∃ e ∈ s.cond.seq, e.lot = id) → lotIsLifting s.cond.lots id = false →
      Completes (.removeFromSequence l tag id) l s
        (s.setSeq (s.cond.seq.filter (fun e => decide (e.lot ≠ id))))
        (replyFrame (Reply.bare .done) 0x1A#8 tag)))

/-- R36, R37, R40: Set Tank Manual checks the density, the tank, the capacity and the transfer, then records contents
and density with the source MANUAL; Set Tank Target checks density, tank and capacity, then sets or clears the
target; ACTUAL and PLAN advance as the counted values change. A Set Tank Manual that changes the source alone
advances nothing (log 13). -/
def Obligations.TanksAreSet : Prop :=
  ∀ (s : State) (l : Link) (tag : Byte) (k : Nat),
    (∀ m d, Ready s l (.setTankManual k m d) →
      (densityOk d = false → Refuses (.setTankManual l tag k m d) l (.setTankManual k m d) tag .badValue s)
      ∧ (densityOk d = true → tget s.ship.tanks k = none →
        Refuses (.setTankManual l tag k m d) l (.setTankManual k m d) tag .notFound s)
      ∧ (∀ g, densityOk d = true → tget s.ship.tanks k = some g →
        (g.capacity * d / 1000 < m →
          Refuses (.setTankManual l tag k m d) l (.setTankManual k m d) tag .badValue s)
        ∧ (m ≤ g.capacity * d / 1000 → (s.tankRow k).transfer.isSome = true →
          Refuses (.setTankManual l tag k m d) l (.setTankManual k m d) tag .state s)
        ∧ (m ≤ g.capacity * d / 1000 → (s.tankRow k).transfer = none →
          let changed := decide ((s.tankRow k).contents ≠ m ∨ (s.tankRow k).density ≠ d)
          Completes (.setTankManual l tag k m d) l s
            (advance changed (changed && (s.tankRow k).target.isNone)
              (s.setTanks (tput s.cond.tanks k
                { s.tankRow k with contents := m, density := d, source := .manual, clamped := false })))
            (replyFrame (Reply.bare .done) 0x1C#8 tag))))
    ∧ (∀ g, Ready s l (.setTankTarget k g) →
      ((∃ x, g = some x ∧ densityOk x.density = false) →
        Refuses (.setTankTarget l tag k g) l (.setTankTarget k g) tag .badValue s)
      ∧ ((∀ x, g = some x → densityOk x.density = true) → tget s.ship.tanks k = none →
        Refuses (.setTankTarget l tag k g) l (.setTankTarget k g) tag .notFound s)
      ∧ (∀ geom, (∀ x, g = some x → densityOk x.density = true) → tget s.ship.tanks k = some geom →
        ((∃ x, g = some x ∧ geom.capacity * x.density / 1000 < x.contents) →
          Refuses (.setTankTarget l tag k g) l (.setTankTarget k g) tag .badValue s)
        ∧ ((∀ x, g = some x → x.contents ≤ geom.capacity * x.density / 1000) → (s.tankRow k).target ≠ g →
          Completes (.setTankTarget l tag k g) l s
            (advancePlan (s.setTanks (tput s.cond.tanks k { s.tankRow k with target := g })))
            (replyFrame (Reply.bare .done) 0x1D#8 tag))
        ∧ ((s.tankRow k).target = g → (∀ x, g = some x → x.contents ≤ geom.capacity * x.density / 1000) →
          Answers (.setTankTarget l tag k g) l (.setTankTarget k g) tag (Reply.bare .done) s)))

/-! ### The trial stack -/

/-- R90, R93, R97, R81, R89: Open Frame pushes an empty frame below depth 4 and Drop Frame removes the top one above
depth 0, each advancing TRIAL; the drop of the last frame clears TRIAL's set, flags and list; at the other depths the
command is answered STACK_FAULT with its kind and TRIAL_FAULT is latched on L0. Every reply carries the depth and the
pool entries in use. R81, R83: the drop of the last frame abandons a TRIAL pass in flight and no other, and leaves TRIAL
dirty. -/
def Obligations.FramesOpenAndDrop : Prop :=
  ∀ (s : State) (l : Link) (tag : Byte),
    (Ready s l .openFrame →
      (s.frames.length < 4 →
        Completes (.openFrame l tag) l s (advanceTrial { s with frames := s.frames ++ [[]] })
          (replyFrame ⟨.done, encU 1 (s.frames.length + 1) ++ encU 1 s.frames.flatten.length⟩ 0x20#8 tag))
      ∧ (4 ≤ s.frames.length →
        Completes (.openFrame l tag) l s (latch .trialFault .l0 s)
          (replyFrame ⟨.stackFault, encU 1 s.frames.length ++ encU 1 s.frames.flatten.length ++ encU 1 1⟩ 0x20#8 tag)))
    ∧ (Ready s l .dropFrame →
      (2 ≤ s.frames.length →
        Completes (.dropFrame l tag) l s (advanceTrial { s with frames := s.frames.dropLast })
          (replyFrame ⟨.done, encU 1 (s.frames.length - 1) ++ encU 1 s.frames.dropLast.flatten.length⟩ 0x22#8 tag))
      ∧ (s.frames.length = 1 →
        Completes (.dropFrame l tag) l s
          { s with
            frames := []
            eval := { s.eval with
              trial := { s.eval.trial with gen := s.eval.trial.gen + 1, set := none, sticky := ⟨false, false, false⟩ } }
            monitor := { s.monitor with trial := ViolationList.emptied } }
          (replyFrame ⟨.done, encU 1 0 ++ encU 1 0⟩ 0x22#8 tag))
      ∧ (s.frames.length = 1 → EmptiesTrial (.dropFrame l tag) s)
      ∧ (s.frames = [] →
        Completes (.dropFrame l tag) l s (latch .trialFault .l0 s)
          (replyFrame ⟨.stackFault, encU 1 0 ++ encU 1 0 ++ encU 1 2⟩ 0x22#8 tag)))

/-- R92, R86: what one move of a batch is checked for, in order, and the expectation it records: the kind and the
values, the lot or the tank in the view, and room in the pool. R91: the moves of a batch are checked and applied one at a
time against the view that the frames then give, up to the first that fails. R91, R84: Add Moves answers how many moves
it applied; the applied moves, in their order, stand at the end of the top frame, the frames below are unchanged, and TRIAL
advances when at least one was applied. A batch of a wrong form is answered BAD_FORM and a batch on an empty stack
STACK_FAULT. The reply of BAD_FORM carries the row's values too (log 11). -/
def Obligations.MovesAreCheckedAndAdded : Prop :=
  (∀ (ship : ShipData) (v : View) (used : Nat) (b : List Byte),
    (moveOf b = none → checkMove ship v used b = .error .badValue)
    ∧ (∀ body, moveOf b = some body → moveValuesOk ship body = false → checkMove ship v used b = .error .badValue)
    ∧ (∀ id mass target foot, moveOf b = some (.plan id mass target foot) →
      moveValuesOk ship (.plan id mass target foot) = true →
      (findLot v.lots id = none → used < 64 → checkMove ship v used b = .ok ⟨.plan id mass target foot, .absent⟩)
      ∧ (findLot v.lots id = none → 64 ≤ used → checkMove ship v used b = .error .full)
      ∧ (∀ n k, findLot v.lots id = some (n, k) →
        (k.state ≠ .planned → checkMove ship v used b = .error .state)
        ∧ (k.state = .planned → used < 64 →
          checkMove ship v used b =
            .ok ⟨.plan id mass target foot, .planned k.declared k.loc k.footprint⟩)
        ∧ (k.state = .planned → 64 ≤ used → checkMove ship v used b = .error .full)))
    ∧ (∀ id, moveOf b = some (.unplan id) → moveValuesOk ship (.unplan id) = true →
      (findLot v.lots id = none → checkMove ship v used b = .error .notFound)
      ∧ (∀ n k, findLot v.lots id = some (n, k) →
        (k.state ≠ .planned → checkMove ship v used b = .error .state)
        ∧ (k.state = .planned → used < 64 →
          checkMove ship v used b = .ok ⟨.unplan id, .planned k.declared k.loc k.footprint⟩)
        ∧ (k.state = .planned → 64 ≤ used → checkMove ship v used b = .error .full)))
    ∧ (∀ t g, moveOf b = some (.tankTarget t g) → moveValuesOk ship (.tankTarget t g) = true →
      (tget ship.tanks t = none → checkMove ship v used b = .error .notFound)
      ∧ (∀ geom, tget ship.tanks t = some geom → used < 64 →
        checkMove ship v used b =
          .ok ⟨.tankTarget t g, .tank ((tget v.tanks t).getD TankRow.fresh).target⟩)
      ∧ (∀ geom, tget ship.tanks t = some geom → 64 ≤ used → checkMove ship v used b = .error .full)))
  ∧ (∀ (ship : ShipData) (c : Condition) (frames : List (List Move)) (b : List Byte) (rest : List (List Byte)),
    let checked := checkMove ship (replay c frames) frames.flatten.length b
    addAll ship c [] frames = (frames, 0, .done)
    ∧ (∀ e, checked = .error e → addAll ship c (b :: rest) frames = (frames, 0, e))
    ∧ (∀ m below top, checked = .ok m → frames = below ++ [top] →
      let r := addAll ship c rest (below ++ [top ++ [m]])
      addAll ship c (b :: rest) frames = (r.1, r.2.1 + 1, r.2.2)))
  ∧ (∀ (s : State) (l : Link) (tag : Byte) (p : List Byte), Ready s l (.addMoves p) →
    (movesOf p = none →
      Answers (.addMoves l tag p) l (.addMoves p) tag
        ⟨.badForm, encU 1 0 ++ (encU 1 s.frames.length ++ encU 1 s.frames.flatten.length)⟩ s)
    ∧ (∀ ms, movesOf p = some ms → s.frames = [] →
      Completes (.addMoves l tag p) l s (latch .trialFault .l0 s)
        (replyFrame ⟨.stackFault, encU 1 0 ++ (encU 1 0 ++ encU 1 0) ++ encU 1 2⟩ 0x21#8 tag))
    ∧ (∀ ms below top, movesOf p = some ms → s.frames = below ++ [top] →
      ∃ applied st, addAll s.ship s.cond ms s.frames = (below ++ [top ++ applied], applied.length, st)
        ∧ applied.length ≤ ms.length ∧ (st = .done ↔ applied.length = ms.length)
        ∧ (applied = [] → Answers (.addMoves l tag p) l (.addMoves p) tag
            ⟨st, encU 1 0 ++ (encU 1 s.frames.length ++ encU 1 s.frames.flatten.length)⟩ s)
        ∧ (applied ≠ [] → Completes (.addMoves l tag p) l s
            (advanceTrial { s with frames := below ++ [top ++ applied] })
            (replyFrame
              ⟨st, encU 1 applied.length
                ++ (encU 1 s.frames.length ++ encU 1 (s.frames.flatten.length + applied.length))⟩ 0x21#8 tag))))

/-- R94, R95, R96, R97: Fold Frame at depth 2 or more appends the top frame to the one below; at depth 1 it checks
every move against the condition and, when each passes, applies them in one step, PLAN advancing when there was a
move, and empties the stack with R81's effects; a move that fails is answered with its status, position and cause and
nothing changes; at depth 0 it is a stack fault. R95, R96: the moves are checked in their order, each against the
condition the moves before it left: a move that expected a lot ABSENT, or PLANNED with its values, and a tank with its
target, meets CONFLICT where the lot is in another state (LOT_STATE 1), its values differ (LOT_VALUES 2), the tank is in
a transfer (TANK_TRANSFER 3) or its target differs (TANK_TARGET 4), and a new lot meets FULL where no slot is FREE. R81,
R83: the fold into the plan abandons a TRIAL pass in flight and no other, and leaves TRIAL dirty. -/
def Obligations.FoldFrameCompletes : Prop :=
  (∀ (c : Condition) (i : Nat) (m : Move) (rest : List Move),
    foldMoves c i [] = .ok c
    ∧ (∀ e, foldMove c m = .error e → foldMoves c i (m :: rest) = .error (e, i))
    ∧ (∀ c', foldMove c m = .ok c' → foldMoves c i (m :: rest) = foldMoves c' (i + 1) rest))
  ∧ (∀ (c : Condition) (id mass : Nat) (target : Loc) (foot : Option Footprint),
    let m : Move := ⟨.plan id mass target foot, .absent⟩
    (findLot c.lots id ≠ none → foldMove c m = .error ⟨.conflict, 1⟩)
    ∧ (findLot c.lots id = none → freeSlot c.lots = none → foldMove c m = .error ⟨.full, 0⟩)
    ∧ (∀ n, findLot c.lots id = none → freeSlot c.lots = some n →
      foldMove c m = .ok
        { c with
          lots := tput c.lots n
            { id := id, state := .planned, declared := mass, measured := none, loc := target, footprint := foot,
              mark := false, modified := true, discrepancy := false } }))
  ∧ (∀ (c : Condition) (id mass was : Nat) (target loc : Loc) (foot print : Option Footprint),
    let x : Expect := .planned was loc print
    let change : Move := ⟨.plan id mass target foot, x⟩
    let remove : Move := ⟨.unplan id, x⟩
    (∀ m ∈ [change, remove],
      (findLot c.lots id = none → foldMove c m = .error ⟨.conflict, 1⟩)
      ∧ (∀ n k, findLot c.lots id = some (n, k) →
        (k.state ≠ .planned → foldMove c m = .error ⟨.conflict, 1⟩)
        ∧ (k.state = .planned → ¬ (k.declared = was ∧ k.loc = loc ∧ k.footprint = print) →
          foldMove c m = .error ⟨.conflict, 2⟩)))
    ∧ (∀ n k, findLot c.lots id = some (n, k) → k.state = .planned → k.declared = was → k.loc = loc →
      k.footprint = print →
      foldMove c change = .ok
        { c with
          lots := tput c.lots n
            { k with
              declared := mass, loc := target, footprint := foot
              modified := k.modified || decide (¬ (was = mass ∧ loc = target ∧ print = foot)) } }
      ∧ foldMove c remove = .ok
        { c with
          lots := tdrop c.lots n, seq := c.seq.filter (fun e => decide (¬ (e.lot = id ∧ e.dir = .load))) }))
  ∧ (∀ (c : Condition) (k : Nat) (g was : Option Target),
    let row := (tget c.tanks k).getD TankRow.fresh
    let m : Move := ⟨.tankTarget k g, .tank was⟩
    (row.transfer ≠ none → foldMove c m = .error ⟨.conflict, 3⟩)
    ∧ (row.transfer = none → row.target ≠ was → foldMove c m = .error ⟨.conflict, 4⟩)
    ∧ (row.transfer = none → row.target = was →
      foldMove c m = .ok { c with tanks := tput c.tanks k { row with target := g } }))
  ∧ ∀ (s : State) (l : Link) (tag : Byte), Ready s l .foldFrame →
    (∀ below a b, s.frames = below ++ [a, b] →
      Completes (.foldFrame l tag) l s (advanceTrial { s with frames := below ++ [a ++ b] })
        (replyFrame ⟨.done, encU 1 (s.frames.length - 1) ++ encU 1 s.frames.flatten.length⟩ 0x23#8 tag))
    ∧ (∀ ms c, s.frames = [ms] → foldMoves s.cond 0 ms = .ok c →
      Completes (.foldFrame l tag) l s
        { s with
          cond := c, frames := []
          eval :=
            { s.eval with
              plan := if ms = [] then s.eval.plan else { s.eval.plan with gen := s.eval.plan.gen + 1 }
              trial := { s.eval.trial with gen := s.eval.trial.gen + 1, set := none, sticky := ⟨false, false, false⟩ } }
          monitor := { s.monitor with trial := ViolationList.emptied } }
        (replyFrame ⟨.done, encU 1 0 ++ encU 1 0⟩ 0x23#8 tag))
    ∧ (∀ ms c, s.frames = [ms] → foldMoves s.cond 0 ms = .ok c → EmptiesTrial (.foldFrame l tag) s)
    ∧ (∀ ms e n, s.frames = [ms] → foldMoves s.cond 0 ms = .error (e, n) →
      Answers (.foldFrame l tag) l .foldFrame tag
        ⟨e.status, encU 1 1 ++ encU 1 ms.length ++ encU 1 n ++ encU 1 e.cause⟩ s)
    ∧ (s.frames = [] →
      Completes (.foldFrame l tag) l s (latch .trialFault .l0 s)
        (replyFrame ⟨.stackFault, encU 1 0 ++ encU 1 0 ++ encU 1 2⟩ 0x23#8 tag))

/-! ### Readouts, records and suspension -/

/-- R74, R75, R192: Read Results refuses a context, part or page that is none, and from a link other than L0 any
context but ACTUAL and any clear request; otherwise it answers the part, and a clear request then clears the three
sticky flags. R115, R118, R156, R172: Read Violations, Read Records, Read Lift Status and Read Transfers answer what
stands and change nothing; a context, page or part that is none is refused with BAD_VALUE. -/
def Obligations.ResultAndMonitorReadsComplete : Prop :=
  (∀ (s : State) (l : Link) (tag : Byte) (c part page clear : Nat),
    let r := Request.readResults c part page clear
    let i := Instr.readResults l tag c part page clear
    Ready s l r →
    (ctxOf c = none ∨ 3 < part ∨ (part ≠ 3 ∧ page ≠ 0) → Refuses i l r tag .badValue s)
    ∧ (∀ x, ctxOf c = some x → part ≤ 3 → (part ≠ 3 → page = 0) →
      (l ≠ .l0 → (x ≠ .actual ∨ clear = 1) → Refuses i l r tag .badRole s)
      ∧ ((l = .l0 ∨ (x = .actual ∧ clear ≠ 1)) →
        (part = 3 → 1 ≤ page → (pressuresIn (s.ctx x).set).length ≤ 32 * page → Refuses i l r tag .badValue s)
        ∧ ((part ≠ 3 ∨ page = 0 ∨ 32 * page < (pressuresIn (s.ctx x).set).length) →
          exec i s = .next (answered l r tag
            ⟨.done, resultsCommon x (s.ctx x) part ++ resultsPart s x part page⟩
            (if clear = 1 then
              { s with eval := s.eval.mapCtx (fun k => { k with sticky := ⟨false, false, false⟩ }) x } else s))))))
  ∧ (∀ (s : State) (l : Link) (tag : Byte),
    (∀ c page, Ready s l (.readViolations c page) →
      (ctxOf c = none ∨ 5 < page → Refuses (.readViolations l tag c page) l (.readViolations c page) tag .badValue s)
      ∧ (∀ x, ctxOf c = some x → page ≤ 5 →
        (1 ≤ page → (listOf s x).entries.length ≤ 8 * page →
          Refuses (.readViolations l tag c page) l (.readViolations c page) tag .badValue s)
        ∧ ((page = 0 ∨ 8 * page < (listOf s x).entries.length) →
          Answers (.readViolations l tag c page) l (.readViolations c page) tag
            ⟨.done, violationsPage s.settings.severity x (listOf s x) page⟩ s)))
    ∧ (Ready s l .readRecords →
      Answers (.readRecords l tag) l .readRecords tag
        ⟨.done, recordImage s.monitor.first ++ recordImage s.monitor.next ++ encU 2 s.monitor.stopCount⟩ s)
    ∧ (Ready s l .readLiftStatus →
      Answers (.readLiftStatus l tag) l .readLiftStatus tag ⟨.done, liftStatusImage s⟩ s)
    ∧ (∀ part, Ready s l (.readTransfers part) →
      (part = 0 → Answers (.readTransfers l tag part) l (.readTransfers part) tag ⟨.done, transferTableImage s⟩ s)
      ∧ (part = 1 → Answers (.readTransfers l tag part) l (.readTransfers part) tag ⟨.done, transferLogImage s⟩ s)
      ∧ (1 < part → Refuses (.readTransfers l tag part) l (.readTransfers part) tag .badValue s)))

/-- R121, R122, R145: Suspend Work enters suspension with the cause COMMANDED and the present count and latches
SUSPEND on all four links; already in force it is answered with the record unchanged. A standing clearance is
withdrawn: its cranes return to REQUESTED with the reason SUSPENDED at the head of the queue, the slot is freed,
ACTUAL advances and LIFT is latched. R124, R139, R140: Resume Work ends suspension when no standing violation of ACTUAL
is at or above the trigger: the record is emptied and SUSPEND is latched on all four links; otherwise it is answered
STILL_VIOLATED with the record and the first such pair (the record's place in that reply: log 11); with no suspension in
force it is answered DONE. When suspension ends, the gate decides its queue again at once: a lift entry is stopped by
EXCLUSIVE, STALE or WINDOW, in that order, with its demand withdrawn, or its reason stands and its prediction is
demanded; a transfer entry is stopped by STALE alone (R164). -/
def Obligations.SuspensionCommandsComplete : Prop :=
  (∀ (s : State) (l : Link) (tag : Byte), Ready s l .suspendWork →
    (∀ r, s.monitor.suspension = some r →
      Answers (.suspendWork l tag) l .suspendWork tag ⟨.done, suspensionImage (some r)⟩ s)
    ∧ (s.monitor.suspension = none → standingClearance s = none →
      Completes (.suspendWork l tag) l s
        (latchOn .suspend allLinks { s with monitor := { s.monitor with suspension := some ⟨.commanded, s.time⟩ } })
        (replyFrame ⟨.done, encU 1 1 ++ encU 1 2 ++ encU 1 0 ++ encU 2 0 ++ encU 4 s.time.toNat⟩ 0x2C#8 tag))
    ∧ (∀ r, s.monitor.suspension = none → standingClearance s = some r →
      ∃ t, exec (.suspendWork l tag) s = .next t
        ∧ t.sends l (replyFrame ⟨.done, encU 1 1 ++ encU 1 2 ++ encU 1 0 ++ encU 2 0 ++ encU 4 s.time.toNat⟩ 0x2C#8 tag)
        ∧ t.monitor.suspension = some ⟨.commanded, s.time⟩
        ∧ (∀ c ∈ r.cranes, (t.liftRec c).state = .requested ∧ (t.liftRec c).reason = some .suspended
            ∧ (t.liftRec c).counter = 0 ∧ (t.liftRec c).confirmed = none ∧ (t.liftRec c).timer = some s.time
            ∧ (t.liftRec c).lot = (s.liftRec c).lot)
        ∧ t.gate.slot = none ∧ t.gate.queue = .lift r :: s.gate.queue
        ∧ t.cond = s.cond ∧ t.eval.actual.gen = s.eval.actual.gen + 1 ∧ t.eval.plan.gen = s.eval.plan.gen
        ∧ (∀ j, (t.links.get j).notices = (s.links.get j).notices ||| Event.suspend.flag
          ||| (if j = .l0 ∨ j ∈ r.cranes.map CraneId.link then Event.lift.flag else 0#16))
        ∧ t.mode = s.mode ∧ Untouched s t))
  ∧ (∀ (s : State) (l : Link) (tag : Byte), Ready s l .resumeWork →
    (s.monitor.suspension = none →
      Answers (.resumeWork l tag) l .resumeWork tag ⟨.done, suspensionImage none⟩ s)
    ∧ (∀ r v, s.monitor.suspension = some r →
      s.monitor.actual.kept.find? (fun v => atTrigger s.settings.trigger (s.settings.severity.get v.cls)) = some v →
      Answers (.resumeWork l tag) l .resumeWork tag
        ⟨.stillViolated, suspensionImage (some r) ++ encU 1 v.cls.num ++ encU 2 v.index⟩ s)
    ∧ (∀ r, s.monitor.suspension = some r →
      (∀ v ∈ s.monitor.actual.kept, atTrigger s.settings.trigger (s.settings.severity.get v.cls) = false) →
      ∃ t, exec (.resumeWork l tag) s = .next t
        ∧ t.sends l (replyFrame ⟨.done, zeroBytes 9⟩ 0x2D#8 tag) ∧ t.monitor.suspension = none
        ∧ (∀ k, (t.links.get k).notices = (s.links.get k).notices ||| Event.suspend.flag)
        ∧ t.cond = s.cond ∧ t.gate.queue = s.gate.queue ∧ t.gate.slot = s.gate.slot
        ∧ (∀ c, (t.liftRec c).silent = (s.liftRec c).silent) ∧ t.mode = s.mode ∧ Untouched s t
        ∧ (GateSound s →
          let tainted := actualTainted s
          (∀ e, GateEntry.lift e ∈ s.gate.queue →
            let why := if s.gate.slot ≠ none then some Pending.exclusive
              else if tainted = true ∨ (∃ c ∈ e.cranes, hookFresh s c = false) then some .stale
              else if s.gate.window = false then some .window
              else none
            (∀ w, why = some w →
              (∀ c ∈ e.cranes, (t.liftRec c).reason = some w)
              ∧ DemandKey.lift e.lead ∉ t.eval.waiting ∧ t.eval.unit.predictsFor (.lift e.lead) = false)
            ∧ (why = none →
              (∀ c ∈ e.cranes, (t.liftRec c).reason = (s.liftRec c).reason)
              ∧ (DemandKey.lift e.lead ∈ t.eval.waiting ∨ t.eval.unit.predictsFor (.lift e.lead) = true)))
          ∧ (∀ id x was timer, GateEntry.transfer id ∈ s.gate.queue → tget s.ballast.transfers id = some x →
            x.phase = .requested was timer →
            let stopped := tainted = true ∨ ∃ k ∈ x.tankEnds, tankFresh s k = false
            (stopped →
              tget t.ballast.transfers id = some { x with phase := .requested .stale timer }
              ∧ DemandKey.transfer id ∉ t.eval.waiting ∧ t.eval.unit.predictsFor (.transfer id) = false)
            ∧ (¬ stopped →
              tget t.ballast.transfers id = some x
              ∧ (DemandKey.transfer id ∈ t.eval.waiting ∨ t.eval.unit.predictsFor (.transfer id) = true))))))

/-! ### Snapshots and images -/

/-- R42: Open Snapshot captures the lots, the sequence and the written tanks, clears every MODIFIED flag, releases the
snapshot held, and becomes an operation in flight; one in flight refuses it with BUSY. At completion the buffer holds
the capture and DONE with its counts fills the place kept. R43: Read Snapshot Page answers a page of the snapshot
held, STATE with none held and BAD_VALUE past the last page; Close Snapshot releases it; both are refused with BUSY
while an Open Snapshot is in flight. That the snapshot held before is released at the opening, and not at its completion,
is the model's choice (log 20). -/
def Obligations.SnapshotsOpenAndRead : Prop :=
  (∀ s : State,
    (∀ l tag, Ready s l .openSnapshot →
      (s.snapshotOp = none →
        Begins (.openSnapshot l tag) l .openSnapshot tag .snapshot s
          { s with
            snapshot := none
            snapshotOp := some
              { time := s.time, lots := s.cond.lots
                seq := s.cond.seq.map (fun e => (e, lotIsLifting s.cond.lots e.lot))
                tanks := s.ship.tanks.map (fun p => (p.1, s.tankRow p.1)) }
            cond := { s.cond with lots := s.cond.lots.map (fun p => (p.1, { p.2 with modified := false })) } })
      ∧ (s.snapshotOp ≠ none → Refuses (.openSnapshot l tag) l .openSnapshot tag .busy s))
    ∧ (s.powered = true →
      (∀ q, s.snapshotOp = some q →
        ∃ t, exec .openSnapshotCompletion s = .next t
          ∧ t.standing = ({ s with snapshot := some q, snapshotOp := none } : State).standing
          ∧ ∀ k tag, KeptPlace .snapshot k tag s → t.sends .l0 (replyFrame ⟨.done, q.counts⟩ k tag))
      ∧ (s.snapshotOp = none → exec .openSnapshotCompletion s = .next s)))
  ∧ (∀ (s : State) (l : Link) (tag : Byte),
    (∀ page, Ready s l (.readSnapshotPage page) →
      (s.snapshotOp ≠ none → Refuses (.readSnapshotPage l tag page) l (.readSnapshotPage page) tag .busy s)
      ∧ (s.snapshotOp = none → s.snapshot = none →
        Refuses (.readSnapshotPage l tag page) l (.readSnapshotPage page) tag .state s)
      ∧ (∀ q, s.snapshotOp = none → s.snapshot = some q →
        (q.pageCount ≤ page → Refuses (.readSnapshotPage l tag page) l (.readSnapshotPage page) tag .badValue s)
        ∧ (page < q.pageCount → ∃ bytes, q.pages[page]? = some bytes
          ∧ Answers (.readSnapshotPage l tag page) l (.readSnapshotPage page) tag ⟨.done, bytes⟩ s)))
    ∧ (Ready s l .closeSnapshot →
      (s.snapshotOp ≠ none → Refuses (.closeSnapshot l tag) l .closeSnapshot tag .busy s)
      ∧ (s.snapshotOp = none →
        Completes (.closeSnapshot l tag) l s { s with snapshot := none } (replyFrame (Reply.bare .done) 0x32#8 tag))))

/-- R44: Write Image Page stores a page of 224 bytes; page 0 first marks every other page absent; another length is
refused with BAD_FORM and a page above 78 with BAD_VALUE. R45, R46, R40: Apply Image is refused with STATE unless
both cranes are IDLE, no transfer is in the table and the trial stack is empty; a failing check is answered BAD_IMAGE
with the part and the index; otherwise the condition is replaced in one step, the lots in slots from 0 on, the image
buffer is emptied, and ACTUAL and PLAN advance. An applied image always advances both (log 13). -/
def Obligations.ImagesAreWrittenAndApplied : Prop :=
  (∀ (s : State) (l : Link) (tag : Byte) (page : Nat) (data : List Byte), Ready s l (.writeImagePage page data) →
    (data.length ≠ 224 → Refuses (.writeImagePage l tag page data) l (.writeImagePage page data) tag .badForm s)
    ∧ (data.length = 224 → 78 < page →
      Refuses (.writeImagePage l tag page data) l (.writeImagePage page data) tag .badValue s)
    ∧ (data.length = 224 → page ≤ 78 →
      Completes (.writeImagePage l tag page data) l s
        { s with image := if page = 0 then [(0, data)] else tput s.image page data }
        (replyFrame (Reply.bare .done) 0x33#8 tag)))
  ∧ (∀ (s : State) (l : Link) (tag : Byte), Ready s l .applyImage →
    (((∃ c, (s.liftRec c).state ≠ .idle) ∨ s.ballast.transfers ≠ [] ∨ s.frames ≠ []) →
      Refuses (.applyImage l tag) l .applyImage tag .state s)
    ∧ ((∀ c, (s.liftRec c).state = .idle) → s.ballast.transfers = [] → s.frames = [] →
      (∀ e, readImage s.ship s.image = .error e →
        Answers (.applyImage l tag) l .applyImage tag ⟨.badImage, encU 1 e.part ++ encU 2 e.index⟩ s)
      ∧ (∀ c, readImage s.ship s.image = .ok c →
        Completes (.applyImage l tag) l s
          (advance true true
            { s with
              image := []
              cond :=
                { s.cond with
                  lots := c.lots.zipIdx.map (fun p => (p.2, p.1)), seq := c.seq
                  tanks := s.ship.tanks.map (fun p => (p.1, tankApplied c.tanks p.1 (s.tankRow p.1))) } })
          (replyFrame (Reply.bare .done) 0x34#8 tag))))

/-! ### Crane lifts -/

/-- R133: the checks of Request Lift in their order, each with its status. R133 to R135, R138, R139: an accepted
request makes the lot LIFTING with its origin, direction and crane and its MODIFIED flag set, advances ACTUAL and
PLAN and is answered ACCEPTED with the deviation mark. A single request joins the tail of the queue as REQUESTED with
its timer started and the reason of the first step that stops it (under suspension too EXCLUSIVE comes first, log 18);
a lead request waits in PAIRING and joins no queue. -/
def Obligations.RequestLiftCompletes : Prop :=
  (∀ (s : State) (l : Link) (tag : Byte) (a : RequestLiftArgs), Ready s l (.requestLift a) →
    let c := craneOf l
    let no := fun st => Refuses (.requestLift l tag a) l (.requestLift a) tag st s
    (liftValuesOk s.ship c a = false → no .badValue)
    ∧ (liftValuesOk s.ship c a = true →
      (s.craneAbsent c = true ∨ (a.tandem.isSome = true ∧ s.craneAbsent c.opposite = true) → no .badRole)
      ∧ (s.craneAbsent c = false → (a.tandem.isSome = true → s.craneAbsent c.opposite = false) →
        ((s.liftRec c).state ≠ .idle → no .state)
        ∧ ((s.liftRec c).state = .idle →
          (findLot s.cond.lots a.lot = none → no .notFound)
          ∧ (∀ n k dir, findLot s.cond.lots a.lot = some (n, k) → dirOf a.dir = some dir →
            (a.tandem = none ∨ k.state.isLifting = false → liftable k dir = false → no .state)
            ∧ (liftable k dir = true → (∃ t, a.tandem = some t ∧ k.declared ≤ t.share) → no .badValue)
            ∧ (liftable k dir = true → (∀ t, a.tandem = some t → t.share < k.declared) → deviates s a.lot = true →
              (s.settings.severity.get .c13).atLeast s.settings.gateThreshold = true → no .sequence))))))
  ∧ (∀ (s : State) (l : Link) (tag : Byte) (a : RequestLiftArgs) (n : Nat) (k : Lot) (dir : Direction),
    Ready s l (.requestLift a) →
    let c := craneOf l
    liftValuesOk s.ship c a = true → s.craneAbsent c = false →
    (a.tandem.isSome = true → s.craneAbsent c.opposite = false) →
    (s.liftRec c).state = .idle → findLot s.cond.lots a.lot = some (n, k) → dirOf a.dir = some dir →
    liftable k dir = true → (∀ t, a.tandem = some t → t.share < k.declared) →
    (deviates s a.lot && (s.settings.severity.get .c13).atLeast s.settings.gateThreshold) = false →
    (∀ r, GateEntry.lift r ∈ s.gate.queue → c ∉ r.cranes) →
    ∃ t, exec (.requestLift l tag a) s = .next t
      ∧ t.sends l (replyFrame ⟨.accepted, flagsByte [deviates s a.lot]⟩ 0x40#8 tag)
      ∧ t.cond =
          { s.cond with
            lots := tput s.cond.lots n
              { k with
                state := .lifting dir.origin dir (decide (c = .one)) (decide (c = .two)), modified := true } }
      ∧ (t.liftRec c).silent = LiftRecord.silent
          { s.liftRec c with
            state := if a.tandem.isSome then .pairing else .requested
            role := some (if a.tandem.isSome then .lead else .single)
            lot := some ⟨a.lot, n⟩, dir := some dir, worst := some a.worst
            plan := if dir = .load then some (a.landing.getD k.loc) else none
            other := a.tandem.map (fun _ => c.opposite), share := a.tandem.map TandemArgs.share
            deviation := deviates s a.lot, confirmed := none, landing := none, setDownTip := none
            timer := some s.time }
      ∧ (t.liftRec c).reason =
          (if a.tandem.isSome then none else some ((liftStop s ⟨c, none⟩ (actualTainted s)).getD .none))
      ∧ (t.liftRec c.opposite).silent = (s.liftRec c.opposite).silent
      ∧ t.gate.queue = s.gate.queue ++ (if a.tandem.isSome then [] else [.lift ⟨c, none⟩])
      ∧ t.gate.slot = s.gate.slot ∧ t.eval.actual.gen = s.eval.actual.gen + 1
      ∧ t.eval.plan.gen = s.eval.plan.gen + 1 ∧ t.mode = s.mode ∧ Untouched s t)

/-- R137: a partner request that names the lead's lot and direction, and whose share with the lead's makes the
declared mass, pairs the cranes: both are REQUESTED in one entry at the tail of the queue, the lot's cranes become
both, ACTUAL advances and LIFT is latched; a request that does not match is refused with STATE and a wrong share with
BAD_VALUE. The deviation mark 0 of the reply is the model's reading (log 10). -/
def Obligations.PartnerRequestCompletes : Prop :=
  ∀ (s : State) (l : Link) (tag : Byte) (a : RequestLiftArgs) (x : TandemArgs) (n : Nat) (k : Lot) (dir : Direction),
    Ready s l (.requestLift a) →
    let c := craneOf l
    let lead := s.liftRec c.opposite
    liftValuesOk s.ship c a = true → s.craneAbsent c = false → s.craneAbsent c.opposite = false →
    (s.liftRec c).state = .idle → findLot s.cond.lots a.lot = some (n, k) → dirOf a.dir = some dir →
    a.tandem = some x → k.state.isLifting = true →
    (partnerMatches lead c a.lot dir = false → Refuses (.requestLift l tag a) l (.requestLift a) tag .state s)
    ∧ (partnerMatches lead c a.lot dir = true → lead.share.getD 0 + x.share ≠ k.declared →
      Refuses (.requestLift l tag a) l (.requestLift a) tag .badValue s)
    ∧ (partnerMatches lead c a.lot dir = true → lead.share.getD 0 + x.share = k.declared →
      ∃ t, exec (.requestLift l tag a) s = .next t
        ∧ t.sends l (replyFrame ⟨.accepted, flagsByte [false]⟩ 0x40#8 tag)
        ∧ t.cond = { s.cond with lots := tput s.cond.lots n k.tandem }
        ∧ (t.liftRec c).state = .requested ∧ (t.liftRec c).role = some .partner
        ∧ (t.liftRec c).lot = some ⟨a.lot, n⟩ ∧ (t.liftRec c).worst = some a.worst
        ∧ (t.liftRec c).share = some x.share ∧ (t.liftRec c).other = some c.opposite
        ∧ (t.liftRec c).timer = some s.time
        ∧ (t.liftRec c.opposite).silent = LiftRecord.silent { lead with state := .requested, timer := some s.time }
        ∧ t.gate.queue = s.gate.queue ++ [.lift ⟨c.opposite, some c⟩] ∧ t.gate.slot = s.gate.slot
        ∧ (∀ j, (t.links.get j).notices = (s.links.get j).notices
            ||| (if j = .l3 then 0#16 else Event.lift.flag))
        ∧ t.eval.actual.gen = s.eval.actual.gen + 1 ∧ t.eval.plan.gen = s.eval.plan.gen
        ∧ t.mode = s.mode ∧ Untouched s t)

/-- R147: Cancel Lift ends a lift in PAIRING, REQUESTED or CLEARED with the outcome CANCELLED, and is refused with
STATE in any other state. R136, R144, R146: the pairing timeout, the request timeout and the lapse of a clearance
each end the lift of their crane with the outcome TIMEOUT when the running timer has reached its period, and
otherwise are not due (log 6). The record is emptied of the lift, the confirmed load with it; the counter, the
off-confirmed mark and the last report time stand, and the reason of a TIMEOUT is the one that its
record holds, none for a lapse or a pairing timeout (log 12). -/
def Obligations.LiftsEndUnhoisted : Prop :=
  (∀ (s : State) (l : Link) (tag : Byte), Ready s l .cancelLift →
    let c := craneOf l
    ((s.liftRec c).state.cancellable = true →
      ∃ t, exec (.cancelLift l tag) s = .next t ∧ t.sends l (replyFrame (Reply.bare .done) 0x41#8 tag)
        ∧ Released (liftOf s c) .cancelled s t)
    ∧ ((s.liftRec c).state.cancellable = false →
      Refuses (.cancelLift l tag) l .cancelLift tag .state s))
  ∧ (∀ s : State, s.powered = true →
    (∀ c, timerDue s c .pairing s.settings.pairingTimeout = true →
      ∃ t, exec (.pairingTimeout c) s = .next t ∧ Released (liftOf s c) .timeout s t)
    ∧ (∀ c, timerDue s c .pairing s.settings.pairingTimeout = false → exec (.pairingTimeout c) s = .next s)
    ∧ (∀ c, timerDue s c .requested s.settings.requestTimeout = true →
      ∃ t, exec (.requestTimeout c) s = .next t ∧ Released (liftOf s c) .timeout s t)
    ∧ (∀ c, timerDue s c .requested s.settings.requestTimeout = false → exec (.requestTimeout c) s = .next s)
    ∧ (∀ r, s.gate.slot = some r → liftOf s r.lead = r →
      (timerDue s r.lead .cleared s.settings.clearanceValid = true →
        ∃ t, exec .clearanceLapse s = .next t ∧ Released r .timeout s t ∧ t.gate.slot = none)
      ∧ (timerDue s r.lead .cleared s.settings.clearanceValid = false → exec .clearanceLapse s = .next s))
    ∧ (s.gate.slot = none → exec .clearanceLapse s = .next s))

/-- R149, R160: a crane past REQUESTED whose last report has reached the stale period becomes stale, and so does a
tank of a GRANTED transfer whose reading has: STALE is latched on the crane's link, or on L3, and on L0, and ACTUAL
advances. Staleness is kept as last judged (log 7); an event not due leaves the state (log 6). -/
def Obligations.StalenessIsNoted : Prop :=
  ∀ s : State, s.powered = true →
    (∀ c, craneStaleNow s c = true → s.gate.stale.get c = false →
      Becomes (.craneBecomesStale c) s
        (advanceActual (latchOn .stale [c.link, .l0]
          { s with gate := { s.gate with stale := s.gate.stale.set c true } })))
    ∧ (∀ c, craneStaleNow s c = false ∨ s.gate.stale.get c = true → exec (.craneBecomesStale c) s = .next s)
    ∧ (∀ k, tankStaleNow s k = true → (s.tankRow k).stale = false →
      Becomes (.tankBecomesStale k) s
        (advanceActual (latchOn .stale [.l3, .l0]
          (s.setTanks (tput s.cond.tanks k { s.tankRow k with stale := true })))))
    ∧ (∀ k, tankStaleNow s k = false ∨ (s.tankRow k).stale = true → exec (.tankBecomesStale k) s = .next s)

/-- R148: a report of an absent crane is refused with BAD_ROLE; one that is not plausible is answered as discarded
with the crane's state and counter and changes nothing; every other one moves the hook item, refreshes the crane,
which ceases to be stale, and advances ACTUAL. In IDLE, PAIRING, REQUESTED and SET_DOWN it does no more. The order of
the two refusals is the model's (log 14). -/
def Obligations.HookReportsMoveTheHook : Prop :=
  ∀ (s : State) (l : Link) (tag : Byte) (load : Nat) (tip : Pos), Ready s l (.hookReport load tip) →
    let c := craneOf l
    let r := Request.hookReport load tip
    let i := Instr.hookReport l tag load tip
    (s.craneAbsent c = true → Refuses i l r tag .badRole s)
    ∧ (s.craneAbsent c = false → plausible load tip = false →
      Answers i l r tag ⟨.done, encU 1 0 ++ encU 1 (s.liftRec c).state.code ++ encU 1 (s.liftRec c).counter⟩ s)
    ∧ (s.craneAbsent c = false → plausible load tip = true →
      (∃ t, exec i s = .next t ∧ t.cond.hooks = s.cond.hooks.set c ⟨load, tip⟩
        ∧ (t.liftRec c).lastReport = some s.time ∧ t.gate.stale.get c = false
        ∧ t.eval.actual.gen = s.eval.actual.gen + 1 ∧ t.cond.tanks = s.cond.tanks ∧ t.mode = s.mode
        ∧ Untouched s t)
      ∧ ((s.liftRec c).state ∈ [.idle, .pairing, .requested, .setDown] →
        Completes i l s
          (advanceActual
            { s with
              cond := { s.cond with hooks := s.cond.hooks.set c ⟨load, tip⟩ }
              gate :=
                { s.gate with
                  recs := s.gate.recs.set c { s.liftRec c with lastReport := some s.time }
                  stale := s.gate.stale.set c false } })
          (replyFrame ⟨.done, encU 1 1 ++ encU 1 (s.liftRec c).state.code ++ encU 1 (s.liftRec c).counter⟩
            0x42#8 tag)))

/-- R150, R145: in CLEARED, a report of at least the load-on fraction of the expected mass raises a single crane's
counter and any other report clears it; at the confirmation count the lift is HOISTED, the counter is 0, the load is
the lot's measured mass, DISCREPANCY is judged against the tolerance, and LIFT is latched. R150, R145, tandem: the
crane whose load-on is confirmed first keeps its confirming load and stays CLEARED; at the other crane's confirmation
both are HOISTED, the measured mass is the sum of the two confirming loads and LIFT is latched; either crane, lead or
partner, may be the first. -/
def Obligations.LoadOnIsConfirmed : Prop :=
  (∀ (s : State) (l : Link) (tag : Byte) (load : Nat) (tip : Pos) (lr : LotRef) (k : Lot),
    Ready s l (.hookReport load tip) →
    let c := craneOf l
    let r := s.liftRec c
    let q := decide (s.settings.onFraction * k.declared ≤ load * 1000)
    let m := if q then r.counter + 1 else 0
    s.craneAbsent c = false → plausible load tip = true → r.state = .cleared → r.role = some .single →
    r.lot = some lr → tget s.cond.lots lr.slot = some k → r.confirmed = none → 1 ≤ s.settings.confirmCount →
    ∃ t, exec (.hookReport l tag load tip) s = .next t
      ∧ (m < s.settings.confirmCount →
        (t.liftRec c) = { r with counter := m, lastReport := some s.time } ∧ t.cond.lots = s.cond.lots
        ∧ t.sends l (replyFrame ⟨.done, encU 1 1 ++ encU 1 3 ++ encU 1 m⟩ 0x42#8 tag))
      ∧ (s.settings.confirmCount ≤ m →
        (t.liftRec c) = { r with
          state := .hoisted, counter := 0, confirmed := none, timer := none, lastReport := some s.time }
        ∧ t.cond.lots = tput s.cond.lots lr.slot
          { k with
            measured := some load, modified := true
            discrepancy := decide (s.settings.discrepancyTol * k.declared
              < ((load - k.declared) + (k.declared - load)) * 1000) }
        ∧ t.sends l (replyFrame ⟨.done, encU 1 1 ++ encU 1 4 ++ encU 1 0⟩ 0x42#8 tag)
        ∧ (∀ j, (t.links.get j).notices = (s.links.get j).notices
            ||| (if j = .l0 ∨ j = c.link then Event.lift.flag else 0#16)))
      ∧ t.gate.slot = s.gate.slot ∧ t.gate.queue = s.gate.queue ∧ t.cond.seq = s.cond.seq)
  ∧ (∀ (s : State) (l : Link) (tag : Byte) (load : Nat) (tip : Pos) (lr : LotRef) (k : Lot) (share : Nat),
    Ready s l (.hookReport load tip) →
    let c := craneOf l
    let o := c.opposite
    s.craneAbsent c = false → plausible load tip = true →
    (s.liftRec c).state = .cleared → (s.liftRec o).state = .cleared →
    (s.liftRec c).role = some .lead → (s.liftRec o).role = some .partner → (s.liftRec c).other = some o →
    (s.liftRec o).other = some c → (s.liftRec c).share = some share → (s.liftRec c).lot = some lr →
    tget s.cond.lots lr.slot = some k → (s.liftRec c).confirmed = none →
    s.settings.onFraction * share ≤ load * 1000 → s.settings.confirmCount ≤ (s.liftRec c).counter + 1 →
    ∃ t, exec (.hookReport l tag load tip) s = .next t
      ∧ ((s.liftRec o).confirmed = none →
        (t.liftRec c).state = .cleared ∧ (t.liftRec c).confirmed = some load
        ∧ (t.liftRec c).counter = (s.liftRec c).counter + 1
        ∧ t.liftRec o = s.liftRec o ∧ t.cond.lots = s.cond.lots)
      ∧ (∀ first, (s.liftRec o).confirmed = some first →
        (∀ j, (t.liftRec j).state = .hoisted ∧ (t.liftRec j).confirmed = none ∧ (t.liftRec j).counter = 0)
        ∧ t.cond.lots = tput s.cond.lots lr.slot
          { k with
            measured := some (load + first), modified := true
            discrepancy := discrepancyOf s.settings.discrepancyTol (load + first) k.declared }))
  ∧ (∀ (s : State) (l : Link) (tag : Byte) (load : Nat) (tip : Pos) (lr : LotRef) (k : Lot) (share : Nat)
      (lead : CraneId),
    Ready s l (.hookReport load tip) →
    let c := craneOf l
    let o := c.opposite
    let m := if s.settings.onFraction * share ≤ load * 1000 then (s.liftRec c).counter + 1 else 0
    s.craneAbsent c = false → plausible load tip = true →
    (s.liftRec c).state = .cleared → (s.liftRec o).state = .cleared →
    (s.liftRec lead).role = some .lead → (s.liftRec lead.opposite).role = some .partner →
    (s.liftRec c).share = some share → (s.liftRec lead).lot = some lr → tget s.cond.lots lr.slot = some k →
    (s.liftRec c).confirmed = none →
    ∃ t, exec (.hookReport l tag load tip) s = .next t
      ∧ (m < s.settings.confirmCount →
        t.liftRec c = { s.liftRec c with counter := m, lastReport := some s.time }
        ∧ t.liftRec o = s.liftRec o ∧ t.cond.lots = s.cond.lots
        ∧ t.sends l (replyFrame ⟨.done, encU 1 1 ++ encU 1 3 ++ encU 1 m⟩ 0x42#8 tag))
      ∧ (s.settings.confirmCount ≤ m → (s.liftRec o).confirmed = none →
        t.liftRec c = { s.liftRec c with counter := m, confirmed := some load, lastReport := some s.time }
        ∧ t.liftRec o = s.liftRec o ∧ t.cond.lots = s.cond.lots)
      ∧ (∀ first, s.settings.confirmCount ≤ m → (s.liftRec o).confirmed = some first →
        (∀ j, (t.liftRec j).state = .hoisted ∧ (t.liftRec j).confirmed = none ∧ (t.liftRec j).counter = 0
          ∧ (t.liftRec j).timer = none ∧ (t.liftRec j).lot = (s.liftRec j).lot)
        ∧ t.cond.lots = tput s.cond.lots lr.slot
          { k with
            measured := some (load + first), modified := true
            discrepancy := decide (s.settings.discrepancyTol * k.declared
              < ((load + first - k.declared) + (k.declared - (load + first))) * 1000) }
        ∧ t.sends l (replyFrame ⟨.done, encU 1 1 ++ encU 1 4 ++ encU 1 0⟩ 0x42#8 tag)
        ∧ (∀ j, (t.links.get j).notices = (s.links.get j).notices
            ||| (if j = .l3 then 0#16 else Event.lift.flag)))
      ∧ t.gate.slot = s.gate.slot ∧ t.gate.queue = s.gate.queue ∧ t.cond.seq = s.cond.seq)

/-- R151, R153: in HOISTED or LOWERING, a report of at most the load-off fraction of the measured mass raises a
single crane's counter and any other report clears it; at the confirmation count a HOISTED lift is SET_DOWN with the
tip of the report kept, and a LOWERING one completes. R151, tandem: each crane is tested by its share; the crane whose
load-off is confirmed first is marked off-confirmed and keeps its state; at the other crane's confirmation both are
SET_DOWN with the lead's tip kept, or the LOWERING lift completes, and LIFT is latched. That a crane marked so is tested
no more is the model's reading (log 12). -/
def Obligations.LoadOffIsConfirmed : Prop :=
  (∀ (s : State) (l : Link) (tag : Byte) (load : Nat) (tip : Pos) (lr : LotRef) (k : Lot) (dir : Direction)
    (place : Landing),
    Ready s l (.hookReport load tip) →
    let c := craneOf l
    let r := s.liftRec c
    let q := decide (load * 1000 ≤ s.settings.offFraction * k.measured.getD 0)
    let m := if q then r.counter + 1 else 0
    s.craneAbsent c = false → plausible load tip = true → (r.state = .hoisted ∨ r.state = .lowering) →
    r.role = some .single → r.lot = some lr → r.dir = some dir → tget s.cond.lots lr.slot = some k →
    r.offConfirmed = false → (r.state = .lowering → r.landing = some place) →
    ∃ t, exec (.hookReport l tag load tip) s = .next t
      ∧ (m < s.settings.confirmCount →
        (t.liftRec c) = { r with counter := m, lastReport := some s.time } ∧ t.cond.lots = s.cond.lots
        ∧ t.gate.slot = s.gate.slot)
      ∧ (s.settings.confirmCount ≤ m → r.state = .hoisted →
        (t.liftRec c) = { r with
          state := .setDown, counter := 0, offConfirmed := false, setDownTip := some tip, lastReport := some s.time }
        ∧ t.cond.lots = s.cond.lots ∧ t.gate.slot = s.gate.slot)
      ∧ (s.settings.confirmCount ≤ m → r.state = .lowering →
        (t.liftRec c).state = .idle ∧ (t.liftRec c).lot = none
        ∧ (t.liftRec c).lastOutcome = some { kind := .completed, lot := lr.id, reason := none }
        ∧ t.eval.plan.gen = s.eval.plan.gen + 1
        ∧ (s.gate.slot = some ⟨c, none⟩ → t.gate.slot = none)
        ∧ (dir = .load → ∀ loc, place = .aboard loc →
          t.cond.lots = tput s.cond.lots lr.slot { k with state := .aboard, loc := loc, modified := true }
          ∧ t.cond.seq = s.cond.seq.filter (fun e => decide (¬ (e.lot = lr.id ∧ e.dir = .load))))
        ∧ (dir = .load → place = .ashore →
          t.cond.lots = tput s.cond.lots lr.slot { k with state := .planned, modified := true }
          ∧ t.cond.seq = s.cond.seq)
        ∧ (dir = .discharge → place = .ashore →
          t.cond.lots = tdrop s.cond.lots lr.slot
          ∧ t.cond.seq = s.cond.seq.filter (fun e => decide (¬ (e.lot = lr.id ∧ e.dir = .discharge))))
        ∧ (dir = .discharge → ∀ loc, place = .aboard loc →
          t.cond.lots = tput s.cond.lots lr.slot { k with state := .aboard, loc := loc, modified := true }
          ∧ t.cond.seq = s.cond.seq)
        ∧ Landed ⟨c, none⟩ dir place lr k s t))
  ∧ (∀ (s : State) (l : Link) (tag : Byte) (load : Nat) (tip : Pos) (lr : LotRef) (k : Lot) (dir : Direction)
      (place : Landing) (share : Nat) (lead : CraneId),
    Ready s l (.hookReport load tip) →
    let c := craneOf l
    let o := c.opposite
    let st := (s.liftRec c).state
    let m := if load * 1000 ≤ s.settings.offFraction * share then (s.liftRec c).counter + 1 else 0
    let down := if lead = c then tip else (s.cond.hooks.get lead).tip
    s.craneAbsent c = false → plausible load tip = true → (st = .hoisted ∨ st = .lowering) →
    (s.liftRec o).state = st → (s.liftRec lead).role = some .lead → (s.liftRec lead.opposite).role = some .partner →
    (s.liftRec c).share = some share → (s.liftRec lead).lot = some lr → (s.liftRec lead).dir = some dir →
    tget s.cond.lots lr.slot = some k → (s.liftRec c).offConfirmed = false →
    (st = .lowering → (s.liftRec lead).landing = some place) →
    ∃ t, exec (.hookReport l tag load tip) s = .next t
      ∧ t.cond.hooks = s.cond.hooks.set c ⟨load, tip⟩
      ∧ (m < s.settings.confirmCount →
        t.liftRec c = { s.liftRec c with counter := m, lastReport := some s.time }
        ∧ t.liftRec o = s.liftRec o ∧ t.cond.lots = s.cond.lots ∧ t.gate.slot = s.gate.slot)
      ∧ (s.settings.confirmCount ≤ m → (s.liftRec o).offConfirmed = false →
        t.liftRec c = { s.liftRec c with counter := m, offConfirmed := true, lastReport := some s.time }
        ∧ t.liftRec o = s.liftRec o ∧ t.cond.lots = s.cond.lots ∧ t.gate.slot = s.gate.slot)
      ∧ (s.settings.confirmCount ≤ m → (s.liftRec o).offConfirmed = true → st = .hoisted →
        t.liftRec c = { s.liftRec c with
          state := .setDown, counter := 0, offConfirmed := false, setDownTip := some down
          lastReport := some s.time }
        ∧ t.liftRec o = { s.liftRec o with
          state := .setDown, counter := 0, offConfirmed := false, setDownTip := some down }
        ∧ t.cond.lots = s.cond.lots ∧ t.gate.slot = s.gate.slot
        ∧ (∀ j, (t.links.get j).notices = (s.links.get j).notices
            ||| (if j = .l3 then 0#16 else Event.lift.flag)))
      ∧ (s.settings.confirmCount ≤ m → (s.liftRec o).offConfirmed = true → st = .lowering →
        Landed ⟨lead, some lead.opposite⟩ dir place lr k s t))

/-- R152, R153: a Landing Report of a HOISTED single or lead crane records the landing and every crane of its lift is
LOWERING; of a SET_DOWN one it completes the lift for every crane of it; of a partner it is answered DONE with no
effect; in any other state it is refused with STATE, and a landing that fails its tests with BAD_VALUE. A carried location is tested wherever the load landed
(log 14). -/
def Obligations.LandingReportCompletes : Prop :=
  ∀ (s : State) (l : Link) (tag : Byte) (a : LandingArgs), Ready s l (.landingReport a) →
    let c := craneOf l
    let r := Request.landingReport a
    let i := Instr.landingReport l tag a
    (landingOk s.ship a = false → Refuses i l r tag .badValue s)
    ∧ (landingOk s.ship a = true →
      ((s.liftRec c).state ≠ .hoisted → (s.liftRec c).state ≠ .setDown → Refuses i l r tag .state s)
      ∧ ((s.liftRec c).state = .hoisted ∨ (s.liftRec c).state = .setDown → (s.liftRec c).role = some .partner →
        Answers i l r tag (Reply.bare .done) s)
      ∧ ((s.liftRec c).state = .hoisted → (s.liftRec c).role = some .single →
        Completes i l s
          (advanceActual (latchLift [c]
            { s with gate := { s.gate with
              recs := s.gate.recs.set c
                { s.liftRec c with state := .lowering, landing := some (reportedLanding a) } } }))
          (replyFrame (Reply.bare .done) 0x43#8 tag))
      ∧ ((s.liftRec c).state = .setDown → (s.liftRec c).role = some .single →
        ∃ t, exec i s = .next t ∧ t.sends l (replyFrame (Reply.bare .done) 0x43#8 tag)
          ∧ (t.liftRec c).state = .idle
          ∧ (t.liftRec c).lastOutcome = some
              { kind := .completed, lot := codeOr LotRef.id (s.liftRec c).lot, reason := none }
          ∧ (s.gate.slot = some ⟨c, none⟩ → t.gate.slot = none)
          ∧ t.eval.actual.gen = s.eval.actual.gen + 1 ∧ t.eval.plan.gen = s.eval.plan.gen + 1
          ∧ (∀ lr k loc, (s.liftRec c).lot = some lr → (s.liftRec c).dir = some .load →
            tget s.cond.lots lr.slot = some k → a.aboard = true → a.location = some loc →
            t.cond.lots = tput s.cond.lots lr.slot { k with state := .aboard, loc := loc, modified := true })
          ∧ (∀ lr, (s.liftRec c).lot = some lr → (s.liftRec c).dir = some .discharge → a.aboard = false →
            t.cond.lots = tdrop s.cond.lots lr.slot))
      ∧ (∀ place, (a.aboard = true → a.location.map Landing.aboard = some place) →
        (a.aboard = false → place = .ashore) →
        ((s.liftRec c).state = .hoisted → (s.liftRec c).role = some .lead →
          Completes i l s
            (advanceActual (latchLift [c, c.opposite]
              { s with gate := { s.gate with
                recs := (s.gate.recs.set c { s.liftRec c with state := .lowering, landing := some place }).set
                  c.opposite { s.liftRec c.opposite with state := .lowering } } }))
            (replyFrame (Reply.bare .done) 0x43#8 tag))
        ∧ (∀ lr k dir, (s.liftRec c).state = .setDown →
          ((s.liftRec c).role = some .single ∨ (s.liftRec c).role = some .lead) → (s.liftRec c).lot = some lr →
          (s.liftRec c).dir = some dir → tget s.cond.lots lr.slot = some k →
          ∃ t, exec i s = .next t ∧ t.sends l (replyFrame (Reply.bare .done) 0x43#8 tag)
            ∧ t.cond.hooks = s.cond.hooks
            ∧ Landed ⟨c, if (s.liftRec c).role = some .lead then some c.opposite else none⟩ dir place lr k s t)))

/-! ### Tank reports and ballast transfers -/

/-- R157, R158, R159: a Tank Report of one reading: a density out of range and an unwritten tank are discarded and
change nothing; a reading is recorded with the source GAUGED and the present count, at the capacity with CLAMPED set
when it is above it; the tank is not stale, ACTUAL advances, and PLAN when the tank has no target. A wrong form is
refused with BAD_FORM. R157: of several readings, each is judged on its own, and the reply counts those taken and
those clamped and names the outcome of each; a tank ends with the last reading taken of it, the other tanks stand,
and ACTUAL advances once, PLAN once when a reading taken is of a tank without a target; transfers with no reading taken
of a tank end stand. When none is taken nothing changes. -/
def Obligations.TankReportCompletes : Prop :=
  (∀ (s : State) (l : Link) (tag : Byte) (p : List Byte), Ready s l (.tankReport p) →
    (readingsOf p = none → Refuses (.tankReport l tag p) l (.tankReport p) tag .badForm s)
    ∧ (∀ x, readingsOf p = some [x] →
      (densityOk x.density = false →
        Answers (.tankReport l tag p) l (.tankReport p) tag ⟨.done, encU 1 0 ++ encU 1 0 ++ encU 1 2⟩ s)
      ∧ (densityOk x.density = true → tget s.ship.tanks x.tank = none →
        Answers (.tankReport l tag p) l (.tankReport p) tag ⟨.done, encU 1 0 ++ encU 1 0 ++ encU 1 3⟩ s)
      ∧ (∀ g, densityOk x.density = true → tget s.ship.tanks x.tank = some g → grantedFor s x.tank = none →
        let cap := g.capacity * x.density / 1000
        Completes (.tankReport l tag p) l s
          (advance true (s.tankRow x.tank).target.isNone (s.setTanks (tput s.cond.tanks x.tank
            { s.tankRow x.tank with
              contents := min x.contents cap, density := x.density, source := .gauged, time := s.time
              clamped := decide (cap < x.contents), stale := false })))
          (replyFrame
            ⟨.done, encU 1 1 ++ encU 1 (beBool (decide (cap < x.contents)))
              ++ encU 1 (beBool (decide (cap < x.contents)))⟩ 0x48#8 tag))))
  ∧ (∀ (s : State) (l : Link) (tag : Byte) (p : List Byte) (rs : List Reading), Ready s l (.tankReport p) →
    readingsOf p = some rs →
    ∃ t, exec (.tankReport l tag p) s = .next t
      ∧ t.sends l (replyFrame
          ⟨.done, encU 1 (rs.countP (fun r => (judgeReading s.ship r).taken))
            ++ encU 1 (rs.countP (fun r => decide (judgeReading s.ship r = .clamped)))
            ++ (rs.map (fun r => encU 1 (judgeReading s.ship r).code)).flatten⟩ 0x48#8 tag)
      ∧ t.cond.lots = s.cond.lots ∧ t.cond.seq = s.cond.seq ∧ t.cond.hooks = s.cond.hooks
      ∧ (∀ k, (∀ r ∈ rs, r.tank = k → (judgeReading s.ship r).taken = false) → t.tankRow k = s.tankRow k)
      ∧ (∀ k g x, tget s.ship.tanks k = some g →
        (rs.filter (fun r => decide (r.tank = k) && densityOk r.density)).getLast? = some x →
        let cap := g.capacity * x.density / 1000
        t.tankRow k =
          { s.tankRow k with
            contents := min x.contents cap, density := x.density, source := .gauged, time := s.time
            clamped := decide (cap < x.contents), stale := false })
      ∧ t.eval.plan.gen =
          (if rs.any (fun r => (judgeReading s.ship r).taken && (s.tankRow r.tank).target.isNone) then
            s.eval.plan.gen + 1
          else s.eval.plan.gen)
      ∧ t.ballast.log = s.ballast.log ∧ t.ballast.nextId = s.ballast.nextId
      ∧ ((∀ r ∈ rs, (judgeReading s.ship r).taken = true → grantedFor s r.tank = none) → t.ballast = s.ballast)
      ∧ t.gate.queue = s.gate.queue ∧ t.gate.slot = s.gate.slot ∧ t.gate.recs = s.gate.recs
      ∧ t.gate.window = s.gate.window ∧ t.gate.stale = s.gate.stale
      ∧ t.monitor.suspension = s.monitor.suspension ∧ (∀ x, listOf t x = listOf s x)
      ∧ ((∀ r ∈ rs, (judgeReading s.ship r).taken = false) →
        Answers (.tankReport l tag p) l (.tankReport p) tag
          ⟨.done, encU 1 0 ++ encU 1 0 ++ (rs.map (fun r => encU 1 (judgeReading s.ship r).code)).flatten⟩ s)
      ∧ t.eval.actual.gen = (if rs.any (fun r => (judgeReading s.ship r).taken) then s.eval.actual.gen + 1
          else s.eval.actual.gen)
      ∧ t.mode = s.mode ∧ Untouched s t)

/-- R168: an accepted reading of the source of a GRANTED transfer, or of the destination when the source is the sea,
measures the transferred amount from the starting contents, a negative difference taken as 0; when the amount passes
the planned mass by more than the tolerance the overrun mark is set, and it stays set. A Tank Report that carries such a
reading is recorded as R158 says, the transfer takes that amount and mark, and TRANSFER is latched on L3 and L0 when the
mark becomes set. -/
def Obligations.TransfersAreMeasured : Prop :=
  (∀ (s : State) (k id : Nat) (t : Transfer) (ss sd : Option Nat) (time : Count32) (amount : Nat) (mark : Bool),
    (s.tankRow k).transfer = some id → tget s.ballast.transfers id = some t →
    t.phase = .granted ss sd time amount mark →
    let m := amountAfter t ss sd amount k (s.tankRow k).contents
    (tget (measure k s).ballast.transfers id = some
        { t with
          phase := .granted ss sd time m
            (mark || decide (t.planned * (1000 + s.settings.overrunTol) < m * 1000)) })
    ∧ (t.source = .tank k → m = ss.getD 0 - (s.tankRow k).contents)
    ∧ (t.source = .sea → m = (s.tankRow k).contents - sd.getD 0)
    ∧ (∀ j, t.source = .tank j → j ≠ k → m = amount)
    ∧ (measure k s).cond = s.cond ∧ (measure k s).gate = s.gate)
  ∧ (∀ (s : State) (l : Link) (tag : Byte) (p : List Byte) (x : Reading) (g : TankGeom) (id : Nat) (t : Transfer)
      (ss sd : Option Nat) (time : Count32) (amount : Nat) (mark : Bool),
    Ready s l (.tankReport p) → readingsOf p = some [x] → densityOk x.density = true →
    tget s.ship.tanks x.tank = some g → (s.tankRow x.tank).transfer = some id →
    tget s.ballast.transfers id = some t → t.phase = .granted ss sd time amount mark →
    let cap := g.capacity * x.density / 1000
    let held := min x.contents cap
    let m := match t.source with
      | .sea => held - sd.getD 0
      | .tank j => if j = x.tank then ss.getD 0 - held else amount
    let beyond := decide (t.planned * (1000 + s.settings.overrunTol) < m * 1000)
    let measured : State :=
      { s with
        cond :=
          { s.cond with
            tanks := tput s.cond.tanks x.tank
              { s.tankRow x.tank with
                contents := held, density := x.density, source := .gauged, time := s.time
                clamped := decide (cap < x.contents), stale := false } }
        ballast := { s.ballast with
          transfers := tput s.ballast.transfers id { t with phase := .granted ss sd time m (mark || beyond) } } }
    Completes (.tankReport l tag p) l s
      (advance true (s.tankRow x.tank).target.isNone
        (if beyond = true ∧ mark = false then latchOn .transfer [.l3, .l0] measured else measured))
      (replyFrame
        ⟨.done, encU 1 1 ++ encU 1 (beBool (decide (cap < x.contents)))
          ++ encU 1 (beBool (decide (cap < x.contents)))⟩ 0x48#8 tag))

/-- R162: the checks of Request Transfer in their order, each with its status. R161, R163, R164: an accepted transfer
takes the next free id, stands REQUESTED with its timer started, is written in the transfer field of each tank end,
joins the tail of the gate queue, and is answered ACCEPTED with its id; no generation advances. -/
def Obligations.RequestTransferCompletes : Prop :=
  (∀ (s : State) (l : Link) (tag : Byte) (a b m : Nat), Ready s l (.requestTransfer a b m) →
    let no := fun st => Refuses (.requestTransfer l tag a b m) l (.requestTransfer a b m) tag st s
    (endOf a = none ∨ endOf b = none ∨ endOf a = endOf b ∨ m = 0 → no .badValue)
    ∧ (∀ x y, endOf a = some x → endOf b = some y → x ≠ y → m ≠ 0 →
      let tanks := Transfer.tankEnds ⟨x, y, m, .requested .none 0⟩
      ((∃ k ∈ tanks, tget s.ship.tanks k = none) → no .notFound)
      ∧ ((∀ k ∈ tanks, tget s.ship.tanks k ≠ none) →
        ((∃ k ∈ tanks, (s.tankRow k).source ≠ .gauged ∨ (s.tankRow k).transfer ≠ none) → no .state)
        ∧ ((∀ k ∈ tanks, (s.tankRow k).source = .gauged ∧ (s.tankRow k).transfer = none) →
          (amountsOk s x y m = false → no .badValue)
          ∧ (amountsOk s x y m = true → 4 ≤ s.ballast.transfers.length → no .full)))))
  ∧ (∀ (s : State) (l : Link) (tag : Byte) (a b m : Nat) (x y : End), Ready s l (.requestTransfer a b m) →
    endOf a = some x → endOf b = some y → x ≠ y → m ≠ 0 →
    let tanks := Transfer.tankEnds ⟨x, y, m, .requested .none 0⟩
    let id := nextFreeId s.ballast.transfers 4 s.ballast.nextId
    (∀ k ∈ tanks, tget s.ship.tanks k ≠ none ∧ (s.tankRow k).source = .gauged ∧ (s.tankRow k).transfer = none) →
    amountsOk s x y m = true → s.ballast.transfers.length < 4 →
    ∃ t, exec (.requestTransfer l tag a b m) s = .next t
      ∧ t.sends l (replyFrame ⟨.accepted, encU 1 id⟩ 0x49#8 tag)
      ∧ (∃ reason, tget t.ballast.transfers id = some
          { source := x, dest := y, planned := m, phase := .requested reason s.time })
      ∧ t.ballast.nextId = (if id = 255 then 1 else id + 1) ∧ t.ballast.log = s.ballast.log
      ∧ (∀ k, t.tankRow k = if k ∈ tanks then { s.tankRow k with transfer := some id } else s.tankRow k)
      ∧ t.gate.queue = s.gate.queue ++ [.transfer id]
      ∧ t.cond.lots = s.cond.lots ∧ t.cond.seq = s.cond.seq ∧ t.cond.hooks = s.cond.hooks
      ∧ (∀ c, (t.ctx c).gen = (s.ctx c).gen) ∧ t.mode = s.mode ∧ Untouched s t)

/-- R167, R170, R171: a REQUESTED transfer whose timer has reached the request timeout, or that is cancelled, leaves
the queue and the table, its tank ends are free, the log takes its record first and keeps four, TRANSFER is latched
on L3 and L0, and no generation advances. R169, R170, R171: End Transfer and Cancel Transfer of a GRANTED transfer
remove it, free its tank ends, which cease to be stale, log its amount and its overrun mark under ENDED or CANCELLED,
latch TRANSFER, advance ACTUAL once and are answered with the amount and the mark; an id held by no entry is refused
with NOT_FOUND. An event not due leaves the state (log 6). -/
def Obligations.TransfersEnd : Prop :=
  (∀ (s : State) (id : Nat) (x : Transfer) (reason : Pending) (timer : Count32),
    tget s.ballast.transfers id = some x → x.phase = .requested reason timer →
    let after := fun kind why =>
      latchOn .transfer [.l3, .l0]
        { s with
          gate := { s.gate with queue := s.gate.queue.filter (fun e => decide (e ≠ .transfer id)) }
          cond :=
            { s.cond with
              tanks := x.tankEnds.foldl
                (fun ts k => tput ts k { (tget ts k).getD TankRow.fresh with transfer := none, stale := false })
                s.cond.tanks }
          ballast :=
            { s.ballast with
              transfers := tdrop s.ballast.transfers id
              log := ({ id := id, source := x.source, dest := x.dest, planned := x.planned, kind := kind,
                        reason := why, amount := none, overrun := false, time := s.time }
                :: s.ballast.log).take 4 } }
    (s.powered = true → s.settings.requestTimeout ≤ age s.time timer →
      Becomes (.transferRequestTimeout id) s (after .timeout (some reason)))
    ∧ (age s.time timer < s.settings.requestTimeout → exec (.transferRequestTimeout id) s = .next s)
    ∧ (∀ l tag, Ready s l (.cancelTransfer id) →
      Completes (.cancelTransfer l tag id) l s (after .cancelled none) (replyFrame (Reply.bare .done) 0x4B#8 tag))
    ∧ (∀ l tag, Ready s l (.endTransfer id) → Refuses (.endTransfer l tag id) l (.endTransfer id) tag .state s))
  ∧ (∀ (s : State) (l : Link) (tag : Byte) (id : Nat),
    (tget s.ballast.transfers id = none →
      (Ready s l (.endTransfer id) → Refuses (.endTransfer l tag id) l (.endTransfer id) tag .notFound s)
      ∧ (Ready s l (.cancelTransfer id) → Refuses (.cancelTransfer l tag id) l (.cancelTransfer id) tag .notFound s))
    ∧ (∀ x ss sd time amount mark, tget s.ballast.transfers id = some x →
      x.phase = .granted ss sd time amount mark → GateEntry.transfer id ∉ s.gate.queue →
      let after := fun kind =>
        advanceActual (latchOn .transfer [.l3, .l0]
          { s with
            cond :=
              { s.cond with
                tanks := x.tankEnds.foldl
                  (fun ts k => tput ts k { (tget ts k).getD TankRow.fresh with transfer := none, stale := false })
                  s.cond.tanks }
            ballast :=
              { s.ballast with
                transfers := tdrop s.ballast.transfers id
                log := ({ id := id, source := x.source, dest := x.dest, planned := x.planned, kind := kind,
                          reason := none, amount := some amount, overrun := mark, time := s.time }
                  :: s.ballast.log).take 4 } })
      (Ready s l (.endTransfer id) →
        Completes (.endTransfer l tag id) l s (after .ended)
          (replyFrame ⟨.done, encU 4 amount ++ encU 1 (beBool mark)⟩ 0x4A#8 tag))
      ∧ (Ready s l (.cancelTransfer id) →
        Completes (.cancelTransfer l tag id) l s (after .cancelled)
          (replyFrame ⟨.done, encU 4 amount ++ encU 1 (beBool mark)⟩ 0x4B#8 tag))))

/-! ### Passes and predictions -/

/-- R47: a rounded quotient is the nearest integer, a half moving away from zero, with the sign of the dividend. R59:
the section weights sum to the displacement. R61: the corrected buoyancies sum to it. R55, R56, R58, R65: GM is KM
less VCG less FSC; the heel is UNDEFINED for a GM of 0 or less and otherwise the rounded tangent held within 30,000
either way; the aft draft less the forward draft is the trim; a quantity that is not VALID carries 0, and above the
hydrostatic table every quantity of S5 to S10 is OUT_OF_TABLE. -/
def Obligations.EvaluationBalances : Prop :=
  (∀ a d : Int, 0 < d →
    2 * d * (rdiv a d).natAbs ≤ 2 * a.natAbs + d ∧ 2 * a.natAbs + d < 2 * d * (rdiv a d).natAbs + 2 * d
      ∧ (0 ≤ a → 0 ≤ rdiv a d) ∧ (a ≤ 0 → rdiv a d ≤ 0))
  ∧ (∀ (raw : List Int) (rho w : Int) (b : List Int), correctBuoyancy raw rho w = some b →
    b.length = raw.length ∧ sumInt b = w)
  ∧ (∀ (xs : List Int) (light : List Nat) (items : List Item),
    2 ≤ xs.length → light.length = xs.length - 1 →
    sumBy (fun i => if i.isLightship then (i.mass : Int) else 0) items = (light.sum : Int) →
    (∀ i ∈ items, itemSection xs i < xs.length - 1) →
    sumInt ((List.range (xs.length - 1)).map (sectionWeight xs light items)) = sumMass items)
  ∧ (∀ (d : ShipData) (rho : Nat) (gen : Count32) (tainted : Bool) (items : List Item),
    let r := evaluate d rho gen tainted items
    r.gen = gen ∧ r.tainted = tainted ∧ r.w = ⟨.valid, sumMass items⟩
    ∧ r.wStd = ⟨.valid, rdiv (sumMass items * 1025) rho⟩
    ∧ (∀ last, (hydroRows d).getLast? = some last → (last.disp : Int) < r.wStd.val →
      (∀ q ∈ [r.fsc, r.km, r.gm, r.heel, r.trim, r.draft, r.draftAft, r.draftFore, r.lcb, r.lcf, r.mtcm],
        q = ⟨.outOfTable, 0⟩) ∧ r.strength = .outOfTable)
    ∧ (r.gm.cls = .valid →
      r.gm.val = r.km.val - r.vcg.val - r.fsc.val
      ∧ (r.gm.val ≤ 0 → r.heel = ⟨.undefined, 0⟩ ∧ r.clamped = false)
      ∧ (0 < r.gm.val → r.heel = ⟨.valid, max (-30000) (min 30000 (rdiv (r.tcg.val * 10000) r.gm.val))⟩
        ∧ r.clamped = decide (30000 < (rdiv (r.tcg.val * 10000) r.gm.val).natAbs)))
    ∧ (r.trim.cls = .valid → r.draftAft.val - r.draftFore.val = r.trim.val)
    ∧ (∀ q ∈ [r.fsc, r.km, r.gm, r.heel, r.trim, r.draft, r.draftAft, r.draftFore, r.lcb, r.lcf, r.mtcm],
      q.cls ≠ .valid → q.val = 0))

/-- R102 to R107: the judgement of a set, class by class: it holds a violation of C1 to C6 exactly when the quantity is
VALID and outside its bound, of C3 when the heel is UNDEFINED, of C7 and C8 at each cut outside the STRENGTH entry when
the strength is VALID, of C9 and C10 for each area total and pressure above its maximum, and of C11 when a stage is
OUT_OF_TABLE, each with the value and the limit of its class; and it holds no other. -/
def Obligations.JudgementFollowsTheLimits : Prop :=
  ∀ (ship : ShipData) (w : LimitSet) (r : ResultSet) (v : Violation),
    let above := fun (c : CheckClass) (i : Nat) (x limit : Int) => limit < x ∧ v = ⟨c, i, .high, x, limit⟩
    let below := fun (c : CheckClass) (i : Nat) (x limit : Int) => x < limit ∧ v = ⟨c, i, .low, x, limit⟩
    (v.cls = .c1 → (v ∈ judge ship w r ↔ r.gm.cls = .valid ∧ below .c1 0 r.gm.val w.gmMin))
    ∧ (v.cls = .c2 → (v ∈ judge ship w r ↔
        r.heel.cls = .valid ∧ (above .c2 0 r.heel.val w.heelMax ∨ below .c2 0 r.heel.val (-(w.heelMax : Int)))))
    ∧ (v.cls = .c3 → (v ∈ judge ship w r ↔ r.heel.cls = .undefined ∧ v = ⟨.c3, 0, .unordered, r.gm.val, 0⟩))
    ∧ (v.cls = .c4 → (v ∈ judge ship w r ↔
        r.trim.cls = .valid ∧ (above .c4 0 r.trim.val w.trimMax ∨ below .c4 0 r.trim.val (-(w.trimMax : Int)))))
    ∧ (v.cls = .c5 → (v ∈ judge ship w r ↔
        ∃ p ∈ [(0, r.draftAft), (1, r.draftFore), (2, r.draft)],
          p.2.cls = .valid ∧ above .c5 p.1 p.2.val w.draftMax))
    ∧ (v.cls = .c6 → (v ∈ judge ship w r ↔ r.w.cls = .valid ∧ above .c6 0 r.w.val w.dispMax))
    ∧ (v.cls = .c7 → (v ∈ judge ship w r ↔ r.strength = .valid ∧
        ∃ k cut e, r.cuts[k]? = some cut ∧ tget ship.strength (k + 1) = some e
          ∧ (above .c7 (k + 1) cut.1 e.shear ∨ below .c7 (k + 1) cut.1 (-(e.shear : Int)))))
    ∧ (v.cls = .c8 → (v ∈ judge ship w r ↔ r.strength = .valid ∧
        ∃ k cut e, r.cuts[k]? = some cut ∧ tget ship.strength (k + 1) = some e
          ∧ (above .c8 (k + 1) cut.2 e.hog ∨ below .c8 (k + 1) cut.2 (-(e.sag : Int)))))
    ∧ (v.cls = .c9 → (v ∈ judge ship w r ↔
        ∃ p ∈ ship.areas, above .c9 p.1 ((tget r.areas p.1).getD 0) p.2.maxMass))
    ∧ (v.cls = .c10 → (v ∈ judge ship w r ↔
        ∃ e ∈ r.pressures, ∃ a, tget ship.areas e.area = some a ∧ above .c10 e.index e.pressure a.maxPressure))
    ∧ (v.cls = .c11 → (v ∈ judge ship w r ↔
        ((∃ q ∈ [r.draft, r.km, r.lcb, r.lcf, r.mtcm, r.fsc, r.gm, r.heel, r.trim, r.draftAft, r.draftFore],
            q.cls = .outOfTable) ∧ v = ⟨.c11, 0, .unordered, r.wStd.val, lastDisp ship⟩)
        ∨ (r.strength = .outOfTable ∧ v = ⟨.c11, 1, .unordered, 0, 0⟩)))
    ∧ (v ∈ judge ship w r → v.cls.num ≤ 11)

/-- R73, R66, R112: a publication of PLAN or TRIAL replaces the published set, sets the sticky flags its figures call
for and clears none, brings the context's list up to date, and latches RESULTS on L0; with no pass in flight it is
not due (log 6). R72, R100, R101: a pass captures the context's generation, the working ρ_sea, the limit set, which for
ACTUAL is LIFT while a crane is HOISTED or LOWERING and HARBOUR otherwise, and for ACTUAL the staleness. R39, R49, R154:
the items each context counts. R108, R109: the facts of C12 to C16 that a pass of ACTUAL captures. -/
def Obligations.PlanAndTrialPublish : Prop :=
  (∀ s : State, s.powered = true →
    (∀ p, s.eval.unit = .pass p → p.ctx ≠ .actual →
      let r := evaluate s.ship p.rho p.gen p.tainted p.items
      Becomes .publication s
        (latch .results .l0
          { s with
            eval := s.eval.mapCtx (fun c =>
              { c with
                set := some r
                sticky := ⟨c.sticky.outOfTable || r.anyOut, c.sticky.undefined || r.heelUndefined,
                  c.sticky.clamped || r.clamped⟩ }) p.ctx
            monitor := s.monitor.setList p.ctx
              (updateList s.time p.gen p.limitName (judge s.ship p.limits r ++ p.events) (listOf s p.ctx)) }))
    ∧ ((∀ p, s.eval.unit ≠ .pass p) → exec .publication s = .next s))
  ∧ (∀ (s : State) (x : Ctx),
    let p := capturePass s x
    let hoisting := ∃ c, (s.liftRec c).state = .hoisted ∨ (s.liftRec c).state = .lowering
    p.ctx = x ∧ p.gen = (s.ctx x).gen ∧ p.rho = s.settings.seaDensity
    ∧ (x = .actual → hoisting → p.limitName = .lift ∧ p.limits = s.settings.lift)
    ∧ (x ≠ .actual ∨ ¬ hoisting → p.limitName = .harbour ∧ p.limits = s.settings.harbour)
    ∧ (p.tainted = true ↔
      x = .actual ∧ ((∃ c, s.gate.stale.get c = true) ∨ ∃ q ∈ s.cond.tanks, q.2.stale = true))
    ∧ (x ≠ .actual → p.events = []))
  ∧ (∀ (s : State) (it : Item),
    let mid := fun a b : Pos => (⟨rdiv (a.x + b.x) 2, rdiv (a.y + b.y) 2, rdiv (a.z + b.z) 2⟩ : Pos)
    let light := ∃ e, s.ship.lightship = some e ∧ it = ⟨e.mass, e.cg, .lightship⟩
    let planItem := fun (lots : Table Lot) (tanks : Table TankRow) =>
      light
      ∨ (∃ c cr, tget s.ship.cranes (CraneId.num c) = some cr ∧ cr.present ≠ 0
          ∧ it = ⟨cr.boomMass, mid cr.pivot cr.park, .boom⟩)
      ∨ (∃ q ∈ lots, it ∈ planLot q)
      ∨ (∃ q ∈ s.ship.tanks,
          let row := (tget tanks q.1).getD TankRow.fresh
          let m := match row.target with | some g => g.contents | none => row.contents
          let d := match row.target with | some g => g.density | none => row.density
          0 < m ∧ it = tankItem q.1 q.2 m d)
    (it ∈ (capturePass s .actual).items ↔
      light
      ∨ (∃ c cr, tget s.ship.cranes (CraneId.num c) = some cr ∧ cr.present ≠ 0
          ∧ (it = ⟨cr.boomMass, mid cr.pivot (s.cond.hooks.get c).tip, .boom⟩
            ∨ it = ⟨(s.cond.hooks.get c).load, (s.cond.hooks.get c).tip, .hook⟩))
      ∨ (∃ q ∈ s.cond.lots, it ∈ actualLot s q)
      ∨ (∃ q ∈ s.ship.tanks, 0 < (s.tankRow q.1).contents
          ∧ it = tankItem q.1 q.2 (s.tankRow q.1).contents (s.tankRow q.1).density))
    ∧ (it ∈ (capturePass s .plan).items ↔ planItem s.cond.lots s.cond.tanks)
    ∧ (it ∈ (capturePass s .trial).items ↔ planItem (trialView s).lots (trialView s).tanks))
  ∧ (∀ (s : State) (n : Nat) (k : Lot),
    let item := fun (m : Nat) (loc : Loc) => [(⟨m, loc.pos, .lot n (some loc.area) k.footprint⟩ : Item)]
    let hung := fun (m : Nat) (tip : Pos) => [(⟨m, tip, .lot n none none⟩ : Item)]
    let mass := k.measured.getD k.declared
    (k.state = .planned → actualLot s (n, k) = [] ∧ planLot (n, k) = item k.declared k.loc)
    ∧ (k.state = .aboard →
      actualLot s (n, k) = item mass k.loc ∧ planLot (n, k) = if k.mark then [] else item mass k.loc)
    ∧ (∀ o dir a b c, k.state = .lifting o dir a b →
      ((c = .one ∧ a = true ∧ (b = true → (s.liftRec .one).role ≠ some .partner))
        ∨ (c = .two ∧ b = true ∧ (a = true → (s.liftRec .one).role = some .partner))) →
      let r := s.liftRec c
      let h := (if a then s.cond.hooks.one.load else 0) + (if b then s.cond.hooks.two.load else 0)
      planLot (n, k) = (if dir = .load then item k.declared k.loc else [])
      ∧ (r.state ∈ [.pairing, .requested, .cleared] →
        actualLot s (n, k) = if dir = .load then [] else item (mass - h) k.loc)
      ∧ (r.state = .hoisted →
        actualLot s (n, k) =
          if dir = .load then hung (k.measured.getD 0 - h) (s.cond.hooks.get c).tip else item (mass - h) k.loc)
      ∧ (r.state = .lowering →
        (∀ loc, r.landing = some (.aboard loc) → actualLot s (n, k) = item (k.measured.getD 0 - h) loc)
        ∧ (r.landing = some .ashore → actualLot s (n, k) = []))
      ∧ (∀ tip, r.state = .setDown → r.setDownTip = some tip →
        actualLot s (n, k) = hung (k.measured.getD 0) tip)))
  ∧ (∀ (s : State) (v : Violation), v ∈ (capturePass s .actual).events ↔
    (∃ c, s.gate.stale.get c = true ∧ v = ⟨.c12, CraneId.num c, .event,
        (match (s.liftRec c).lastReport with | some t => age s.time t | none => 0 : Nat), s.settings.hookStale⟩)
    ∨ (∃ q ∈ s.cond.tanks, q.2.stale = true
        ∧ v = ⟨.c12, 16 + q.1, .event, age s.time q.2.time, s.settings.tankStale⟩)
    ∨ (∃ c lr, (s.liftRec c).deviation = true ∧ (s.liftRec c).lot = some lr
        ∧ v = ⟨.c13, lr.slot, .event, lr.id,
          (((seqHead s.cond.lots s.cond.seq).bind (fun i => s.cond.seq[i]?.map SeqEntry.lot)).getD 0 : Nat)⟩)
    ∨ (∃ q ∈ s.cond.lots, q.2.discrepancy = true
        ∧ v = ⟨.c14, q.1, if q.2.declared < q.2.measured.getD 0 then .high else .low, (q.2.measured.getD 0 : Nat),
          q.2.declared⟩)
    ∨ (∃ c cr, tget s.ship.cranes (CraneId.num c) = some cr ∧ cr.present ≠ 0 ∧ (s.liftRec c).state = .idle
        ∧ s.settings.untracked ≤ (s.cond.hooks.get c).load
        ∧ v = ⟨.c15, CraneId.num c, .high, (s.cond.hooks.get c).load, s.settings.untracked⟩)
    ∨ (∃ q ∈ s.ballast.transfers, ∃ ss sd time amount, q.2.phase = .granted ss sd time amount true
        ∧ v = ⟨.c16, q.1, .high, amount, q.2.planned⟩))

/-- R73, R111, R112, R120, R141: a publication of ACTUAL replaces the published set and the list, opens or closes the
hoist window by the heel, latches RESULTS on all four links, and leaves suspension in force when it was, or when a
standing violation is at or above the trigger. R66: it sets the sticky flags its figures call for and clears none. R122,
R145: in a sound gate a standing clearance is withdrawn with SUSPENDED where suspension enters now, and otherwise with
STALE where the set is TAINTED or a crane of it has no fresh report; its cranes are REQUESTED, their counters 0, their
confirmed loads removed, its entry stands at the head of the queue, the slot is free, ACTUAL advances and LIFT is
latched. Otherwise it stands, with the re-check demanded. R139, R140, R164: then the round decides every entry of the
queue: EXCLUSIVE, SUSPENDED, STALE or WINDOW stops a lift entry in that order (under suspension too, log 18), STALE a
transfer entry, with the demand withdrawn; the others are demanded. -/
def Obligations.ActualPublishes : Prop :=
  ∀ (s : State) (p : Pass), s.powered = true → s.eval.unit = .pass p → p.ctx = .actual →
    let r := evaluate s.ship p.rho p.gen p.tainted p.items
    let new := judge s.ship p.limits r ++ p.events
    ∃ t, exec .publication s = .next t
      ∧ t.eval.actual.set = some r
      ∧ t.monitor.actual = updateList s.time p.gen p.limitName new s.monitor.actual
      ∧ t.monitor.plan = s.monitor.plan ∧ t.monitor.trial = s.monitor.trial
      ∧ t.gate.window = (decide (r.heel.cls = .valid)
          && (decide (r.heel.val.natAbs ≤ s.settings.wIn)
            || (s.gate.window && decide (r.heel.val.natAbs ≤ s.settings.wOut))))
      ∧ (s.monitor.suspension ≠ none → t.monitor.suspension = s.monitor.suspension)
      ∧ (s.monitor.suspension = none →
        t.monitor.suspension =
          (new.find? (fun v => atTrigger s.settings.trigger (s.settings.severity.get v.cls))).map
            (fun v => ⟨.automatic v.cls v.index, s.time⟩))
      ∧ (∀ l, (t.links.get l).notices.getLsbD Event.results.bit = true)
      ∧ (∀ l, (∃ v ∈ new, standsIn s.monitor.actual.kept v = false) →
        (t.links.get l).notices.getLsbD Event.violationNew.bit = true)
      ∧ t.cond = s.cond ∧ t.ballast.log = s.ballast.log ∧ t.mode = s.mode ∧ Untouched s t
      ∧ t.eval.actual.sticky =
          ⟨s.eval.actual.sticky.outOfTable || r.anyOut, s.eval.actual.sticky.undefined || r.heelUndefined,
            s.eval.actual.sticky.clamped || r.clamped⟩
      ∧ (GateSound s →
        let enters := s.monitor.suspension = none
          ∧ new.find? (fun v => atTrigger s.settings.trigger (s.settings.severity.get v.cls)) ≠ none
        let holds := fun c : LiftRef => ¬ enters ∧ p.tainted = false ∧ ∀ x ∈ c.cranes, hookFresh s x = true
        let recheck := DemandKey.recheck ∈ t.eval.waiting ∨ t.eval.unit.predictsFor .recheck = true
        let lifted := fun on : Link → Prop => ∀ j,
          ((t.links.get j).notices.getLsbD Event.lift.bit = true ↔
            (s.links.get j).notices.getLsbD Event.lift.bit = true ∨ on j)
        (∀ j, ((t.links.get j).notices.getLsbD Event.suspend.bit = true ↔
          (s.links.get j).notices.getLsbD Event.suspend.bit = true ∨ enters))
        ∧ (∀ x, (t.liftRec x).lot = (s.liftRec x).lot ∧ (t.liftRec x).deviation = (s.liftRec x).deviation)
        ∧ ((standingClearance s = none ∨ ∃ c, standingClearance s = some c ∧ holds c) →
          t.gate.slot = s.gate.slot ∧ t.gate.queue = s.gate.queue ∧ t.eval.actual.gen = s.eval.actual.gen
          ∧ lifted (fun _ => False) ∧ ∀ x, (t.liftRec x).silent = (s.liftRec x).silent)
        ∧ (∀ c, standingClearance s = some c → holds c → recheck ∧ ∀ x ∈ c.cranes, t.liftRec x = s.liftRec x)
        ∧ (∀ c, standingClearance s = some c → ¬ holds c →
          (∀ x ∈ c.cranes,
            t.liftRec x = { s.liftRec x with
              state := .requested, counter := 0, confirmed := none, timer := some s.time
              reason := some (if enters then .suspended else .stale) }
            ∧ t.gate.stale.get x = false)
          ∧ t.gate.slot = none ∧ t.gate.queue = .lift c :: s.gate.queue ∧ ¬ recheck
          ∧ t.eval.actual.gen = s.eval.actual.gen + 1
          ∧ lifted (fun j => j = .l0 ∨ j ∈ c.cranes.map CraneId.link))
        ∧ (∀ e, GateEntry.lift e ∈ t.gate.queue →
          let why := if t.gate.slot ≠ none then some Pending.exclusive
            else if t.suspended = true then some .suspended
            else if p.tainted = true ∨ (∃ x ∈ e.cranes, hookFresh s x = false) then some .stale
            else if t.gate.window = false then some .window
            else none
          (∀ w, why = some w →
            (∀ x ∈ e.cranes, (t.liftRec x).reason = some w)
            ∧ DemandKey.lift e.lead ∉ t.eval.waiting ∧ t.eval.unit.predictsFor (.lift e.lead) = false)
          ∧ (why = none →
            (∀ x ∈ e.cranes, (t.liftRec x).reason = (s.liftRec x).reason)
            ∧ (DemandKey.lift e.lead ∈ t.eval.waiting ∨ t.eval.unit.predictsFor (.lift e.lead) = true)))
        ∧ (∀ id x was timer, GateEntry.transfer id ∈ t.gate.queue → tget s.ballast.transfers id = some x →
          x.phase = .requested was timer →
          let stopped := p.tainted = true ∨ ∃ k ∈ x.tankEnds, tankFresh s k = false
          (stopped →
            tget t.ballast.transfers id = some { x with phase := .requested .stale timer }
            ∧ DemandKey.transfer id ∉ t.eval.waiting ∧ t.eval.unit.predictsFor (.transfer id) = false)
          ∧ (¬ stopped →
            tget t.ballast.transfers id = some x
            ∧ (DemandKey.transfer id ∈ t.eval.waiting ∨ t.eval.unit.predictsFor (.transfer id) = true))))

/-- R112: after a publication every listed pair stands, a pair listed before keeps its first-seen time and its mark, a
pair newly listed has the present time and is LATE exactly when it stood before, and no pair goes unlisted while the
list holds fewer than 48 entries. R117: the newly appearing STOP violations of a publication, in order, fill FIRST
when it is empty and overwrite NEXT otherwise, and each raises the STOP count up to 65,535; the filling of FIRST
latches RECORD. R117, R113: a publication of ACTUAL does so with the violations of its judgement that the kept one does
not hold and whose severity is STOP; it latches RECORD on all four links when it fills FIRST, VIOLATION_NEW when a pair
newly appears and VIOLATION_CLEARED when a pair of the kept judgement stands no more. R118: Acknowledge Records empties
FIRST and NEXT and sets the STOP count to 0. -/
def Obligations.ListsAndRecordsFollow : Prop :=
  (∀ (now gen : Count32) (name : LimitName) (new : List Violation) (v : ViolationList),
    let w := updateList now gen name new v
    w.kept = new
    ∧ (∀ e ∈ w.entries, e.viol ∈ new)
    ∧ (∀ e ∈ w.entries,
        (∃ o ∈ v.entries, e.viol.samePair o.viol = true ∧ e.firstSeen = o.firstSeen ∧ e.late = o.late)
        ∨ (e.firstSeen = now ∧ e.late = standsIn v.kept e.viol
          ∧ ∀ o ∈ v.entries, e.viol.samePair o.viol = false))
    ∧ (new.Pairwise (fun a b => a.samePair b = false) → v.entries.length ≤ 48 →
        v.entries.Pairwise (fun a b => a.viol.samePair b.viol = false) →
        w.entries.length ≤ 48
        ∧ (w.entries.length < 48 → ∀ x ∈ new, ∃ e ∈ w.entries, e.viol = x)))
  ∧ (∀ (gen : Count32) (s : State) (v : Violation),
    (s.monitor.first = none →
      (fillRecord gen s v).monitor.first = some ⟨v, s.time, gen⟩
      ∧ (fillRecord gen s v).monitor.next = s.monitor.next
      ∧ ∀ l, ((fillRecord gen s v).links.get l).notices = (s.links.get l).notices ||| Event.record.flag)
    ∧ (s.monitor.first ≠ none →
      (fillRecord gen s v).monitor.first = s.monitor.first
      ∧ (fillRecord gen s v).monitor.next = some ⟨v, s.time, gen⟩
      ∧ (fillRecord gen s v).links = s.links)
    ∧ (fillRecord gen s v).monitor.stopCount = (if s.monitor.stopCount < 65535 then s.monitor.stopCount + 1
        else s.monitor.stopCount))
  ∧ (∀ (s : State) (p : Pass), s.powered = true → s.eval.unit = .pass p → p.ctx = .actual →
    s.monitor.stopCount ≤ 65535 →
    let new := judge s.ship p.limits (evaluate s.ship p.rho p.gen p.tainted p.items) ++ p.events
    let kept := s.monitor.actual.kept
    let appeared := new.filter (fun v => decide (∀ o ∈ kept, v.samePair o = false))
    let cleared := kept.filter (fun o => decide (∀ v ∈ new, o.samePair v = false))
    let stops := appeared.filter (fun v => decide (s.settings.severity.get v.cls = .stop))
    let record : Violation → ViolationRecord := fun v => ⟨v, s.time, p.gen⟩
    ∃ t, exec .publication s = .next t
      ∧ t.monitor.first = s.monitor.first.or (stops.head?.map record)
      ∧ t.monitor.next =
        (((if s.monitor.first.isSome then stops else stops.tail).getLast?.map record).or s.monitor.next)
      ∧ t.monitor.stopCount = min 65535 (s.monitor.stopCount + stops.length)
      ∧ ∀ l, (t.links.get l).notices.getLsbD Event.record.bit
            = ((s.links.get l).notices.getLsbD Event.record.bit || (s.monitor.first.isNone && !stops.isEmpty))
          ∧ (t.links.get l).notices.getLsbD Event.violationNew.bit
            = ((s.links.get l).notices.getLsbD Event.violationNew.bit || !appeared.isEmpty)
          ∧ (t.links.get l).notices.getLsbD Event.violationCleared.bit
            = ((s.links.get l).notices.getLsbD Event.violationCleared.bit || !cleared.isEmpty))
  ∧ (∀ (s : State) (l : Link) (tag : Byte), Ready s l .acknowledgeRecords →
    Completes (.acknowledgeRecords l tag) l s
      { s with monitor := { s.monitor with first := none, next := none, stopCount := 0 } }
      (replyFrame (Reply.bare .done) 0x2B#8 tag))

/-- R79, R80: at the end of a lift prediction's HOOK pass its set is kept and the LANDED pass follows over the same
capture; at the end of the last pass a prediction whose ACTUAL generation has changed is discarded and its demand
waits again, or is chosen again at once. Events that are not due: log 6. R79, R101: what a prediction captures: the
generation of ACTUAL, ρ_sea, the staleness, the limit sets. R142: the items of the HOOK and of the LANDED pass; R165: the
items of the TRANSFER pass, with each tank of a GRANTED transfer and of the requested one at its end state. -/
def Obligations.PredictionsRunAndAreDiscarded : Prop :=
  (∀ (s : State) (p : Prediction), s.powered = true → s.eval.unit = .predicting p →
    (p.phase = .hook →
      ∃ t, exec .hookPassComplete s = .next t
        ∧ t.eval =
            { s.eval with
              unit := .predicting
                { p with phase := .landed, first := some (evaluate s.ship p.rho p.gen p.tainted p.hookItems) } }
        ∧ t.standing = s.standing ∧ exec .predictionCompletion s = .next s)
    ∧ (p.phase ≠ .hook →
      exec .hookPassComplete s = .next s
      ∧ (s.eval.actual.gen ≠ p.gen →
        ∃ t, exec .predictionCompletion s = .next t ∧ t.standing = s.standing
          ∧ (p.key ∈ t.eval.waiting ∨ t.eval.unit.predictsFor p.key = true))))
  ∧ (∀ (s : State) (key : DemandKey),
    let p := capturePrediction s key
    let hoisting := ∃ c, (s.liftRec c).state = .hoisted ∨ (s.liftRec c).state = .lowering
    p.key = key ∧ p.gen = s.eval.actual.gen ∧ p.rho = s.settings.seaDensity ∧ p.first = none
    ∧ (p.tainted = true ↔ (∃ c, s.gate.stale.get c = true) ∨ ∃ q ∈ s.cond.tanks, q.2.stale = true)
    ∧ p.hookLimits = s.settings.lift
    ∧ (hoisting → p.lastLimits = s.settings.lift) ∧ (¬ hoisting → p.lastLimits = s.settings.harbour)
    ∧ p.phase = (match key with | .transfer _ => Phase.transfer | _ => .hook))
  ∧ (∀ (s : State) (key : DemandKey) (r : LiftRef) (lr : LotRef) (k : Lot) (it : Item),
    ((key = .recheck ∧ s.gate.slot = some r) ∨ ∃ c, key = .lift c ∧ r = liftOf s c) →
    (s.liftRec r.lead).lot = some lr → tget s.cond.lots lr.slot = some k →
    let p := capturePrediction s key
    let mid := fun a b : Pos => (⟨rdiv (a.x + b.x) 2, rdiv (a.y + b.y) 2, rdiv (a.z + b.z) 2⟩ : Pos)
    let mass := fun c => if r.partner = none then k.measured.getD k.declared else (s.liftRec c).share.getD 0
    let hook := fun c => s.cond.hooks.get c
    let worst := fun c => if c ∈ r.cranes then (s.liftRec c).worst.getD (hook c).tip else (hook c).tip
    let rest :=
      (∃ e, s.ship.lightship = some e ∧ it = ⟨e.mass, e.cg, .lightship⟩)
      ∨ (∃ q ∈ s.cond.lots, q.1 ≠ lr.slot ∧ it ∈ actualLot s q)
      ∨ (∃ q ∈ s.ship.tanks, 0 < (s.tankRow q.1).contents
          ∧ it = tankItem q.1 q.2 (s.tankRow q.1).contents (s.tankRow q.1).density)
    (it ∈ p.hookItems ↔ rest
      ∨ ∃ c cr, tget s.ship.cranes (CraneId.num c) = some cr ∧ cr.present ≠ 0
        ∧ (it = ⟨cr.boomMass, mid cr.pivot (worst c), .boom⟩
          ∨ it = ⟨if c ∈ r.cranes then mass c else (hook c).load, worst c, .hook⟩))
    ∧ (it ∈ p.lastItems ↔ rest
      ∨ (∃ c cr, tget s.ship.cranes (CraneId.num c) = some cr ∧ cr.present ≠ 0
        ∧ (it = ⟨cr.boomMass, mid cr.pivot (hook c).tip, .boom⟩
          ∨ it = ⟨if c ∈ r.cranes then 0 else (hook c).load, (hook c).tip, .hook⟩))
      ∨ ∃ loc, (s.liftRec r.lead).dir = some .load ∧ (s.liftRec r.lead).plan = some loc
        ∧ it = ⟨(r.cranes.map mass).sum, loc.pos, .lot lr.slot (some loc.area) k.footprint⟩))
  ∧ (∀ (s : State) (id : Nat),
    (∀ it, it ∈ (capturePrediction s (.transfer id)).lastItems ↔
      (it ∈ (capturePass s .actual).items ∧ ∀ n sec fsm, it.kind ≠ .tank n sec fsm)
      ∨ ∃ q ∈ s.ship.tanks, 0 < (tankEnd s id q.1).1
          ∧ it = tankItem q.1 q.2 (tankEnd s id q.1).1 (tankEnd s id q.1).2)
    ∧ ∀ k,
      let row := s.tankRow k
      let ended := fun (x : Transfer) (base : Nat) =>
        let source := decide (x.source = .tank k)
        let density := if source || decide (0 < base) then row.density else
          match x.source with
          | .sea => s.settings.seaDensity
          | .tank j => (s.tankRow j).density
        (if source then base - x.planned
         else min (base + x.planned)
          (match tget s.ship.tanks k with | some g => g.capacity * density / 1000 | none => 0), density)
      (row.transfer = none → tankEnd s id k = (row.contents, row.density))
      ∧ (∀ n x ss sd time amount mark, row.transfer = some n → tget s.ballast.transfers n = some x →
        x.phase = .granted ss sd time amount mark →
        tankEnd s id k = ended x (if x.source = .tank k then ss.getD 0 else sd.getD 0))
      ∧ (∀ n x why timer, row.transfer = some n → tget s.ballast.transfers n = some x →
        x.phase = .requested why timer →
        tankEnd s id k = if n = id then ended x row.contents else (row.contents, row.density)))

/-- R140, R143: a lift prediction delivered to a REQUESTED entry that no step of the decision stops, and in whose
judgements no violation reaches the gate threshold, grants the lift: its entry leaves the queue, it takes the
exclusive slot, its cranes are CLEARED with counter 0, no reason and the validity timer started, ACTUAL advances and
LIFT is latched. A step that stops the entry gives its reason (under suspension too EXCLUSIVE comes first, log 18). With a
blocking violation the entry waits with LIMITS and the worst class. R145: the re-check of the
standing clearance that is delivered tainted, or with a violation at or above the gate threshold, withdraws the
clearance: the cranes return to REQUESTED at the head of the queue and the slot is free; with no such violation the
clearance stands. -/
def Obligations.LiftPredictionsDeliver : Prop :=
  (∀ (s : State) (p : Prediction) (lead : CraneId), s.powered = true → s.eval.unit = .predicting p → p.phase = .landed →
    p.key = .lift lead → p.gen = s.eval.actual.gen →
    let r := liftOf s lead
    let blocked := blocking s.settings (liftJudgement s.ship p)
    (s.liftRec r.lead).state = .requested → GateEntry.lift r ∈ s.gate.queue →
    ∃ t, exec .predictionCompletion s = .next t
      ∧ (∀ why, liftStop s r p.tainted = some why →
        (∀ c ∈ r.cranes, t.liftRec c = { s.liftRec c with reason := some why }) ∧ t.gate.slot = s.gate.slot
          ∧ t.gate.queue = s.gate.queue ∧ t.eval.actual.gen = s.eval.actual.gen)
      ∧ (∀ c', liftStop s r p.tainted = none → blocked = some c' →
        (∀ c ∈ r.cranes, t.liftRec c = { s.liftRec c with reason := some (.limits c') })
          ∧ t.gate.slot = none ∧ t.gate.queue = s.gate.queue ∧ t.eval.actual.gen = s.eval.actual.gen)
      ∧ (liftStop s r p.tainted = none → blocked = none →
        (∀ c ∈ r.cranes, t.liftRec c =
            { s.liftRec c with state := .cleared, counter := 0, timer := some s.time, reason := none })
          ∧ t.gate.slot = some r ∧ t.gate.queue = s.gate.queue.filter (fun e => decide (e ≠ .lift r))
          ∧ t.eval.actual.gen = s.eval.actual.gen + 1
          ∧ ∀ j, (t.links.get j).notices = (s.links.get j).notices
            ||| (if j = .l0 ∨ j ∈ r.cranes.map CraneId.link then Event.lift.flag else 0#16))
      ∧ t.cond = s.cond ∧ t.ballast = s.ballast ∧ t.mode = s.mode ∧ Untouched s t)
  ∧ (∀ (s : State) (p : Prediction) (r : LiftRef), s.powered = true → s.eval.unit = .predicting p → p.phase = .landed →
    p.key = .recheck → p.gen = s.eval.actual.gen → s.gate.slot = some r → (s.liftRec r.lead).state = .cleared →
    let blocked := blocking s.settings (liftJudgement s.ship p)
    (p.tainted = false → blocked = none → Becomes .predictionCompletion s s)
    ∧ ((p.tainted = true ∨ blocked ≠ none) →
      ∃ t, exec .predictionCompletion s = .next t
        ∧ (∀ c ∈ r.cranes, (t.liftRec c).state = .requested ∧ (t.liftRec c).counter = 0
            ∧ (t.liftRec c).confirmed = none ∧ (t.liftRec c).timer = some s.time ∧ t.gate.stale.get c = false)
        ∧ t.gate.slot = none ∧ t.gate.queue = .lift r :: s.gate.queue
        ∧ t.eval.actual.gen = s.eval.actual.gen + 1
        ∧ (∀ j, (t.links.get j).notices = (s.links.get j).notices
            ||| (if j = .l0 ∨ j ∈ r.cranes.map CraneId.link then Event.lift.flag else 0#16))
        ∧ t.cond = s.cond ∧ t.mode = s.mode ∧ Untouched s t))

/-- R123, R164, R166: a transfer prediction delivered to a REQUESTED transfer: tainted, or with a tank end not fresh,
it waits as STALE; under suspension it is granted exactly when it is corrective, and otherwise when no violation
reaches the gate threshold. A grant fixes the starting contents, leaves the queue, latches TRANSFER and advances
ACTUAL. R123: a transfer is corrective when no STOP violation of C1 to C11 that stands in ACTUAL is worsened in the
prediction, one is improved, and every STOP violation of the prediction has a pair among them; a pair is improved when the
prediction lacks it or its excess there is smaller, worsened when it is greater, and a violation that is UNORDERED has no
excess. -/
def Obligations.TransferPredictionsDeliver : Prop :=
  (∀ (m : SeverityMap) (kept pred : List Violation),
    let side := fun v : Violation => v ∈ kept ∧ v.cls.num ≤ 11 ∧ m.get v.cls = .stop
    let found := fun v : Violation => pred.find? (fun q => decide (v.cls = q.cls ∧ v.index = q.index))
    let excess := fun (v : Violation) (e : Int) =>
      (v.outcome = .high ∧ e = v.value - v.limit) ∨ (v.outcome = .low ∧ e = v.limit - v.value)
    let improved := fun v => found v = none ∨ ∃ q e e', found v = some q ∧ excess v e ∧ excess q e' ∧ e' < e
    let worsened := fun v => ∃ q e e', found v = some q ∧ excess v e ∧ excess q e' ∧ e < e'
    (corrective m kept pred = true ↔
      (∀ v, side v → ¬ worsened v) ∧ (∃ v, side v ∧ improved v)
      ∧ ∀ q ∈ pred, m.get q.cls = .stop → ∃ v, side v ∧ q.cls = v.cls ∧ q.index = v.index))
  ∧ ∀ (s : State) (p : Prediction) (id : Nat) (x : Transfer) (was : Pending) (timer : Count32),
    s.powered = true → s.eval.unit = .predicting p → p.phase = .transfer → p.key = .transfer id →
    p.gen = s.eval.actual.gen → tget s.ballast.transfers id = some x → x.phase = .requested was timer →
    GateEntry.transfer id ∈ s.gate.queue →
    let pred := judge s.ship p.lastLimits (evaluate s.ship p.rho p.gen p.tainted p.lastItems)
    let fresh := !p.tainted && x.tankEnds.all (tankFresh s)
    let waits := fun why => Becomes .predictionCompletion s
      { s with ballast := { s.ballast with
        transfers := tput s.ballast.transfers id { x with phase := .requested why timer } } }
    let granted := Becomes .predictionCompletion s
      (advanceActual (latchOn .transfer [.l3, .l0]
        { s with
          gate := { s.gate with queue := s.gate.queue.filter (fun e => decide (e ≠ .transfer id)) }
          ballast := { s.ballast with
            transfers := tput s.ballast.transfers id
              { x with phase := .granted (contentsAt s x.source) (contentsAt s x.dest) s.time 0 false } } }))
    (fresh = false → waits .stale)
    ∧ (fresh = true → s.suspended = true →
      (corrective s.settings.severity s.monitor.actual.kept pred = true → granted)
      ∧ (corrective s.settings.severity s.monitor.actual.kept pred = false → waits .suspended))
    ∧ (fresh = true → s.suspended = false →
      (blocking s.settings pred = none → granted)
      ∧ (∀ c, blocking s.settings pred = some c → waits (.limits c)))
end

