-- ==== Sys2Proof/Laws/State.lean ====
section
/-! SUPPORT. One lemma for each field and each update of the state: what an update leaves as it was.  All hold by
definition, or by the definition of the fold an update is; all are simp lemmas, so no later proof unfolds an update. -/

namespace Sys2Proof.Machine

/-! ### Links -/

@[simp] theorem onLink_powered (l : Link) (f : LinkUnit → LinkUnit) (s : State) :
    (s.onLink l f).powered = s.powered := rfl
@[simp] theorem onLink_restartArmed (l : Link) (f : LinkUnit → LinkUnit) (s : State) :
    (s.onLink l f).restartArmed = s.restartArmed := rfl
@[simp] theorem onLink_mode (l : Link) (f : LinkUnit → LinkUnit) (s : State) : (s.onLink l f).mode = s.mode := rfl
@[simp] theorem onLink_time (l : Link) (f : LinkUnit → LinkUnit) (s : State) : (s.onLink l f).time = s.time := rfl
@[simp] theorem onLink_nvm (l : Link) (f : LinkUnit → LinkUnit) (s : State) : (s.onLink l f).nvm = s.nvm := rfl
@[simp] theorem onLink_ship (l : Link) (f : LinkUnit → LinkUnit) (s : State) : (s.onLink l f).ship = s.ship := rfl
@[simp] theorem onLink_settings (l : Link) (f : LinkUnit → LinkUnit) (s : State) :
    (s.onLink l f).settings = s.settings := rfl
@[simp] theorem onLink_origin (l : Link) (f : LinkUnit → LinkUnit) (s : State) :
    (s.onLink l f).origin = s.origin := rfl
@[simp] theorem onLink_committing (l : Link) (f : LinkUnit → LinkUnit) (s : State) :
    (s.onLink l f).committing = s.committing := rfl
@[simp] theorem onLink_storing (l : Link) (f : LinkUnit → LinkUnit) (s : State) :
    (s.onLink l f).storing = s.storing := rfl
@[simp] theorem onLink_cond (l : Link) (f : LinkUnit → LinkUnit) (s : State) : (s.onLink l f).cond = s.cond := rfl
@[simp] theorem onLink_snapshot (l : Link) (f : LinkUnit → LinkUnit) (s : State) :
    (s.onLink l f).snapshot = s.snapshot := rfl
@[simp] theorem onLink_snapshotOp (l : Link) (f : LinkUnit → LinkUnit) (s : State) :
    (s.onLink l f).snapshotOp = s.snapshotOp := rfl
@[simp] theorem onLink_image (l : Link) (f : LinkUnit → LinkUnit) (s : State) : (s.onLink l f).image = s.image := rfl
@[simp] theorem onLink_eval (l : Link) (f : LinkUnit → LinkUnit) (s : State) : (s.onLink l f).eval = s.eval := rfl
@[simp] theorem onLink_frames (l : Link) (f : LinkUnit → LinkUnit) (s : State) :
    (s.onLink l f).frames = s.frames := rfl
@[simp] theorem onLink_monitor (l : Link) (f : LinkUnit → LinkUnit) (s : State) :
    (s.onLink l f).monitor = s.monitor := rfl
@[simp] theorem onLink_gate (l : Link) (f : LinkUnit → LinkUnit) (s : State) : (s.onLink l f).gate = s.gate := rfl
@[simp] theorem onLink_ballast (l : Link) (f : LinkUnit → LinkUnit) (s : State) :
    (s.onLink l f).ballast = s.ballast := rfl
@[simp] theorem onLink_freeCount (l : Link) (f : LinkUnit → LinkUnit) (s : State) :
    (s.onLink l f).freeCount = s.freeCount := rfl
@[simp] theorem onLink_pending (l : Link) (f : LinkUnit → LinkUnit) (s : State) :
    (s.onLink l f).pending = s.pending := rfl

@[simp] theorem latch_powered (e : Event) (l : Link) (s : State) : (latch e l s).powered = s.powered := rfl
@[simp] theorem latch_restartArmed (e : Event) (l : Link) (s : State) :
    (latch e l s).restartArmed = s.restartArmed := rfl
@[simp] theorem latch_mode (e : Event) (l : Link) (s : State) : (latch e l s).mode = s.mode := rfl
@[simp] theorem latch_time (e : Event) (l : Link) (s : State) : (latch e l s).time = s.time := rfl
@[simp] theorem latch_nvm (e : Event) (l : Link) (s : State) : (latch e l s).nvm = s.nvm := rfl
@[simp] theorem latch_ship (e : Event) (l : Link) (s : State) : (latch e l s).ship = s.ship := rfl
@[simp] theorem latch_settings (e : Event) (l : Link) (s : State) : (latch e l s).settings = s.settings := rfl
@[simp] theorem latch_origin (e : Event) (l : Link) (s : State) : (latch e l s).origin = s.origin := rfl
@[simp] theorem latch_committing (e : Event) (l : Link) (s : State) : (latch e l s).committing = s.committing := rfl
@[simp] theorem latch_storing (e : Event) (l : Link) (s : State) : (latch e l s).storing = s.storing := rfl
@[simp] theorem latch_cond (e : Event) (l : Link) (s : State) : (latch e l s).cond = s.cond := rfl
@[simp] theorem latch_snapshot (e : Event) (l : Link) (s : State) : (latch e l s).snapshot = s.snapshot := rfl
@[simp] theorem latch_snapshotOp (e : Event) (l : Link) (s : State) : (latch e l s).snapshotOp = s.snapshotOp := rfl
@[simp] theorem latch_image (e : Event) (l : Link) (s : State) : (latch e l s).image = s.image := rfl
@[simp] theorem latch_eval (e : Event) (l : Link) (s : State) : (latch e l s).eval = s.eval := rfl
@[simp] theorem latch_frames (e : Event) (l : Link) (s : State) : (latch e l s).frames = s.frames := rfl
@[simp] theorem latch_monitor (e : Event) (l : Link) (s : State) : (latch e l s).monitor = s.monitor := rfl
@[simp] theorem latch_gate (e : Event) (l : Link) (s : State) : (latch e l s).gate = s.gate := rfl
@[simp] theorem latch_ballast (e : Event) (l : Link) (s : State) : (latch e l s).ballast = s.ballast := rfl
@[simp] theorem latch_freeCount (e : Event) (l : Link) (s : State) : (latch e l s).freeCount = s.freeCount := rfl
@[simp] theorem latch_pending (e : Event) (l : Link) (s : State) : (latch e l s).pending = s.pending := rfl

theorem latchOn_form (e : Event) (ls : List Link) (s : State) :
    latchOn e ls s = { s with links := (latchOn e ls s).links } := by
  induction ls generalizing s with
  | nil => rfl
  | cons l ls ih => exact ih (latch e l s)

@[simp] theorem latchOn_powered (e : Event) (ls : List Link) (s : State) :
    (latchOn e ls s).powered = s.powered := by rw [latchOn_form]
@[simp] theorem latchOn_restartArmed (e : Event) (ls : List Link) (s : State) :
    (latchOn e ls s).restartArmed = s.restartArmed := by rw [latchOn_form]
@[simp] theorem latchOn_mode (e : Event) (ls : List Link) (s : State) :
    (latchOn e ls s).mode = s.mode := by rw [latchOn_form]
@[simp] theorem latchOn_time (e : Event) (ls : List Link) (s : State) :
    (latchOn e ls s).time = s.time := by rw [latchOn_form]
@[simp] theorem latchOn_nvm (e : Event) (ls : List Link) (s : State) :
    (latchOn e ls s).nvm = s.nvm := by rw [latchOn_form]
@[simp] theorem latchOn_ship (e : Event) (ls : List Link) (s : State) :
    (latchOn e ls s).ship = s.ship := by rw [latchOn_form]
@[simp] theorem latchOn_settings (e : Event) (ls : List Link) (s : State) :
    (latchOn e ls s).settings = s.settings := by rw [latchOn_form]
@[simp] theorem latchOn_origin (e : Event) (ls : List Link) (s : State) :
    (latchOn e ls s).origin = s.origin := by rw [latchOn_form]
@[simp] theorem latchOn_committing (e : Event) (ls : List Link) (s : State) :
    (latchOn e ls s).committing = s.committing := by rw [latchOn_form]
@[simp] theorem latchOn_storing (e : Event) (ls : List Link) (s : State) :
    (latchOn e ls s).storing = s.storing := by rw [latchOn_form]
@[simp] theorem latchOn_cond (e : Event) (ls : List Link) (s : State) :
    (latchOn e ls s).cond = s.cond := by rw [latchOn_form]
@[simp] theorem latchOn_snapshot (e : Event) (ls : List Link) (s : State) :
    (latchOn e ls s).snapshot = s.snapshot := by rw [latchOn_form]
@[simp] theorem latchOn_snapshotOp (e : Event) (ls : List Link) (s : State) :
    (latchOn e ls s).snapshotOp = s.snapshotOp := by rw [latchOn_form]
@[simp] theorem latchOn_image (e : Event) (ls : List Link) (s : State) :
    (latchOn e ls s).image = s.image := by rw [latchOn_form]
@[simp] theorem latchOn_eval (e : Event) (ls : List Link) (s : State) :
    (latchOn e ls s).eval = s.eval := by rw [latchOn_form]
@[simp] theorem latchOn_frames (e : Event) (ls : List Link) (s : State) :
    (latchOn e ls s).frames = s.frames := by rw [latchOn_form]
@[simp] theorem latchOn_monitor (e : Event) (ls : List Link) (s : State) :
    (latchOn e ls s).monitor = s.monitor := by rw [latchOn_form]
@[simp] theorem latchOn_gate (e : Event) (ls : List Link) (s : State) :
    (latchOn e ls s).gate = s.gate := by rw [latchOn_form]
@[simp] theorem latchOn_ballast (e : Event) (ls : List Link) (s : State) :
    (latchOn e ls s).ballast = s.ballast := by rw [latchOn_form]
@[simp] theorem latchOn_freeCount (e : Event) (ls : List Link) (s : State) :
    (latchOn e ls s).freeCount = s.freeCount := by rw [latchOn_form]
@[simp] theorem latchOn_pending (e : Event) (ls : List Link) (s : State) :
    (latchOn e ls s).pending = s.pending := by rw [latchOn_form]

@[simp] theorem latchLift_powered (cs : List CraneId) (s : State) :
    (latchLift cs s).powered = s.powered := latchOn_powered _ _ s
@[simp] theorem latchLift_restartArmed (cs : List CraneId) (s : State) :
    (latchLift cs s).restartArmed = s.restartArmed := latchOn_restartArmed _ _ s
@[simp] theorem latchLift_mode (cs : List CraneId) (s : State) : (latchLift cs s).mode = s.mode := latchOn_mode _ _ s
@[simp] theorem latchLift_time (cs : List CraneId) (s : State) : (latchLift cs s).time = s.time := latchOn_time _ _ s
@[simp] theorem latchLift_nvm (cs : List CraneId) (s : State) : (latchLift cs s).nvm = s.nvm := latchOn_nvm _ _ s
@[simp] theorem latchLift_ship (cs : List CraneId) (s : State) : (latchLift cs s).ship = s.ship := latchOn_ship _ _ s
@[simp] theorem latchLift_settings (cs : List CraneId) (s : State) :
    (latchLift cs s).settings = s.settings := latchOn_settings _ _ s
@[simp] theorem latchLift_origin (cs : List CraneId) (s : State) :
    (latchLift cs s).origin = s.origin := latchOn_origin _ _ s
@[simp] theorem latchLift_committing (cs : List CraneId) (s : State) :
    (latchLift cs s).committing = s.committing := latchOn_committing _ _ s
@[simp] theorem latchLift_storing (cs : List CraneId) (s : State) :
    (latchLift cs s).storing = s.storing := latchOn_storing _ _ s
@[simp] theorem latchLift_cond (cs : List CraneId) (s : State) : (latchLift cs s).cond = s.cond := latchOn_cond _ _ s
@[simp] theorem latchLift_snapshot (cs : List CraneId) (s : State) :
    (latchLift cs s).snapshot = s.snapshot := latchOn_snapshot _ _ s
@[simp] theorem latchLift_snapshotOp (cs : List CraneId) (s : State) :
    (latchLift cs s).snapshotOp = s.snapshotOp := latchOn_snapshotOp _ _ s
@[simp] theorem latchLift_image (cs : List CraneId) (s : State) :
    (latchLift cs s).image = s.image := latchOn_image _ _ s
@[simp] theorem latchLift_eval (cs : List CraneId) (s : State) : (latchLift cs s).eval = s.eval := latchOn_eval _ _ s
@[simp] theorem latchLift_frames (cs : List CraneId) (s : State) :
    (latchLift cs s).frames = s.frames := latchOn_frames _ _ s
@[simp] theorem latchLift_monitor (cs : List CraneId) (s : State) :
    (latchLift cs s).monitor = s.monitor := latchOn_monitor _ _ s
@[simp] theorem latchLift_gate (cs : List CraneId) (s : State) : (latchLift cs s).gate = s.gate := latchOn_gate _ _ s
@[simp] theorem latchLift_ballast (cs : List CraneId) (s : State) :
    (latchLift cs s).ballast = s.ballast := latchOn_ballast _ _ s
@[simp] theorem latchLift_freeCount (cs : List CraneId) (s : State) :
    (latchLift cs s).freeCount = s.freeCount := latchOn_freeCount _ _ s
@[simp] theorem latchLift_pending (cs : List CraneId) (s : State) :
    (latchLift cs s).pending = s.pending := latchOn_pending _ _ s

@[simp] theorem latchTransfer_powered  (s : State) : (latchTransfer s).powered = s.powered := latchOn_powered _ _ s
@[simp] theorem latchTransfer_restartArmed  (s : State) :
    (latchTransfer s).restartArmed = s.restartArmed := latchOn_restartArmed _ _ s
@[simp] theorem latchTransfer_mode  (s : State) : (latchTransfer s).mode = s.mode := latchOn_mode _ _ s
@[simp] theorem latchTransfer_time  (s : State) : (latchTransfer s).time = s.time := latchOn_time _ _ s
@[simp] theorem latchTransfer_nvm  (s : State) : (latchTransfer s).nvm = s.nvm := latchOn_nvm _ _ s
@[simp] theorem latchTransfer_ship  (s : State) : (latchTransfer s).ship = s.ship := latchOn_ship _ _ s
@[simp] theorem latchTransfer_settings  (s : State) :
    (latchTransfer s).settings = s.settings := latchOn_settings _ _ s
@[simp] theorem latchTransfer_origin  (s : State) : (latchTransfer s).origin = s.origin := latchOn_origin _ _ s
@[simp] theorem latchTransfer_committing  (s : State) :
    (latchTransfer s).committing = s.committing := latchOn_committing _ _ s
@[simp] theorem latchTransfer_storing  (s : State) : (latchTransfer s).storing = s.storing := latchOn_storing _ _ s
@[simp] theorem latchTransfer_cond  (s : State) : (latchTransfer s).cond = s.cond := latchOn_cond _ _ s
@[simp] theorem latchTransfer_snapshot  (s : State) :
    (latchTransfer s).snapshot = s.snapshot := latchOn_snapshot _ _ s
@[simp] theorem latchTransfer_snapshotOp  (s : State) :
    (latchTransfer s).snapshotOp = s.snapshotOp := latchOn_snapshotOp _ _ s
@[simp] theorem latchTransfer_image  (s : State) : (latchTransfer s).image = s.image := latchOn_image _ _ s
@[simp] theorem latchTransfer_eval  (s : State) : (latchTransfer s).eval = s.eval := latchOn_eval _ _ s
@[simp] theorem latchTransfer_frames  (s : State) : (latchTransfer s).frames = s.frames := latchOn_frames _ _ s
@[simp] theorem latchTransfer_monitor  (s : State) : (latchTransfer s).monitor = s.monitor := latchOn_monitor _ _ s
@[simp] theorem latchTransfer_gate  (s : State) : (latchTransfer s).gate = s.gate := latchOn_gate _ _ s
@[simp] theorem latchTransfer_ballast  (s : State) : (latchTransfer s).ballast = s.ballast := latchOn_ballast _ _ s
@[simp] theorem latchTransfer_freeCount  (s : State) :
    (latchTransfer s).freeCount = s.freeCount := latchOn_freeCount _ _ s
@[simp] theorem latchTransfer_pending  (s : State) : (latchTransfer s).pending = s.pending := latchOn_pending _ _ s

@[simp] theorem startAllTx_powered  (s : State) : (startAllTx s).powered = s.powered := rfl
@[simp] theorem startAllTx_restartArmed  (s : State) : (startAllTx s).restartArmed = s.restartArmed := rfl
@[simp] theorem startAllTx_mode  (s : State) : (startAllTx s).mode = s.mode := rfl
@[simp] theorem startAllTx_time  (s : State) : (startAllTx s).time = s.time := rfl
@[simp] theorem startAllTx_nvm  (s : State) : (startAllTx s).nvm = s.nvm := rfl
@[simp] theorem startAllTx_ship  (s : State) : (startAllTx s).ship = s.ship := rfl
@[simp] theorem startAllTx_settings  (s : State) : (startAllTx s).settings = s.settings := rfl
@[simp] theorem startAllTx_origin  (s : State) : (startAllTx s).origin = s.origin := rfl
@[simp] theorem startAllTx_committing  (s : State) : (startAllTx s).committing = s.committing := rfl
@[simp] theorem startAllTx_storing  (s : State) : (startAllTx s).storing = s.storing := rfl
@[simp] theorem startAllTx_cond  (s : State) : (startAllTx s).cond = s.cond := rfl
@[simp] theorem startAllTx_snapshot  (s : State) : (startAllTx s).snapshot = s.snapshot := rfl
@[simp] theorem startAllTx_snapshotOp  (s : State) : (startAllTx s).snapshotOp = s.snapshotOp := rfl
@[simp] theorem startAllTx_image  (s : State) : (startAllTx s).image = s.image := rfl
@[simp] theorem startAllTx_eval  (s : State) : (startAllTx s).eval = s.eval := rfl
@[simp] theorem startAllTx_frames  (s : State) : (startAllTx s).frames = s.frames := rfl
@[simp] theorem startAllTx_monitor  (s : State) : (startAllTx s).monitor = s.monitor := rfl
@[simp] theorem startAllTx_gate  (s : State) : (startAllTx s).gate = s.gate := rfl
@[simp] theorem startAllTx_ballast  (s : State) : (startAllTx s).ballast = s.ballast := rfl
@[simp] theorem startAllTx_freeCount  (s : State) : (startAllTx s).freeCount = s.freeCount := rfl
@[simp] theorem startAllTx_pending  (s : State) : (startAllTx s).pending = s.pending := rfl

/-! ### The lift gate -/

@[simp] theorem onRec_powered (c : CraneId) (f : LiftRecord → LiftRecord) (s : State) :
    (s.onRec c f).powered = s.powered := rfl
@[simp] theorem onRec_restartArmed (c : CraneId) (f : LiftRecord → LiftRecord) (s : State) :
    (s.onRec c f).restartArmed = s.restartArmed := rfl
@[simp] theorem onRec_mode (c : CraneId) (f : LiftRecord → LiftRecord) (s : State) :
    (s.onRec c f).mode = s.mode := rfl
@[simp] theorem onRec_time (c : CraneId) (f : LiftRecord → LiftRecord) (s : State) :
    (s.onRec c f).time = s.time := rfl
@[simp] theorem onRec_nvm (c : CraneId) (f : LiftRecord → LiftRecord) (s : State) : (s.onRec c f).nvm = s.nvm := rfl
@[simp] theorem onRec_ship (c : CraneId) (f : LiftRecord → LiftRecord) (s : State) :
    (s.onRec c f).ship = s.ship := rfl
@[simp] theorem onRec_settings (c : CraneId) (f : LiftRecord → LiftRecord) (s : State) :
    (s.onRec c f).settings = s.settings := rfl
@[simp] theorem onRec_origin (c : CraneId) (f : LiftRecord → LiftRecord) (s : State) :
    (s.onRec c f).origin = s.origin := rfl
@[simp] theorem onRec_committing (c : CraneId) (f : LiftRecord → LiftRecord) (s : State) :
    (s.onRec c f).committing = s.committing := rfl
@[simp] theorem onRec_storing (c : CraneId) (f : LiftRecord → LiftRecord) (s : State) :
    (s.onRec c f).storing = s.storing := rfl
@[simp] theorem onRec_links (c : CraneId) (f : LiftRecord → LiftRecord) (s : State) :
    (s.onRec c f).links = s.links := rfl
@[simp] theorem onRec_cond (c : CraneId) (f : LiftRecord → LiftRecord) (s : State) :
    (s.onRec c f).cond = s.cond := rfl
@[simp] theorem onRec_snapshot (c : CraneId) (f : LiftRecord → LiftRecord) (s : State) :
    (s.onRec c f).snapshot = s.snapshot := rfl
@[simp] theorem onRec_snapshotOp (c : CraneId) (f : LiftRecord → LiftRecord) (s : State) :
    (s.onRec c f).snapshotOp = s.snapshotOp := rfl
@[simp] theorem onRec_image (c : CraneId) (f : LiftRecord → LiftRecord) (s : State) :
    (s.onRec c f).image = s.image := rfl
@[simp] theorem onRec_eval (c : CraneId) (f : LiftRecord → LiftRecord) (s : State) :
    (s.onRec c f).eval = s.eval := rfl
@[simp] theorem onRec_frames (c : CraneId) (f : LiftRecord → LiftRecord) (s : State) :
    (s.onRec c f).frames = s.frames := rfl
@[simp] theorem onRec_monitor (c : CraneId) (f : LiftRecord → LiftRecord) (s : State) :
    (s.onRec c f).monitor = s.monitor := rfl
@[simp] theorem onRec_ballast (c : CraneId) (f : LiftRecord → LiftRecord) (s : State) :
    (s.onRec c f).ballast = s.ballast := rfl
@[simp] theorem onRec_freeCount (c : CraneId) (f : LiftRecord → LiftRecord) (s : State) :
    (s.onRec c f).freeCount = s.freeCount := rfl
@[simp] theorem onRec_pending (c : CraneId) (f : LiftRecord → LiftRecord) (s : State) :
    (s.onRec c f).pending = s.pending := rfl

@[simp] theorem onRec_gate_stale (c : CraneId) (f : LiftRecord → LiftRecord) (s : State) :
    (s.onRec c f).gate.stale = s.gate.stale := rfl
@[simp] theorem onRec_gate_queue (c : CraneId) (f : LiftRecord → LiftRecord) (s : State) :
    (s.onRec c f).gate.queue = s.gate.queue := rfl
@[simp] theorem onRec_gate_slot (c : CraneId) (f : LiftRecord → LiftRecord) (s : State) :
    (s.onRec c f).gate.slot = s.gate.slot := rfl
@[simp] theorem onRec_gate_window (c : CraneId) (f : LiftRecord → LiftRecord) (s : State) :
    (s.onRec c f).gate.window = s.gate.window := rfl
@[simp] theorem onRec_gate_inhibit (c : CraneId) (f : LiftRecord → LiftRecord) (s : State) :
    (s.onRec c f).gate.inhibit = s.gate.inhibit := rfl

theorem onRecs_form (cs : List CraneId) (f : LiftRecord → LiftRecord) (s : State) :
    s.onRecs cs f = { s with gate := { s.gate with recs := (s.onRecs cs f).gate.recs } } := by
  induction cs generalizing s with
  | nil => rfl
  | cons c cs ih => exact ih (s.onRec c f)

@[simp] theorem onRecs_powered (cs : List CraneId) (f : LiftRecord → LiftRecord) (s : State) :
    (s.onRecs cs f).powered = s.powered := by rw [onRecs_form]
@[simp] theorem onRecs_restartArmed (cs : List CraneId) (f : LiftRecord → LiftRecord) (s : State) :
    (s.onRecs cs f).restartArmed = s.restartArmed := by rw [onRecs_form]
@[simp] theorem onRecs_mode (cs : List CraneId) (f : LiftRecord → LiftRecord) (s : State) :
    (s.onRecs cs f).mode = s.mode := by rw [onRecs_form]
@[simp] theorem onRecs_time (cs : List CraneId) (f : LiftRecord → LiftRecord) (s : State) :
    (s.onRecs cs f).time = s.time := by rw [onRecs_form]
@[simp] theorem onRecs_nvm (cs : List CraneId) (f : LiftRecord → LiftRecord) (s : State) :
    (s.onRecs cs f).nvm = s.nvm := by rw [onRecs_form]
@[simp] theorem onRecs_ship (cs : List CraneId) (f : LiftRecord → LiftRecord) (s : State) :
    (s.onRecs cs f).ship = s.ship := by rw [onRecs_form]
@[simp] theorem onRecs_settings (cs : List CraneId) (f : LiftRecord → LiftRecord) (s : State) :
    (s.onRecs cs f).settings = s.settings := by rw [onRecs_form]
@[simp] theorem onRecs_origin (cs : List CraneId) (f : LiftRecord → LiftRecord) (s : State) :
    (s.onRecs cs f).origin = s.origin := by rw [onRecs_form]
@[simp] theorem onRecs_committing (cs : List CraneId) (f : LiftRecord → LiftRecord) (s : State) :
    (s.onRecs cs f).committing = s.committing := by rw [onRecs_form]
@[simp] theorem onRecs_storing (cs : List CraneId) (f : LiftRecord → LiftRecord) (s : State) :
    (s.onRecs cs f).storing = s.storing := by rw [onRecs_form]
@[simp] theorem onRecs_links (cs : List CraneId) (f : LiftRecord → LiftRecord) (s : State) :
    (s.onRecs cs f).links = s.links := by rw [onRecs_form]
@[simp] theorem onRecs_cond (cs : List CraneId) (f : LiftRecord → LiftRecord) (s : State) :
    (s.onRecs cs f).cond = s.cond := by rw [onRecs_form]
@[simp] theorem onRecs_snapshot (cs : List CraneId) (f : LiftRecord → LiftRecord) (s : State) :
    (s.onRecs cs f).snapshot = s.snapshot := by rw [onRecs_form]
@[simp] theorem onRecs_snapshotOp (cs : List CraneId) (f : LiftRecord → LiftRecord) (s : State) :
    (s.onRecs cs f).snapshotOp = s.snapshotOp := by rw [onRecs_form]
@[simp] theorem onRecs_image (cs : List CraneId) (f : LiftRecord → LiftRecord) (s : State) :
    (s.onRecs cs f).image = s.image := by rw [onRecs_form]
@[simp] theorem onRecs_eval (cs : List CraneId) (f : LiftRecord → LiftRecord) (s : State) :
    (s.onRecs cs f).eval = s.eval := by rw [onRecs_form]
@[simp] theorem onRecs_frames (cs : List CraneId) (f : LiftRecord → LiftRecord) (s : State) :
    (s.onRecs cs f).frames = s.frames := by rw [onRecs_form]
@[simp] theorem onRecs_monitor (cs : List CraneId) (f : LiftRecord → LiftRecord) (s : State) :
    (s.onRecs cs f).monitor = s.monitor := by rw [onRecs_form]
@[simp] theorem onRecs_ballast (cs : List CraneId) (f : LiftRecord → LiftRecord) (s : State) :
    (s.onRecs cs f).ballast = s.ballast := by rw [onRecs_form]
@[simp] theorem onRecs_freeCount (cs : List CraneId) (f : LiftRecord → LiftRecord) (s : State) :
    (s.onRecs cs f).freeCount = s.freeCount := by rw [onRecs_form]
@[simp] theorem onRecs_pending (cs : List CraneId) (f : LiftRecord → LiftRecord) (s : State) :
    (s.onRecs cs f).pending = s.pending := by rw [onRecs_form]

@[simp] theorem onRecs_gate_stale (cs : List CraneId) (f : LiftRecord → LiftRecord) (s : State) :
    (s.onRecs cs f).gate.stale = s.gate.stale := by rw [onRecs_form]
@[simp] theorem onRecs_gate_queue (cs : List CraneId) (f : LiftRecord → LiftRecord) (s : State) :
    (s.onRecs cs f).gate.queue = s.gate.queue := by rw [onRecs_form]
@[simp] theorem onRecs_gate_slot (cs : List CraneId) (f : LiftRecord → LiftRecord) (s : State) :
    (s.onRecs cs f).gate.slot = s.gate.slot := by rw [onRecs_form]
@[simp] theorem onRecs_gate_window (cs : List CraneId) (f : LiftRecord → LiftRecord) (s : State) :
    (s.onRecs cs f).gate.window = s.gate.window := by rw [onRecs_form]
@[simp] theorem onRecs_gate_inhibit (cs : List CraneId) (f : LiftRecord → LiftRecord) (s : State) :
    (s.onRecs cs f).gate.inhibit = s.gate.inhibit := by rw [onRecs_form]

@[simp] theorem setStale_powered (c : CraneId) (b : Bool) (s : State) : (s.setStale c b).powered = s.powered := rfl
@[simp] theorem setStale_restartArmed (c : CraneId) (b : Bool) (s : State) :
    (s.setStale c b).restartArmed = s.restartArmed := rfl
@[simp] theorem setStale_mode (c : CraneId) (b : Bool) (s : State) : (s.setStale c b).mode = s.mode := rfl
@[simp] theorem setStale_time (c : CraneId) (b : Bool) (s : State) : (s.setStale c b).time = s.time := rfl
@[simp] theorem setStale_nvm (c : CraneId) (b : Bool) (s : State) : (s.setStale c b).nvm = s.nvm := rfl
@[simp] theorem setStale_ship (c : CraneId) (b : Bool) (s : State) : (s.setStale c b).ship = s.ship := rfl
@[simp] theorem setStale_settings (c : CraneId) (b : Bool) (s : State) : (s.setStale c b).settings = s.settings := rfl
@[simp] theorem setStale_origin (c : CraneId) (b : Bool) (s : State) : (s.setStale c b).origin = s.origin := rfl
@[simp] theorem setStale_committing (c : CraneId) (b : Bool) (s : State) :
    (s.setStale c b).committing = s.committing := rfl
@[simp] theorem setStale_storing (c : CraneId) (b : Bool) (s : State) : (s.setStale c b).storing = s.storing := rfl
@[simp] theorem setStale_links (c : CraneId) (b : Bool) (s : State) : (s.setStale c b).links = s.links := rfl
@[simp] theorem setStale_cond (c : CraneId) (b : Bool) (s : State) : (s.setStale c b).cond = s.cond := rfl
@[simp] theorem setStale_snapshot (c : CraneId) (b : Bool) (s : State) : (s.setStale c b).snapshot = s.snapshot := rfl
@[simp] theorem setStale_snapshotOp (c : CraneId) (b : Bool) (s : State) :
    (s.setStale c b).snapshotOp = s.snapshotOp := rfl
@[simp] theorem setStale_image (c : CraneId) (b : Bool) (s : State) : (s.setStale c b).image = s.image := rfl
@[simp] theorem setStale_eval (c : CraneId) (b : Bool) (s : State) : (s.setStale c b).eval = s.eval := rfl
@[simp] theorem setStale_frames (c : CraneId) (b : Bool) (s : State) : (s.setStale c b).frames = s.frames := rfl
@[simp] theorem setStale_monitor (c : CraneId) (b : Bool) (s : State) : (s.setStale c b).monitor = s.monitor := rfl
@[simp] theorem setStale_ballast (c : CraneId) (b : Bool) (s : State) : (s.setStale c b).ballast = s.ballast := rfl
@[simp] theorem setStale_freeCount (c : CraneId) (b : Bool) (s : State) :
    (s.setStale c b).freeCount = s.freeCount := rfl
@[simp] theorem setStale_pending (c : CraneId) (b : Bool) (s : State) : (s.setStale c b).pending = s.pending := rfl

@[simp] theorem setStale_gate_recs (c : CraneId) (b : Bool) (s : State) :
    (s.setStale c b).gate.recs = s.gate.recs := rfl
@[simp] theorem setStale_gate_queue (c : CraneId) (b : Bool) (s : State) :
    (s.setStale c b).gate.queue = s.gate.queue := rfl
@[simp] theorem setStale_gate_slot (c : CraneId) (b : Bool) (s : State) :
    (s.setStale c b).gate.slot = s.gate.slot := rfl
@[simp] theorem setStale_gate_window (c : CraneId) (b : Bool) (s : State) :
    (s.setStale c b).gate.window = s.gate.window := rfl
@[simp] theorem setStale_gate_inhibit (c : CraneId) (b : Bool) (s : State) :
    (s.setStale c b).gate.inhibit = s.gate.inhibit := rfl

theorem clearStale_form (cs : List CraneId) (s : State) :
    clearStale cs s = { s with gate := { s.gate with stale := (clearStale cs s).gate.stale } } := by
  induction cs generalizing s with
  | nil => rfl
  | cons c cs ih => exact ih (s.setStale c false)

@[simp] theorem clearStale_powered (cs : List CraneId) (s : State) :
    (clearStale cs s).powered = s.powered := by rw [clearStale_form]
@[simp] theorem clearStale_restartArmed (cs : List CraneId) (s : State) :
    (clearStale cs s).restartArmed = s.restartArmed := by rw [clearStale_form]
@[simp] theorem clearStale_mode (cs : List CraneId) (s : State) :
    (clearStale cs s).mode = s.mode := by rw [clearStale_form]
@[simp] theorem clearStale_time (cs : List CraneId) (s : State) :
    (clearStale cs s).time = s.time := by rw [clearStale_form]
@[simp] theorem clearStale_nvm (cs : List CraneId) (s : State) :
    (clearStale cs s).nvm = s.nvm := by rw [clearStale_form]
@[simp] theorem clearStale_ship (cs : List CraneId) (s : State) :
    (clearStale cs s).ship = s.ship := by rw [clearStale_form]
@[simp] theorem clearStale_settings (cs : List CraneId) (s : State) :
    (clearStale cs s).settings = s.settings := by rw [clearStale_form]
@[simp] theorem clearStale_origin (cs : List CraneId) (s : State) :
    (clearStale cs s).origin = s.origin := by rw [clearStale_form]
@[simp] theorem clearStale_committing (cs : List CraneId) (s : State) :
    (clearStale cs s).committing = s.committing := by rw [clearStale_form]
@[simp] theorem clearStale_storing (cs : List CraneId) (s : State) :
    (clearStale cs s).storing = s.storing := by rw [clearStale_form]
@[simp] theorem clearStale_links (cs : List CraneId) (s : State) :
    (clearStale cs s).links = s.links := by rw [clearStale_form]
@[simp] theorem clearStale_cond (cs : List CraneId) (s : State) :
    (clearStale cs s).cond = s.cond := by rw [clearStale_form]
@[simp] theorem clearStale_snapshot (cs : List CraneId) (s : State) :
    (clearStale cs s).snapshot = s.snapshot := by rw [clearStale_form]
@[simp] theorem clearStale_snapshotOp (cs : List CraneId) (s : State) :
    (clearStale cs s).snapshotOp = s.snapshotOp := by rw [clearStale_form]
@[simp] theorem clearStale_image (cs : List CraneId) (s : State) :
    (clearStale cs s).image = s.image := by rw [clearStale_form]
@[simp] theorem clearStale_eval (cs : List CraneId) (s : State) :
    (clearStale cs s).eval = s.eval := by rw [clearStale_form]
@[simp] theorem clearStale_frames (cs : List CraneId) (s : State) :
    (clearStale cs s).frames = s.frames := by rw [clearStale_form]
@[simp] theorem clearStale_monitor (cs : List CraneId) (s : State) :
    (clearStale cs s).monitor = s.monitor := by rw [clearStale_form]
@[simp] theorem clearStale_ballast (cs : List CraneId) (s : State) :
    (clearStale cs s).ballast = s.ballast := by rw [clearStale_form]
@[simp] theorem clearStale_freeCount (cs : List CraneId) (s : State) :
    (clearStale cs s).freeCount = s.freeCount := by rw [clearStale_form]
@[simp] theorem clearStale_pending (cs : List CraneId) (s : State) :
    (clearStale cs s).pending = s.pending := by rw [clearStale_form]

@[simp] theorem clearStale_gate_recs (cs : List CraneId) (s : State) :
    (clearStale cs s).gate.recs = s.gate.recs := by rw [clearStale_form]
@[simp] theorem clearStale_gate_queue (cs : List CraneId) (s : State) :
    (clearStale cs s).gate.queue = s.gate.queue := by rw [clearStale_form]
@[simp] theorem clearStale_gate_slot (cs : List CraneId) (s : State) :
    (clearStale cs s).gate.slot = s.gate.slot := by rw [clearStale_form]
@[simp] theorem clearStale_gate_window (cs : List CraneId) (s : State) :
    (clearStale cs s).gate.window = s.gate.window := by rw [clearStale_form]
@[simp] theorem clearStale_gate_inhibit (cs : List CraneId) (s : State) :
    (clearStale cs s).gate.inhibit = s.gate.inhibit := by rw [clearStale_form]

@[simp] theorem setQueue_powered (q : List GateEntry) (s : State) : (s.setQueue q).powered = s.powered := rfl
@[simp] theorem setQueue_restartArmed (q : List GateEntry) (s : State) :
    (s.setQueue q).restartArmed = s.restartArmed := rfl
@[simp] theorem setQueue_mode (q : List GateEntry) (s : State) : (s.setQueue q).mode = s.mode := rfl
@[simp] theorem setQueue_time (q : List GateEntry) (s : State) : (s.setQueue q).time = s.time := rfl
@[simp] theorem setQueue_nvm (q : List GateEntry) (s : State) : (s.setQueue q).nvm = s.nvm := rfl
@[simp] theorem setQueue_ship (q : List GateEntry) (s : State) : (s.setQueue q).ship = s.ship := rfl
@[simp] theorem setQueue_settings (q : List GateEntry) (s : State) : (s.setQueue q).settings = s.settings := rfl
@[simp] theorem setQueue_origin (q : List GateEntry) (s : State) : (s.setQueue q).origin = s.origin := rfl
@[simp] theorem setQueue_committing (q : List GateEntry) (s : State) : (s.setQueue q).committing = s.committing := rfl
@[simp] theorem setQueue_storing (q : List GateEntry) (s : State) : (s.setQueue q).storing = s.storing := rfl
@[simp] theorem setQueue_links (q : List GateEntry) (s : State) : (s.setQueue q).links = s.links := rfl
@[simp] theorem setQueue_cond (q : List GateEntry) (s : State) : (s.setQueue q).cond = s.cond := rfl
@[simp] theorem setQueue_snapshot (q : List GateEntry) (s : State) : (s.setQueue q).snapshot = s.snapshot := rfl
@[simp] theorem setQueue_snapshotOp (q : List GateEntry) (s : State) : (s.setQueue q).snapshotOp = s.snapshotOp := rfl
@[simp] theorem setQueue_image (q : List GateEntry) (s : State) : (s.setQueue q).image = s.image := rfl
@[simp] theorem setQueue_eval (q : List GateEntry) (s : State) : (s.setQueue q).eval = s.eval := rfl
@[simp] theorem setQueue_frames (q : List GateEntry) (s : State) : (s.setQueue q).frames = s.frames := rfl
@[simp] theorem setQueue_monitor (q : List GateEntry) (s : State) : (s.setQueue q).monitor = s.monitor := rfl
@[simp] theorem setQueue_ballast (q : List GateEntry) (s : State) : (s.setQueue q).ballast = s.ballast := rfl
@[simp] theorem setQueue_freeCount (q : List GateEntry) (s : State) : (s.setQueue q).freeCount = s.freeCount := rfl
@[simp] theorem setQueue_pending (q : List GateEntry) (s : State) : (s.setQueue q).pending = s.pending := rfl

@[simp] theorem setQueue_gate_recs (q : List GateEntry) (s : State) : (s.setQueue q).gate.recs = s.gate.recs := rfl
@[simp] theorem setQueue_gate_stale (q : List GateEntry) (s : State) : (s.setQueue q).gate.stale = s.gate.stale := rfl
@[simp] theorem setQueue_gate_slot (q : List GateEntry) (s : State) : (s.setQueue q).gate.slot = s.gate.slot := rfl
@[simp] theorem setQueue_gate_window (q : List GateEntry) (s : State) :
    (s.setQueue q).gate.window = s.gate.window := rfl
@[simp] theorem setQueue_gate_inhibit (q : List GateEntry) (s : State) :
    (s.setQueue q).gate.inhibit = s.gate.inhibit := rfl

@[simp] theorem setQueue_gate_queue (q : List GateEntry) (s : State) : (s.setQueue q).gate.queue = q := rfl

@[simp] theorem setSlot_powered (r : Option LiftRef) (s : State) : (s.setSlot r).powered = s.powered := rfl
@[simp] theorem setSlot_restartArmed (r : Option LiftRef) (s : State) :
    (s.setSlot r).restartArmed = s.restartArmed := rfl
@[simp] theorem setSlot_mode (r : Option LiftRef) (s : State) : (s.setSlot r).mode = s.mode := rfl
@[simp] theorem setSlot_time (r : Option LiftRef) (s : State) : (s.setSlot r).time = s.time := rfl
@[simp] theorem setSlot_nvm (r : Option LiftRef) (s : State) : (s.setSlot r).nvm = s.nvm := rfl
@[simp] theorem setSlot_ship (r : Option LiftRef) (s : State) : (s.setSlot r).ship = s.ship := rfl
@[simp] theorem setSlot_settings (r : Option LiftRef) (s : State) : (s.setSlot r).settings = s.settings := rfl
@[simp] theorem setSlot_origin (r : Option LiftRef) (s : State) : (s.setSlot r).origin = s.origin := rfl
@[simp] theorem setSlot_committing (r : Option LiftRef) (s : State) : (s.setSlot r).committing = s.committing := rfl
@[simp] theorem setSlot_storing (r : Option LiftRef) (s : State) : (s.setSlot r).storing = s.storing := rfl
@[simp] theorem setSlot_links (r : Option LiftRef) (s : State) : (s.setSlot r).links = s.links := rfl
@[simp] theorem setSlot_cond (r : Option LiftRef) (s : State) : (s.setSlot r).cond = s.cond := rfl
@[simp] theorem setSlot_snapshot (r : Option LiftRef) (s : State) : (s.setSlot r).snapshot = s.snapshot := rfl
@[simp] theorem setSlot_snapshotOp (r : Option LiftRef) (s : State) : (s.setSlot r).snapshotOp = s.snapshotOp := rfl
@[simp] theorem setSlot_image (r : Option LiftRef) (s : State) : (s.setSlot r).image = s.image := rfl
@[simp] theorem setSlot_eval (r : Option LiftRef) (s : State) : (s.setSlot r).eval = s.eval := rfl
@[simp] theorem setSlot_frames (r : Option LiftRef) (s : State) : (s.setSlot r).frames = s.frames := rfl
@[simp] theorem setSlot_monitor (r : Option LiftRef) (s : State) : (s.setSlot r).monitor = s.monitor := rfl
@[simp] theorem setSlot_ballast (r : Option LiftRef) (s : State) : (s.setSlot r).ballast = s.ballast := rfl
@[simp] theorem setSlot_freeCount (r : Option LiftRef) (s : State) : (s.setSlot r).freeCount = s.freeCount := rfl
@[simp] theorem setSlot_pending (r : Option LiftRef) (s : State) : (s.setSlot r).pending = s.pending := rfl

@[simp] theorem setSlot_gate_recs (r : Option LiftRef) (s : State) : (s.setSlot r).gate.recs = s.gate.recs := rfl
@[simp] theorem setSlot_gate_stale (r : Option LiftRef) (s : State) : (s.setSlot r).gate.stale = s.gate.stale := rfl
@[simp] theorem setSlot_gate_queue (r : Option LiftRef) (s : State) : (s.setSlot r).gate.queue = s.gate.queue := rfl
@[simp] theorem setSlot_gate_window (r : Option LiftRef) (s : State) :
    (s.setSlot r).gate.window = s.gate.window := rfl
@[simp] theorem setSlot_gate_inhibit (r : Option LiftRef) (s : State) :
    (s.setSlot r).gate.inhibit = s.gate.inhibit := rfl

@[simp] theorem setSlot_gate_slot (r : Option LiftRef) (s : State) : (s.setSlot r).gate.slot = r := rfl

@[simp] theorem leaveQueue_powered (e : GateEntry) (s : State) : (leaveQueue e s).powered = s.powered := rfl
@[simp] theorem leaveQueue_restartArmed (e : GateEntry) (s : State) :
    (leaveQueue e s).restartArmed = s.restartArmed := rfl
@[simp] theorem leaveQueue_mode (e : GateEntry) (s : State) : (leaveQueue e s).mode = s.mode := rfl
@[simp] theorem leaveQueue_time (e : GateEntry) (s : State) : (leaveQueue e s).time = s.time := rfl
@[simp] theorem leaveQueue_nvm (e : GateEntry) (s : State) : (leaveQueue e s).nvm = s.nvm := rfl
@[simp] theorem leaveQueue_ship (e : GateEntry) (s : State) : (leaveQueue e s).ship = s.ship := rfl
@[simp] theorem leaveQueue_settings (e : GateEntry) (s : State) : (leaveQueue e s).settings = s.settings := rfl
@[simp] theorem leaveQueue_origin (e : GateEntry) (s : State) : (leaveQueue e s).origin = s.origin := rfl
@[simp] theorem leaveQueue_committing (e : GateEntry) (s : State) : (leaveQueue e s).committing = s.committing := rfl
@[simp] theorem leaveQueue_storing (e : GateEntry) (s : State) : (leaveQueue e s).storing = s.storing := rfl
@[simp] theorem leaveQueue_links (e : GateEntry) (s : State) : (leaveQueue e s).links = s.links := rfl
@[simp] theorem leaveQueue_cond (e : GateEntry) (s : State) : (leaveQueue e s).cond = s.cond := rfl
@[simp] theorem leaveQueue_snapshot (e : GateEntry) (s : State) : (leaveQueue e s).snapshot = s.snapshot := rfl
@[simp] theorem leaveQueue_snapshotOp (e : GateEntry) (s : State) : (leaveQueue e s).snapshotOp = s.snapshotOp := rfl
@[simp] theorem leaveQueue_image (e : GateEntry) (s : State) : (leaveQueue e s).image = s.image := rfl
@[simp] theorem leaveQueue_eval (e : GateEntry) (s : State) : (leaveQueue e s).eval = s.eval := rfl
@[simp] theorem leaveQueue_frames (e : GateEntry) (s : State) : (leaveQueue e s).frames = s.frames := rfl
@[simp] theorem leaveQueue_monitor (e : GateEntry) (s : State) : (leaveQueue e s).monitor = s.monitor := rfl
@[simp] theorem leaveQueue_ballast (e : GateEntry) (s : State) : (leaveQueue e s).ballast = s.ballast := rfl
@[simp] theorem leaveQueue_freeCount (e : GateEntry) (s : State) : (leaveQueue e s).freeCount = s.freeCount := rfl
@[simp] theorem leaveQueue_pending (e : GateEntry) (s : State) : (leaveQueue e s).pending = s.pending := rfl

@[simp] theorem leaveQueue_gate_recs (e : GateEntry) (s : State) : (leaveQueue e s).gate.recs = s.gate.recs := rfl
@[simp] theorem leaveQueue_gate_stale (e : GateEntry) (s : State) : (leaveQueue e s).gate.stale = s.gate.stale := rfl
@[simp] theorem leaveQueue_gate_slot (e : GateEntry) (s : State) : (leaveQueue e s).gate.slot = s.gate.slot := rfl
@[simp] theorem leaveQueue_gate_window (e : GateEntry) (s : State) :
    (leaveQueue e s).gate.window = s.gate.window := rfl
@[simp] theorem leaveQueue_gate_inhibit (e : GateEntry) (s : State) :
    (leaveQueue e s).gate.inhibit = s.gate.inhibit := rfl

/-! ### The condition -/

@[simp] theorem setLots_powered (t : Table Lot) (s : State) : (s.setLots t).powered = s.powered := rfl
@[simp] theorem setLots_restartArmed (t : Table Lot) (s : State) : (s.setLots t).restartArmed = s.restartArmed := rfl
@[simp] theorem setLots_mode (t : Table Lot) (s : State) : (s.setLots t).mode = s.mode := rfl
@[simp] theorem setLots_time (t : Table Lot) (s : State) : (s.setLots t).time = s.time := rfl
@[simp] theorem setLots_nvm (t : Table Lot) (s : State) : (s.setLots t).nvm = s.nvm := rfl
@[simp] theorem setLots_ship (t : Table Lot) (s : State) : (s.setLots t).ship = s.ship := rfl
@[simp] theorem setLots_settings (t : Table Lot) (s : State) : (s.setLots t).settings = s.settings := rfl
@[simp] theorem setLots_origin (t : Table Lot) (s : State) : (s.setLots t).origin = s.origin := rfl
@[simp] theorem setLots_committing (t : Table Lot) (s : State) : (s.setLots t).committing = s.committing := rfl
@[simp] theorem setLots_storing (t : Table Lot) (s : State) : (s.setLots t).storing = s.storing := rfl
@[simp] theorem setLots_links (t : Table Lot) (s : State) : (s.setLots t).links = s.links := rfl
@[simp] theorem setLots_snapshot (t : Table Lot) (s : State) : (s.setLots t).snapshot = s.snapshot := rfl
@[simp] theorem setLots_snapshotOp (t : Table Lot) (s : State) : (s.setLots t).snapshotOp = s.snapshotOp := rfl
@[simp] theorem setLots_image (t : Table Lot) (s : State) : (s.setLots t).image = s.image := rfl
@[simp] theorem setLots_eval (t : Table Lot) (s : State) : (s.setLots t).eval = s.eval := rfl
@[simp] theorem setLots_frames (t : Table Lot) (s : State) : (s.setLots t).frames = s.frames := rfl
@[simp] theorem setLots_monitor (t : Table Lot) (s : State) : (s.setLots t).monitor = s.monitor := rfl
@[simp] theorem setLots_gate (t : Table Lot) (s : State) : (s.setLots t).gate = s.gate := rfl
@[simp] theorem setLots_ballast (t : Table Lot) (s : State) : (s.setLots t).ballast = s.ballast := rfl
@[simp] theorem setLots_freeCount (t : Table Lot) (s : State) : (s.setLots t).freeCount = s.freeCount := rfl
@[simp] theorem setLots_pending (t : Table Lot) (s : State) : (s.setLots t).pending = s.pending := rfl

@[simp] theorem setLots_cond_seq (t : Table Lot) (s : State) : (s.setLots t).cond.seq = s.cond.seq := rfl
@[simp] theorem setLots_cond_tanks (t : Table Lot) (s : State) : (s.setLots t).cond.tanks = s.cond.tanks := rfl
@[simp] theorem setLots_cond_hooks (t : Table Lot) (s : State) : (s.setLots t).cond.hooks = s.cond.hooks := rfl

@[simp] theorem setSeq_powered (q : List SeqEntry) (s : State) : (s.setSeq q).powered = s.powered := rfl
@[simp] theorem setSeq_restartArmed (q : List SeqEntry) (s : State) :
    (s.setSeq q).restartArmed = s.restartArmed := rfl
@[simp] theorem setSeq_mode (q : List SeqEntry) (s : State) : (s.setSeq q).mode = s.mode := rfl
@[simp] theorem setSeq_time (q : List SeqEntry) (s : State) : (s.setSeq q).time = s.time := rfl
@[simp] theorem setSeq_nvm (q : List SeqEntry) (s : State) : (s.setSeq q).nvm = s.nvm := rfl
@[simp] theorem setSeq_ship (q : List SeqEntry) (s : State) : (s.setSeq q).ship = s.ship := rfl
@[simp] theorem setSeq_settings (q : List SeqEntry) (s : State) : (s.setSeq q).settings = s.settings := rfl
@[simp] theorem setSeq_origin (q : List SeqEntry) (s : State) : (s.setSeq q).origin = s.origin := rfl
@[simp] theorem setSeq_committing (q : List SeqEntry) (s : State) : (s.setSeq q).committing = s.committing := rfl
@[simp] theorem setSeq_storing (q : List SeqEntry) (s : State) : (s.setSeq q).storing = s.storing := rfl
@[simp] theorem setSeq_links (q : List SeqEntry) (s : State) : (s.setSeq q).links = s.links := rfl
@[simp] theorem setSeq_snapshot (q : List SeqEntry) (s : State) : (s.setSeq q).snapshot = s.snapshot := rfl
@[simp] theorem setSeq_snapshotOp (q : List SeqEntry) (s : State) : (s.setSeq q).snapshotOp = s.snapshotOp := rfl
@[simp] theorem setSeq_image (q : List SeqEntry) (s : State) : (s.setSeq q).image = s.image := rfl
@[simp] theorem setSeq_eval (q : List SeqEntry) (s : State) : (s.setSeq q).eval = s.eval := rfl
@[simp] theorem setSeq_frames (q : List SeqEntry) (s : State) : (s.setSeq q).frames = s.frames := rfl
@[simp] theorem setSeq_monitor (q : List SeqEntry) (s : State) : (s.setSeq q).monitor = s.monitor := rfl
@[simp] theorem setSeq_gate (q : List SeqEntry) (s : State) : (s.setSeq q).gate = s.gate := rfl
@[simp] theorem setSeq_ballast (q : List SeqEntry) (s : State) : (s.setSeq q).ballast = s.ballast := rfl
@[simp] theorem setSeq_freeCount (q : List SeqEntry) (s : State) : (s.setSeq q).freeCount = s.freeCount := rfl
@[simp] theorem setSeq_pending (q : List SeqEntry) (s : State) : (s.setSeq q).pending = s.pending := rfl

@[simp] theorem setSeq_cond_lots (q : List SeqEntry) (s : State) : (s.setSeq q).cond.lots = s.cond.lots := rfl
@[simp] theorem setSeq_cond_tanks (q : List SeqEntry) (s : State) : (s.setSeq q).cond.tanks = s.cond.tanks := rfl
@[simp] theorem setSeq_cond_hooks (q : List SeqEntry) (s : State) : (s.setSeq q).cond.hooks = s.cond.hooks := rfl

@[simp] theorem setTanks_powered (t : Table TankRow) (s : State) : (s.setTanks t).powered = s.powered := rfl
@[simp] theorem setTanks_restartArmed (t : Table TankRow) (s : State) :
    (s.setTanks t).restartArmed = s.restartArmed := rfl
@[simp] theorem setTanks_mode (t : Table TankRow) (s : State) : (s.setTanks t).mode = s.mode := rfl
@[simp] theorem setTanks_time (t : Table TankRow) (s : State) : (s.setTanks t).time = s.time := rfl
@[simp] theorem setTanks_nvm (t : Table TankRow) (s : State) : (s.setTanks t).nvm = s.nvm := rfl
@[simp] theorem setTanks_ship (t : Table TankRow) (s : State) : (s.setTanks t).ship = s.ship := rfl
@[simp] theorem setTanks_settings (t : Table TankRow) (s : State) : (s.setTanks t).settings = s.settings := rfl
@[simp] theorem setTanks_origin (t : Table TankRow) (s : State) : (s.setTanks t).origin = s.origin := rfl
@[simp] theorem setTanks_committing (t : Table TankRow) (s : State) : (s.setTanks t).committing = s.committing := rfl
@[simp] theorem setTanks_storing (t : Table TankRow) (s : State) : (s.setTanks t).storing = s.storing := rfl
@[simp] theorem setTanks_links (t : Table TankRow) (s : State) : (s.setTanks t).links = s.links := rfl
@[simp] theorem setTanks_snapshot (t : Table TankRow) (s : State) : (s.setTanks t).snapshot = s.snapshot := rfl
@[simp] theorem setTanks_snapshotOp (t : Table TankRow) (s : State) : (s.setTanks t).snapshotOp = s.snapshotOp := rfl
@[simp] theorem setTanks_image (t : Table TankRow) (s : State) : (s.setTanks t).image = s.image := rfl
@[simp] theorem setTanks_eval (t : Table TankRow) (s : State) : (s.setTanks t).eval = s.eval := rfl
@[simp] theorem setTanks_frames (t : Table TankRow) (s : State) : (s.setTanks t).frames = s.frames := rfl
@[simp] theorem setTanks_monitor (t : Table TankRow) (s : State) : (s.setTanks t).monitor = s.monitor := rfl
@[simp] theorem setTanks_gate (t : Table TankRow) (s : State) : (s.setTanks t).gate = s.gate := rfl
@[simp] theorem setTanks_ballast (t : Table TankRow) (s : State) : (s.setTanks t).ballast = s.ballast := rfl
@[simp] theorem setTanks_freeCount (t : Table TankRow) (s : State) : (s.setTanks t).freeCount = s.freeCount := rfl
@[simp] theorem setTanks_pending (t : Table TankRow) (s : State) : (s.setTanks t).pending = s.pending := rfl

@[simp] theorem setTanks_cond_lots (t : Table TankRow) (s : State) : (s.setTanks t).cond.lots = s.cond.lots := rfl
@[simp] theorem setTanks_cond_seq (t : Table TankRow) (s : State) : (s.setTanks t).cond.seq = s.cond.seq := rfl
@[simp] theorem setTanks_cond_hooks (t : Table TankRow) (s : State) : (s.setTanks t).cond.hooks = s.cond.hooks := rfl

@[simp] theorem setHook_powered (c : CraneId) (h : HookItem) (s : State) : (s.setHook c h).powered = s.powered := rfl
@[simp] theorem setHook_restartArmed (c : CraneId) (h : HookItem) (s : State) :
    (s.setHook c h).restartArmed = s.restartArmed := rfl
@[simp] theorem setHook_mode (c : CraneId) (h : HookItem) (s : State) : (s.setHook c h).mode = s.mode := rfl
@[simp] theorem setHook_time (c : CraneId) (h : HookItem) (s : State) : (s.setHook c h).time = s.time := rfl
@[simp] theorem setHook_nvm (c : CraneId) (h : HookItem) (s : State) : (s.setHook c h).nvm = s.nvm := rfl
@[simp] theorem setHook_ship (c : CraneId) (h : HookItem) (s : State) : (s.setHook c h).ship = s.ship := rfl
@[simp] theorem setHook_settings (c : CraneId) (h : HookItem) (s : State) :
    (s.setHook c h).settings = s.settings := rfl
@[simp] theorem setHook_origin (c : CraneId) (h : HookItem) (s : State) : (s.setHook c h).origin = s.origin := rfl
@[simp] theorem setHook_committing (c : CraneId) (h : HookItem) (s : State) :
    (s.setHook c h).committing = s.committing := rfl
@[simp] theorem setHook_storing (c : CraneId) (h : HookItem) (s : State) : (s.setHook c h).storing = s.storing := rfl
@[simp] theorem setHook_links (c : CraneId) (h : HookItem) (s : State) : (s.setHook c h).links = s.links := rfl
@[simp] theorem setHook_snapshot (c : CraneId) (h : HookItem) (s : State) :
    (s.setHook c h).snapshot = s.snapshot := rfl
@[simp] theorem setHook_snapshotOp (c : CraneId) (h : HookItem) (s : State) :
    (s.setHook c h).snapshotOp = s.snapshotOp := rfl
@[simp] theorem setHook_image (c : CraneId) (h : HookItem) (s : State) : (s.setHook c h).image = s.image := rfl
@[simp] theorem setHook_eval (c : CraneId) (h : HookItem) (s : State) : (s.setHook c h).eval = s.eval := rfl
@[simp] theorem setHook_frames (c : CraneId) (h : HookItem) (s : State) : (s.setHook c h).frames = s.frames := rfl
@[simp] theorem setHook_monitor (c : CraneId) (h : HookItem) (s : State) : (s.setHook c h).monitor = s.monitor := rfl
@[simp] theorem setHook_gate (c : CraneId) (h : HookItem) (s : State) : (s.setHook c h).gate = s.gate := rfl
@[simp] theorem setHook_ballast (c : CraneId) (h : HookItem) (s : State) : (s.setHook c h).ballast = s.ballast := rfl
@[simp] theorem setHook_freeCount (c : CraneId) (h : HookItem) (s : State) :
    (s.setHook c h).freeCount = s.freeCount := rfl
@[simp] theorem setHook_pending (c : CraneId) (h : HookItem) (s : State) : (s.setHook c h).pending = s.pending := rfl

@[simp] theorem setHook_cond_lots (c : CraneId) (h : HookItem) (s : State) :
    (s.setHook c h).cond.lots = s.cond.lots := rfl
@[simp] theorem setHook_cond_seq (c : CraneId) (h : HookItem) (s : State) :
    (s.setHook c h).cond.seq = s.cond.seq := rfl
@[simp] theorem setHook_cond_tanks (c : CraneId) (h : HookItem) (s : State) :
    (s.setHook c h).cond.tanks = s.cond.tanks := rfl

@[simp] theorem setTankRow_powered (t : Nat) (r : TankRow) (s : State) : (s.setTankRow t r).powered = s.powered := rfl
@[simp] theorem setTankRow_restartArmed (t : Nat) (r : TankRow) (s : State) :
    (s.setTankRow t r).restartArmed = s.restartArmed := rfl
@[simp] theorem setTankRow_mode (t : Nat) (r : TankRow) (s : State) : (s.setTankRow t r).mode = s.mode := rfl
@[simp] theorem setTankRow_time (t : Nat) (r : TankRow) (s : State) : (s.setTankRow t r).time = s.time := rfl
@[simp] theorem setTankRow_nvm (t : Nat) (r : TankRow) (s : State) : (s.setTankRow t r).nvm = s.nvm := rfl
@[simp] theorem setTankRow_ship (t : Nat) (r : TankRow) (s : State) : (s.setTankRow t r).ship = s.ship := rfl
@[simp] theorem setTankRow_settings (t : Nat) (r : TankRow) (s : State) :
    (s.setTankRow t r).settings = s.settings := rfl
@[simp] theorem setTankRow_origin (t : Nat) (r : TankRow) (s : State) : (s.setTankRow t r).origin = s.origin := rfl
@[simp] theorem setTankRow_committing (t : Nat) (r : TankRow) (s : State) :
    (s.setTankRow t r).committing = s.committing := rfl
@[simp] theorem setTankRow_storing (t : Nat) (r : TankRow) (s : State) : (s.setTankRow t r).storing = s.storing := rfl
@[simp] theorem setTankRow_links (t : Nat) (r : TankRow) (s : State) : (s.setTankRow t r).links = s.links := rfl
@[simp] theorem setTankRow_snapshot (t : Nat) (r : TankRow) (s : State) :
    (s.setTankRow t r).snapshot = s.snapshot := rfl
@[simp] theorem setTankRow_snapshotOp (t : Nat) (r : TankRow) (s : State) :
    (s.setTankRow t r).snapshotOp = s.snapshotOp := rfl
@[simp] theorem setTankRow_image (t : Nat) (r : TankRow) (s : State) : (s.setTankRow t r).image = s.image := rfl
@[simp] theorem setTankRow_eval (t : Nat) (r : TankRow) (s : State) : (s.setTankRow t r).eval = s.eval := rfl
@[simp] theorem setTankRow_frames (t : Nat) (r : TankRow) (s : State) : (s.setTankRow t r).frames = s.frames := rfl
@[simp] theorem setTankRow_monitor (t : Nat) (r : TankRow) (s : State) : (s.setTankRow t r).monitor = s.monitor := rfl
@[simp] theorem setTankRow_gate (t : Nat) (r : TankRow) (s : State) : (s.setTankRow t r).gate = s.gate := rfl
@[simp] theorem setTankRow_ballast (t : Nat) (r : TankRow) (s : State) : (s.setTankRow t r).ballast = s.ballast := rfl
@[simp] theorem setTankRow_freeCount (t : Nat) (r : TankRow) (s : State) :
    (s.setTankRow t r).freeCount = s.freeCount := rfl
@[simp] theorem setTankRow_pending (t : Nat) (r : TankRow) (s : State) : (s.setTankRow t r).pending = s.pending := rfl

@[simp] theorem setTankRow_cond_lots (t : Nat) (r : TankRow) (s : State) :
    (s.setTankRow t r).cond.lots = s.cond.lots := rfl
@[simp] theorem setTankRow_cond_seq (t : Nat) (r : TankRow) (s : State) :
    (s.setTankRow t r).cond.seq = s.cond.seq := rfl
@[simp] theorem setTankRow_cond_hooks (t : Nat) (r : TankRow) (s : State) :
    (s.setTankRow t r).cond.hooks = s.cond.hooks := rfl

@[simp] theorem setLots_cond_lots (t : Table Lot) (s : State) : (s.setLots t).cond.lots = t := rfl
@[simp] theorem setSeq_cond_seq (q : List SeqEntry) (s : State) : (s.setSeq q).cond.seq = q := rfl
@[simp] theorem setTanks_cond_tanks (t : Table TankRow) (s : State) : (s.setTanks t).cond.tanks = t := rfl
@[simp] theorem setTankRow_cond_tanks (t : Nat) (r : TankRow) (s : State) :
    (s.setTankRow t r).cond.tanks = tput s.cond.tanks t r := rfl

theorem onLot_form (n : Nat) (f : Lot → Lot) (s : State) :
    s.onLot n f = { s with cond := { s.cond with lots := (s.onLot n f).cond.lots } } := by
  unfold State.onLot; split <;> rfl

theorem onLiftLot_form (r : LiftRef) (f : Lot → Lot) (s : State) :
    s.onLiftLot r f = { s with cond := { s.cond with lots := (s.onLiftLot r f).cond.lots } } := by
  unfold State.onLiftLot
  split
  · exact onLot_form _ _ _
  · rfl

@[simp] theorem onLot_powered (n : Nat) (f : Lot → Lot) (s : State) :
    (s.onLot n f).powered = s.powered := by rw [onLot_form]
@[simp] theorem onLot_restartArmed (n : Nat) (f : Lot → Lot) (s : State) :
    (s.onLot n f).restartArmed = s.restartArmed := by rw [onLot_form]
@[simp] theorem onLot_mode (n : Nat) (f : Lot → Lot) (s : State) : (s.onLot n f).mode = s.mode := by rw [onLot_form]
@[simp] theorem onLot_time (n : Nat) (f : Lot → Lot) (s : State) : (s.onLot n f).time = s.time := by rw [onLot_form]
@[simp] theorem onLot_nvm (n : Nat) (f : Lot → Lot) (s : State) : (s.onLot n f).nvm = s.nvm := by rw [onLot_form]
@[simp] theorem onLot_ship (n : Nat) (f : Lot → Lot) (s : State) : (s.onLot n f).ship = s.ship := by rw [onLot_form]
@[simp] theorem onLot_settings (n : Nat) (f : Lot → Lot) (s : State) :
    (s.onLot n f).settings = s.settings := by rw [onLot_form]
@[simp] theorem onLot_origin (n : Nat) (f : Lot → Lot) (s : State) :
    (s.onLot n f).origin = s.origin := by rw [onLot_form]
@[simp] theorem onLot_committing (n : Nat) (f : Lot → Lot) (s : State) :
    (s.onLot n f).committing = s.committing := by rw [onLot_form]
@[simp] theorem onLot_storing (n : Nat) (f : Lot → Lot) (s : State) :
    (s.onLot n f).storing = s.storing := by rw [onLot_form]
@[simp] theorem onLot_links (n : Nat) (f : Lot → Lot) (s : State) :
    (s.onLot n f).links = s.links := by rw [onLot_form]
@[simp] theorem onLot_snapshot (n : Nat) (f : Lot → Lot) (s : State) :
    (s.onLot n f).snapshot = s.snapshot := by rw [onLot_form]
@[simp] theorem onLot_snapshotOp (n : Nat) (f : Lot → Lot) (s : State) :
    (s.onLot n f).snapshotOp = s.snapshotOp := by rw [onLot_form]
@[simp] theorem onLot_image (n : Nat) (f : Lot → Lot) (s : State) :
    (s.onLot n f).image = s.image := by rw [onLot_form]
@[simp] theorem onLot_eval (n : Nat) (f : Lot → Lot) (s : State) : (s.onLot n f).eval = s.eval := by rw [onLot_form]
@[simp] theorem onLot_frames (n : Nat) (f : Lot → Lot) (s : State) :
    (s.onLot n f).frames = s.frames := by rw [onLot_form]
@[simp] theorem onLot_monitor (n : Nat) (f : Lot → Lot) (s : State) :
    (s.onLot n f).monitor = s.monitor := by rw [onLot_form]
@[simp] theorem onLot_gate (n : Nat) (f : Lot → Lot) (s : State) : (s.onLot n f).gate = s.gate := by rw [onLot_form]
@[simp] theorem onLot_ballast (n : Nat) (f : Lot → Lot) (s : State) :
    (s.onLot n f).ballast = s.ballast := by rw [onLot_form]
@[simp] theorem onLot_freeCount (n : Nat) (f : Lot → Lot) (s : State) :
    (s.onLot n f).freeCount = s.freeCount := by rw [onLot_form]
@[simp] theorem onLot_pending (n : Nat) (f : Lot → Lot) (s : State) :
    (s.onLot n f).pending = s.pending := by rw [onLot_form]

@[simp] theorem onLot_cond_seq (n : Nat) (f : Lot → Lot) (s : State) :
    (s.onLot n f).cond.seq = s.cond.seq := by rw [onLot_form]
@[simp] theorem onLot_cond_tanks (n : Nat) (f : Lot → Lot) (s : State) :
    (s.onLot n f).cond.tanks = s.cond.tanks := by rw [onLot_form]
@[simp] theorem onLot_cond_hooks (n : Nat) (f : Lot → Lot) (s : State) :
    (s.onLot n f).cond.hooks = s.cond.hooks := by rw [onLot_form]

@[simp] theorem onLiftLot_powered (r : LiftRef) (f : Lot → Lot) (s : State) :
    (s.onLiftLot r f).powered = s.powered := by rw [onLiftLot_form]
@[simp] theorem onLiftLot_restartArmed (r : LiftRef) (f : Lot → Lot) (s : State) :
    (s.onLiftLot r f).restartArmed = s.restartArmed := by rw [onLiftLot_form]
@[simp] theorem onLiftLot_mode (r : LiftRef) (f : Lot → Lot) (s : State) :
    (s.onLiftLot r f).mode = s.mode := by rw [onLiftLot_form]
@[simp] theorem onLiftLot_time (r : LiftRef) (f : Lot → Lot) (s : State) :
    (s.onLiftLot r f).time = s.time := by rw [onLiftLot_form]
@[simp] theorem onLiftLot_nvm (r : LiftRef) (f : Lot → Lot) (s : State) :
    (s.onLiftLot r f).nvm = s.nvm := by rw [onLiftLot_form]
@[simp] theorem onLiftLot_ship (r : LiftRef) (f : Lot → Lot) (s : State) :
    (s.onLiftLot r f).ship = s.ship := by rw [onLiftLot_form]
@[simp] theorem onLiftLot_settings (r : LiftRef) (f : Lot → Lot) (s : State) :
    (s.onLiftLot r f).settings = s.settings := by rw [onLiftLot_form]
@[simp] theorem onLiftLot_origin (r : LiftRef) (f : Lot → Lot) (s : State) :
    (s.onLiftLot r f).origin = s.origin := by rw [onLiftLot_form]
@[simp] theorem onLiftLot_committing (r : LiftRef) (f : Lot → Lot) (s : State) :
    (s.onLiftLot r f).committing = s.committing := by rw [onLiftLot_form]
@[simp] theorem onLiftLot_storing (r : LiftRef) (f : Lot → Lot) (s : State) :
    (s.onLiftLot r f).storing = s.storing := by rw [onLiftLot_form]
@[simp] theorem onLiftLot_links (r : LiftRef) (f : Lot → Lot) (s : State) :
    (s.onLiftLot r f).links = s.links := by rw [onLiftLot_form]
@[simp] theorem onLiftLot_snapshot (r : LiftRef) (f : Lot → Lot) (s : State) :
    (s.onLiftLot r f).snapshot = s.snapshot := by rw [onLiftLot_form]
@[simp] theorem onLiftLot_snapshotOp (r : LiftRef) (f : Lot → Lot) (s : State) :
    (s.onLiftLot r f).snapshotOp = s.snapshotOp := by rw [onLiftLot_form]
@[simp] theorem onLiftLot_image (r : LiftRef) (f : Lot → Lot) (s : State) :
    (s.onLiftLot r f).image = s.image := by rw [onLiftLot_form]
@[simp] theorem onLiftLot_eval (r : LiftRef) (f : Lot → Lot) (s : State) :
    (s.onLiftLot r f).eval = s.eval := by rw [onLiftLot_form]
@[simp] theorem onLiftLot_frames (r : LiftRef) (f : Lot → Lot) (s : State) :
    (s.onLiftLot r f).frames = s.frames := by rw [onLiftLot_form]
@[simp] theorem onLiftLot_monitor (r : LiftRef) (f : Lot → Lot) (s : State) :
    (s.onLiftLot r f).monitor = s.monitor := by rw [onLiftLot_form]
@[simp] theorem onLiftLot_gate (r : LiftRef) (f : Lot → Lot) (s : State) :
    (s.onLiftLot r f).gate = s.gate := by rw [onLiftLot_form]
@[simp] theorem onLiftLot_ballast (r : LiftRef) (f : Lot → Lot) (s : State) :
    (s.onLiftLot r f).ballast = s.ballast := by rw [onLiftLot_form]
@[simp] theorem onLiftLot_freeCount (r : LiftRef) (f : Lot → Lot) (s : State) :
    (s.onLiftLot r f).freeCount = s.freeCount := by rw [onLiftLot_form]
@[simp] theorem onLiftLot_pending (r : LiftRef) (f : Lot → Lot) (s : State) :
    (s.onLiftLot r f).pending = s.pending := by rw [onLiftLot_form]

@[simp] theorem onLiftLot_cond_seq (r : LiftRef) (f : Lot → Lot) (s : State) :
    (s.onLiftLot r f).cond.seq = s.cond.seq := by rw [onLiftLot_form]
@[simp] theorem onLiftLot_cond_tanks (r : LiftRef) (f : Lot → Lot) (s : State) :
    (s.onLiftLot r f).cond.tanks = s.cond.tanks := by rw [onLiftLot_form]
@[simp] theorem onLiftLot_cond_hooks (r : LiftRef) (f : Lot → Lot) (s : State) :
    (s.onLiftLot r f).cond.hooks = s.cond.hooks := by rw [onLiftLot_form]

/-! ### The ballast unit -/

@[simp] theorem setTransfers_powered (t : Table Transfer) (s : State) : (s.setTransfers t).powered = s.powered := rfl
@[simp] theorem setTransfers_restartArmed (t : Table Transfer) (s : State) :
    (s.setTransfers t).restartArmed = s.restartArmed := rfl
@[simp] theorem setTransfers_mode (t : Table Transfer) (s : State) : (s.setTransfers t).mode = s.mode := rfl
@[simp] theorem setTransfers_time (t : Table Transfer) (s : State) : (s.setTransfers t).time = s.time := rfl
@[simp] theorem setTransfers_nvm (t : Table Transfer) (s : State) : (s.setTransfers t).nvm = s.nvm := rfl
@[simp] theorem setTransfers_ship (t : Table Transfer) (s : State) : (s.setTransfers t).ship = s.ship := rfl
@[simp] theorem setTransfers_settings (t : Table Transfer) (s : State) :
    (s.setTransfers t).settings = s.settings := rfl
@[simp] theorem setTransfers_origin (t : Table Transfer) (s : State) : (s.setTransfers t).origin = s.origin := rfl
@[simp] theorem setTransfers_committing (t : Table Transfer) (s : State) :
    (s.setTransfers t).committing = s.committing := rfl
@[simp] theorem setTransfers_storing (t : Table Transfer) (s : State) : (s.setTransfers t).storing = s.storing := rfl
@[simp] theorem setTransfers_links (t : Table Transfer) (s : State) : (s.setTransfers t).links = s.links := rfl
@[simp] theorem setTransfers_cond (t : Table Transfer) (s : State) : (s.setTransfers t).cond = s.cond := rfl
@[simp] theorem setTransfers_snapshot (t : Table Transfer) (s : State) :
    (s.setTransfers t).snapshot = s.snapshot := rfl
@[simp] theorem setTransfers_snapshotOp (t : Table Transfer) (s : State) :
    (s.setTransfers t).snapshotOp = s.snapshotOp := rfl
@[simp] theorem setTransfers_image (t : Table Transfer) (s : State) : (s.setTransfers t).image = s.image := rfl
@[simp] theorem setTransfers_eval (t : Table Transfer) (s : State) : (s.setTransfers t).eval = s.eval := rfl
@[simp] theorem setTransfers_frames (t : Table Transfer) (s : State) : (s.setTransfers t).frames = s.frames := rfl
@[simp] theorem setTransfers_monitor (t : Table Transfer) (s : State) : (s.setTransfers t).monitor = s.monitor := rfl
@[simp] theorem setTransfers_gate (t : Table Transfer) (s : State) : (s.setTransfers t).gate = s.gate := rfl
@[simp] theorem setTransfers_freeCount (t : Table Transfer) (s : State) :
    (s.setTransfers t).freeCount = s.freeCount := rfl
@[simp] theorem setTransfers_pending (t : Table Transfer) (s : State) : (s.setTransfers t).pending = s.pending := rfl

@[simp] theorem setTransfers_ballast_nextId (t : Table Transfer) (s : State) :
    (s.setTransfers t).ballast.nextId = s.ballast.nextId := rfl
@[simp] theorem setTransfers_ballast_log (t : Table Transfer) (s : State) :
    (s.setTransfers t).ballast.log = s.ballast.log := rfl

@[simp] theorem setTransfers_ballast_transfers (t : Table Transfer) (s : State) :
    (s.setTransfers t).ballast.transfers = t := rfl

@[simp] theorem logEnd_powered (e : EndRecord) (s : State) : (logEnd e s).powered = s.powered := rfl
@[simp] theorem logEnd_restartArmed (e : EndRecord) (s : State) : (logEnd e s).restartArmed = s.restartArmed := rfl
@[simp] theorem logEnd_mode (e : EndRecord) (s : State) : (logEnd e s).mode = s.mode := rfl
@[simp] theorem logEnd_time (e : EndRecord) (s : State) : (logEnd e s).time = s.time := rfl
@[simp] theorem logEnd_nvm (e : EndRecord) (s : State) : (logEnd e s).nvm = s.nvm := rfl
@[simp] theorem logEnd_ship (e : EndRecord) (s : State) : (logEnd e s).ship = s.ship := rfl
@[simp] theorem logEnd_settings (e : EndRecord) (s : State) : (logEnd e s).settings = s.settings := rfl
@[simp] theorem logEnd_origin (e : EndRecord) (s : State) : (logEnd e s).origin = s.origin := rfl
@[simp] theorem logEnd_committing (e : EndRecord) (s : State) : (logEnd e s).committing = s.committing := rfl
@[simp] theorem logEnd_storing (e : EndRecord) (s : State) : (logEnd e s).storing = s.storing := rfl
@[simp] theorem logEnd_links (e : EndRecord) (s : State) : (logEnd e s).links = s.links := rfl
@[simp] theorem logEnd_cond (e : EndRecord) (s : State) : (logEnd e s).cond = s.cond := rfl
@[simp] theorem logEnd_snapshot (e : EndRecord) (s : State) : (logEnd e s).snapshot = s.snapshot := rfl
@[simp] theorem logEnd_snapshotOp (e : EndRecord) (s : State) : (logEnd e s).snapshotOp = s.snapshotOp := rfl
@[simp] theorem logEnd_image (e : EndRecord) (s : State) : (logEnd e s).image = s.image := rfl
@[simp] theorem logEnd_eval (e : EndRecord) (s : State) : (logEnd e s).eval = s.eval := rfl
@[simp] theorem logEnd_frames (e : EndRecord) (s : State) : (logEnd e s).frames = s.frames := rfl
@[simp] theorem logEnd_monitor (e : EndRecord) (s : State) : (logEnd e s).monitor = s.monitor := rfl
@[simp] theorem logEnd_gate (e : EndRecord) (s : State) : (logEnd e s).gate = s.gate := rfl
@[simp] theorem logEnd_freeCount (e : EndRecord) (s : State) : (logEnd e s).freeCount = s.freeCount := rfl
@[simp] theorem logEnd_pending (e : EndRecord) (s : State) : (logEnd e s).pending = s.pending := rfl

theorem setTransferReason_form (id : Nat) (p : Pending) (s : State) :
    setTransferReason id p s =
      { s with ballast := { s.ballast with transfers := (setTransferReason id p s).ballast.transfers } } := by
  unfold setTransferReason; split <;> rfl

@[simp] theorem setTransferReason_powered (id : Nat) (p : Pending) (s : State) :
    (setTransferReason id p s).powered = s.powered := by rw [setTransferReason_form]
@[simp] theorem setTransferReason_restartArmed (id : Nat) (p : Pending) (s : State) :
    (setTransferReason id p s).restartArmed = s.restartArmed := by rw [setTransferReason_form]
@[simp] theorem setTransferReason_mode (id : Nat) (p : Pending) (s : State) :
    (setTransferReason id p s).mode = s.mode := by rw [setTransferReason_form]
@[simp] theorem setTransferReason_time (id : Nat) (p : Pending) (s : State) :
    (setTransferReason id p s).time = s.time := by rw [setTransferReason_form]
@[simp] theorem setTransferReason_nvm (id : Nat) (p : Pending) (s : State) :
    (setTransferReason id p s).nvm = s.nvm := by rw [setTransferReason_form]
@[simp] theorem setTransferReason_ship (id : Nat) (p : Pending) (s : State) :
    (setTransferReason id p s).ship = s.ship := by rw [setTransferReason_form]
@[simp] theorem setTransferReason_settings (id : Nat) (p : Pending) (s : State) :
    (setTransferReason id p s).settings = s.settings := by rw [setTransferReason_form]
@[simp] theorem setTransferReason_origin (id : Nat) (p : Pending) (s : State) :
    (setTransferReason id p s).origin = s.origin := by rw [setTransferReason_form]
@[simp] theorem setTransferReason_committing (id : Nat) (p : Pending) (s : State) :
    (setTransferReason id p s).committing = s.committing := by rw [setTransferReason_form]
@[simp] theorem setTransferReason_storing (id : Nat) (p : Pending) (s : State) :
    (setTransferReason id p s).storing = s.storing := by rw [setTransferReason_form]
@[simp] theorem setTransferReason_links (id : Nat) (p : Pending) (s : State) :
    (setTransferReason id p s).links = s.links := by rw [setTransferReason_form]
@[simp] theorem setTransferReason_cond (id : Nat) (p : Pending) (s : State) :
    (setTransferReason id p s).cond = s.cond := by rw [setTransferReason_form]
@[simp] theorem setTransferReason_snapshot (id : Nat) (p : Pending) (s : State) :
    (setTransferReason id p s).snapshot = s.snapshot := by rw [setTransferReason_form]
@[simp] theorem setTransferReason_snapshotOp (id : Nat) (p : Pending) (s : State) :
    (setTransferReason id p s).snapshotOp = s.snapshotOp := by rw [setTransferReason_form]
@[simp] theorem setTransferReason_image (id : Nat) (p : Pending) (s : State) :
    (setTransferReason id p s).image = s.image := by rw [setTransferReason_form]
@[simp] theorem setTransferReason_eval (id : Nat) (p : Pending) (s : State) :
    (setTransferReason id p s).eval = s.eval := by rw [setTransferReason_form]
@[simp] theorem setTransferReason_frames (id : Nat) (p : Pending) (s : State) :
    (setTransferReason id p s).frames = s.frames := by rw [setTransferReason_form]
@[simp] theorem setTransferReason_monitor (id : Nat) (p : Pending) (s : State) :
    (setTransferReason id p s).monitor = s.monitor := by rw [setTransferReason_form]
@[simp] theorem setTransferReason_gate (id : Nat) (p : Pending) (s : State) :
    (setTransferReason id p s).gate = s.gate := by rw [setTransferReason_form]
@[simp] theorem setTransferReason_freeCount (id : Nat) (p : Pending) (s : State) :
    (setTransferReason id p s).freeCount = s.freeCount := by rw [setTransferReason_form]
@[simp] theorem setTransferReason_pending (id : Nat) (p : Pending) (s : State) :
    (setTransferReason id p s).pending = s.pending := by rw [setTransferReason_form]

@[simp] theorem setTransferReason_ballast_nextId (id : Nat) (p : Pending) (s : State) :
    (setTransferReason id p s).ballast.nextId = s.ballast.nextId := by rw [setTransferReason_form]
@[simp] theorem setTransferReason_ballast_log (id : Nat) (p : Pending) (s : State) :
    (setTransferReason id p s).ballast.log = s.ballast.log := by rw [setTransferReason_form]

/-! ### The evaluation unit -/

@[simp] theorem advanceActual_powered  (s : State) : (advanceActual s).powered = s.powered := rfl
@[simp] theorem advanceActual_restartArmed  (s : State) : (advanceActual s).restartArmed = s.restartArmed := rfl
@[simp] theorem advanceActual_mode  (s : State) : (advanceActual s).mode = s.mode := rfl
@[simp] theorem advanceActual_time  (s : State) : (advanceActual s).time = s.time := rfl
@[simp] theorem advanceActual_nvm  (s : State) : (advanceActual s).nvm = s.nvm := rfl
@[simp] theorem advanceActual_ship  (s : State) : (advanceActual s).ship = s.ship := rfl
@[simp] theorem advanceActual_settings  (s : State) : (advanceActual s).settings = s.settings := rfl
@[simp] theorem advanceActual_origin  (s : State) : (advanceActual s).origin = s.origin := rfl
@[simp] theorem advanceActual_committing  (s : State) : (advanceActual s).committing = s.committing := rfl
@[simp] theorem advanceActual_storing  (s : State) : (advanceActual s).storing = s.storing := rfl
@[simp] theorem advanceActual_links  (s : State) : (advanceActual s).links = s.links := rfl
@[simp] theorem advanceActual_cond  (s : State) : (advanceActual s).cond = s.cond := rfl
@[simp] theorem advanceActual_snapshot  (s : State) : (advanceActual s).snapshot = s.snapshot := rfl
@[simp] theorem advanceActual_snapshotOp  (s : State) : (advanceActual s).snapshotOp = s.snapshotOp := rfl
@[simp] theorem advanceActual_image  (s : State) : (advanceActual s).image = s.image := rfl
@[simp] theorem advanceActual_frames  (s : State) : (advanceActual s).frames = s.frames := rfl
@[simp] theorem advanceActual_monitor  (s : State) : (advanceActual s).monitor = s.monitor := rfl
@[simp] theorem advanceActual_gate  (s : State) : (advanceActual s).gate = s.gate := rfl
@[simp] theorem advanceActual_ballast  (s : State) : (advanceActual s).ballast = s.ballast := rfl
@[simp] theorem advanceActual_freeCount  (s : State) : (advanceActual s).freeCount = s.freeCount := rfl
@[simp] theorem advanceActual_pending  (s : State) : (advanceActual s).pending = s.pending := rfl

@[simp] theorem advanceTrial_powered  (s : State) : (advanceTrial s).powered = s.powered := rfl
@[simp] theorem advanceTrial_restartArmed  (s : State) : (advanceTrial s).restartArmed = s.restartArmed := rfl
@[simp] theorem advanceTrial_mode  (s : State) : (advanceTrial s).mode = s.mode := rfl
@[simp] theorem advanceTrial_time  (s : State) : (advanceTrial s).time = s.time := rfl
@[simp] theorem advanceTrial_nvm  (s : State) : (advanceTrial s).nvm = s.nvm := rfl
@[simp] theorem advanceTrial_ship  (s : State) : (advanceTrial s).ship = s.ship := rfl
@[simp] theorem advanceTrial_settings  (s : State) : (advanceTrial s).settings = s.settings := rfl
@[simp] theorem advanceTrial_origin  (s : State) : (advanceTrial s).origin = s.origin := rfl
@[simp] theorem advanceTrial_committing  (s : State) : (advanceTrial s).committing = s.committing := rfl
@[simp] theorem advanceTrial_storing  (s : State) : (advanceTrial s).storing = s.storing := rfl
@[simp] theorem advanceTrial_links  (s : State) : (advanceTrial s).links = s.links := rfl
@[simp] theorem advanceTrial_cond  (s : State) : (advanceTrial s).cond = s.cond := rfl
@[simp] theorem advanceTrial_snapshot  (s : State) : (advanceTrial s).snapshot = s.snapshot := rfl
@[simp] theorem advanceTrial_snapshotOp  (s : State) : (advanceTrial s).snapshotOp = s.snapshotOp := rfl
@[simp] theorem advanceTrial_image  (s : State) : (advanceTrial s).image = s.image := rfl
@[simp] theorem advanceTrial_frames  (s : State) : (advanceTrial s).frames = s.frames := rfl
@[simp] theorem advanceTrial_monitor  (s : State) : (advanceTrial s).monitor = s.monitor := rfl
@[simp] theorem advanceTrial_gate  (s : State) : (advanceTrial s).gate = s.gate := rfl
@[simp] theorem advanceTrial_ballast  (s : State) : (advanceTrial s).ballast = s.ballast := rfl
@[simp] theorem advanceTrial_freeCount  (s : State) : (advanceTrial s).freeCount = s.freeCount := rfl
@[simp] theorem advanceTrial_pending  (s : State) : (advanceTrial s).pending = s.pending := rfl

theorem advancePlan_form (s : State) : advancePlan s = { s with eval := (advancePlan s).eval } := by
  unfold advancePlan; dsimp only; split <;> rfl

theorem advance_form (a p : Bool) (s : State) : advance a p s = { s with eval := (advance a p s).eval } := by
  cases a <;> cases p <;> first | rfl | exact advancePlan_form _

@[simp] theorem advancePlan_powered  (s : State) : (advancePlan s).powered = s.powered := by rw [advancePlan_form]
@[simp] theorem advancePlan_restartArmed  (s : State) :
    (advancePlan s).restartArmed = s.restartArmed := by rw [advancePlan_form]
@[simp] theorem advancePlan_mode  (s : State) : (advancePlan s).mode = s.mode := by rw [advancePlan_form]
@[simp] theorem advancePlan_time  (s : State) : (advancePlan s).time = s.time := by rw [advancePlan_form]
@[simp] theorem advancePlan_nvm  (s : State) : (advancePlan s).nvm = s.nvm := by rw [advancePlan_form]
@[simp] theorem advancePlan_ship  (s : State) : (advancePlan s).ship = s.ship := by rw [advancePlan_form]
@[simp] theorem advancePlan_settings  (s : State) : (advancePlan s).settings = s.settings := by rw [advancePlan_form]
@[simp] theorem advancePlan_origin  (s : State) : (advancePlan s).origin = s.origin := by rw [advancePlan_form]
@[simp] theorem advancePlan_committing  (s : State) :
    (advancePlan s).committing = s.committing := by rw [advancePlan_form]
@[simp] theorem advancePlan_storing  (s : State) : (advancePlan s).storing = s.storing := by rw [advancePlan_form]
@[simp] theorem advancePlan_links  (s : State) : (advancePlan s).links = s.links := by rw [advancePlan_form]
@[simp] theorem advancePlan_cond  (s : State) : (advancePlan s).cond = s.cond := by rw [advancePlan_form]
@[simp] theorem advancePlan_snapshot  (s : State) : (advancePlan s).snapshot = s.snapshot := by rw [advancePlan_form]
@[simp] theorem advancePlan_snapshotOp  (s : State) :
    (advancePlan s).snapshotOp = s.snapshotOp := by rw [advancePlan_form]
@[simp] theorem advancePlan_image  (s : State) : (advancePlan s).image = s.image := by rw [advancePlan_form]
@[simp] theorem advancePlan_frames  (s : State) : (advancePlan s).frames = s.frames := by rw [advancePlan_form]
@[simp] theorem advancePlan_monitor  (s : State) : (advancePlan s).monitor = s.monitor := by rw [advancePlan_form]
@[simp] theorem advancePlan_gate  (s : State) : (advancePlan s).gate = s.gate := by rw [advancePlan_form]
@[simp] theorem advancePlan_ballast  (s : State) : (advancePlan s).ballast = s.ballast := by rw [advancePlan_form]
@[simp] theorem advancePlan_freeCount  (s : State) :
    (advancePlan s).freeCount = s.freeCount := by rw [advancePlan_form]
@[simp] theorem advancePlan_pending  (s : State) : (advancePlan s).pending = s.pending := by rw [advancePlan_form]

@[simp] theorem advance_powered (a p : Bool) (s : State) : (advance a p s).powered = s.powered := by rw [advance_form]
@[simp] theorem advance_restartArmed (a p : Bool) (s : State) :
    (advance a p s).restartArmed = s.restartArmed := by rw [advance_form]
@[simp] theorem advance_mode (a p : Bool) (s : State) : (advance a p s).mode = s.mode := by rw [advance_form]
@[simp] theorem advance_time (a p : Bool) (s : State) : (advance a p s).time = s.time := by rw [advance_form]
@[simp] theorem advance_nvm (a p : Bool) (s : State) : (advance a p s).nvm = s.nvm := by rw [advance_form]
@[simp] theorem advance_ship (a p : Bool) (s : State) : (advance a p s).ship = s.ship := by rw [advance_form]
@[simp] theorem advance_settings (a p : Bool) (s : State) :
    (advance a p s).settings = s.settings := by rw [advance_form]
@[simp] theorem advance_origin (a p : Bool) (s : State) : (advance a p s).origin = s.origin := by rw [advance_form]
@[simp] theorem advance_committing (a p : Bool) (s : State) :
    (advance a p s).committing = s.committing := by rw [advance_form]
@[simp] theorem advance_storing (a p : Bool) (s : State) : (advance a p s).storing = s.storing := by rw [advance_form]
@[simp] theorem advance_links (a p : Bool) (s : State) : (advance a p s).links = s.links := by rw [advance_form]
@[simp] theorem advance_cond (a p : Bool) (s : State) : (advance a p s).cond = s.cond := by rw [advance_form]
@[simp] theorem advance_snapshot (a p : Bool) (s : State) :
    (advance a p s).snapshot = s.snapshot := by rw [advance_form]
@[simp] theorem advance_snapshotOp (a p : Bool) (s : State) :
    (advance a p s).snapshotOp = s.snapshotOp := by rw [advance_form]
@[simp] theorem advance_image (a p : Bool) (s : State) : (advance a p s).image = s.image := by rw [advance_form]
@[simp] theorem advance_frames (a p : Bool) (s : State) : (advance a p s).frames = s.frames := by rw [advance_form]
@[simp] theorem advance_monitor (a p : Bool) (s : State) : (advance a p s).monitor = s.monitor := by rw [advance_form]
@[simp] theorem advance_gate (a p : Bool) (s : State) : (advance a p s).gate = s.gate := by rw [advance_form]
@[simp] theorem advance_ballast (a p : Bool) (s : State) : (advance a p s).ballast = s.ballast := by rw [advance_form]
@[simp] theorem advance_freeCount (a p : Bool) (s : State) :
    (advance a p s).freeCount = s.freeCount := by rw [advance_form]
@[simp] theorem advance_pending (a p : Bool) (s : State) : (advance a p s).pending = s.pending := by rw [advance_form]

@[simp] theorem advanceAllContexts_powered  (s : State) : (advanceAllContexts s).powered = s.powered := rfl
@[simp] theorem advanceAllContexts_restartArmed  (s : State) :
    (advanceAllContexts s).restartArmed = s.restartArmed := rfl
@[simp] theorem advanceAllContexts_mode  (s : State) : (advanceAllContexts s).mode = s.mode := rfl
@[simp] theorem advanceAllContexts_time  (s : State) : (advanceAllContexts s).time = s.time := rfl
@[simp] theorem advanceAllContexts_nvm  (s : State) : (advanceAllContexts s).nvm = s.nvm := rfl
@[simp] theorem advanceAllContexts_ship  (s : State) : (advanceAllContexts s).ship = s.ship := rfl
@[simp] theorem advanceAllContexts_settings  (s : State) : (advanceAllContexts s).settings = s.settings := rfl
@[simp] theorem advanceAllContexts_origin  (s : State) : (advanceAllContexts s).origin = s.origin := rfl
@[simp] theorem advanceAllContexts_committing  (s : State) : (advanceAllContexts s).committing = s.committing := rfl
@[simp] theorem advanceAllContexts_storing  (s : State) : (advanceAllContexts s).storing = s.storing := rfl
@[simp] theorem advanceAllContexts_links  (s : State) : (advanceAllContexts s).links = s.links := rfl
@[simp] theorem advanceAllContexts_cond  (s : State) : (advanceAllContexts s).cond = s.cond := rfl
@[simp] theorem advanceAllContexts_snapshot  (s : State) : (advanceAllContexts s).snapshot = s.snapshot := rfl
@[simp] theorem advanceAllContexts_snapshotOp  (s : State) : (advanceAllContexts s).snapshotOp = s.snapshotOp := rfl
@[simp] theorem advanceAllContexts_image  (s : State) : (advanceAllContexts s).image = s.image := rfl
@[simp] theorem advanceAllContexts_frames  (s : State) : (advanceAllContexts s).frames = s.frames := rfl
@[simp] theorem advanceAllContexts_monitor  (s : State) : (advanceAllContexts s).monitor = s.monitor := rfl
@[simp] theorem advanceAllContexts_gate  (s : State) : (advanceAllContexts s).gate = s.gate := rfl
@[simp] theorem advanceAllContexts_ballast  (s : State) : (advanceAllContexts s).ballast = s.ballast := rfl
@[simp] theorem advanceAllContexts_freeCount  (s : State) : (advanceAllContexts s).freeCount = s.freeCount := rfl
@[simp] theorem advanceAllContexts_pending  (s : State) : (advanceAllContexts s).pending = s.pending := rfl

theorem postDemand_form (k : DemandKey) (s : State) :
    postDemand k s = { s with eval := { s.eval with waiting := (postDemand k s).eval.waiting } } := by
  unfold postDemand; split <;> rfl

@[simp] theorem postDemand_powered (k : DemandKey) (s : State) :
    (postDemand k s).powered = s.powered := by rw [postDemand_form]
@[simp] theorem postDemand_restartArmed (k : DemandKey) (s : State) :
    (postDemand k s).restartArmed = s.restartArmed := by rw [postDemand_form]
@[simp] theorem postDemand_mode (k : DemandKey) (s : State) :
    (postDemand k s).mode = s.mode := by rw [postDemand_form]
@[simp] theorem postDemand_time (k : DemandKey) (s : State) :
    (postDemand k s).time = s.time := by rw [postDemand_form]
@[simp] theorem postDemand_nvm (k : DemandKey) (s : State) : (postDemand k s).nvm = s.nvm := by rw [postDemand_form]
@[simp] theorem postDemand_ship (k : DemandKey) (s : State) :
    (postDemand k s).ship = s.ship := by rw [postDemand_form]
@[simp] theorem postDemand_settings (k : DemandKey) (s : State) :
    (postDemand k s).settings = s.settings := by rw [postDemand_form]
@[simp] theorem postDemand_origin (k : DemandKey) (s : State) :
    (postDemand k s).origin = s.origin := by rw [postDemand_form]
@[simp] theorem postDemand_committing (k : DemandKey) (s : State) :
    (postDemand k s).committing = s.committing := by rw [postDemand_form]
@[simp] theorem postDemand_storing (k : DemandKey) (s : State) :
    (postDemand k s).storing = s.storing := by rw [postDemand_form]
@[simp] theorem postDemand_links (k : DemandKey) (s : State) :
    (postDemand k s).links = s.links := by rw [postDemand_form]
@[simp] theorem postDemand_cond (k : DemandKey) (s : State) :
    (postDemand k s).cond = s.cond := by rw [postDemand_form]
@[simp] theorem postDemand_snapshot (k : DemandKey) (s : State) :
    (postDemand k s).snapshot = s.snapshot := by rw [postDemand_form]
@[simp] theorem postDemand_snapshotOp (k : DemandKey) (s : State) :
    (postDemand k s).snapshotOp = s.snapshotOp := by rw [postDemand_form]
@[simp] theorem postDemand_image (k : DemandKey) (s : State) :
    (postDemand k s).image = s.image := by rw [postDemand_form]
@[simp] theorem postDemand_frames (k : DemandKey) (s : State) :
    (postDemand k s).frames = s.frames := by rw [postDemand_form]
@[simp] theorem postDemand_monitor (k : DemandKey) (s : State) :
    (postDemand k s).monitor = s.monitor := by rw [postDemand_form]
@[simp] theorem postDemand_gate (k : DemandKey) (s : State) :
    (postDemand k s).gate = s.gate := by rw [postDemand_form]
@[simp] theorem postDemand_ballast (k : DemandKey) (s : State) :
    (postDemand k s).ballast = s.ballast := by rw [postDemand_form]
@[simp] theorem postDemand_freeCount (k : DemandKey) (s : State) :
    (postDemand k s).freeCount = s.freeCount := by rw [postDemand_form]
@[simp] theorem postDemand_pending (k : DemandKey) (s : State) :
    (postDemand k s).pending = s.pending := by rw [postDemand_form]

@[simp] theorem postDemand_eval_actual (k : DemandKey) (s : State) :
    (postDemand k s).eval.actual = s.eval.actual := by rw [postDemand_form]
@[simp] theorem postDemand_eval_plan (k : DemandKey) (s : State) :
    (postDemand k s).eval.plan = s.eval.plan := by rw [postDemand_form]
@[simp] theorem postDemand_eval_trial (k : DemandKey) (s : State) :
    (postDemand k s).eval.trial = s.eval.trial := by rw [postDemand_form]
@[simp] theorem postDemand_eval_unit (k : DemandKey) (s : State) :
    (postDemand k s).eval.unit = s.eval.unit := by rw [postDemand_form]
@[simp] theorem postDemand_eval_alt (k : DemandKey) (s : State) :
    (postDemand k s).eval.alt = s.eval.alt := by rw [postDemand_form]

@[simp] theorem withdrawDemand_powered (k : DemandKey) (s : State) : (withdrawDemand k s).powered = s.powered := rfl
@[simp] theorem withdrawDemand_restartArmed (k : DemandKey) (s : State) :
    (withdrawDemand k s).restartArmed = s.restartArmed := rfl
@[simp] theorem withdrawDemand_mode (k : DemandKey) (s : State) : (withdrawDemand k s).mode = s.mode := rfl
@[simp] theorem withdrawDemand_time (k : DemandKey) (s : State) : (withdrawDemand k s).time = s.time := rfl
@[simp] theorem withdrawDemand_nvm (k : DemandKey) (s : State) : (withdrawDemand k s).nvm = s.nvm := rfl
@[simp] theorem withdrawDemand_ship (k : DemandKey) (s : State) : (withdrawDemand k s).ship = s.ship := rfl
@[simp] theorem withdrawDemand_settings (k : DemandKey) (s : State) :
    (withdrawDemand k s).settings = s.settings := rfl
@[simp] theorem withdrawDemand_origin (k : DemandKey) (s : State) : (withdrawDemand k s).origin = s.origin := rfl
@[simp] theorem withdrawDemand_committing (k : DemandKey) (s : State) :
    (withdrawDemand k s).committing = s.committing := rfl
@[simp] theorem withdrawDemand_storing (k : DemandKey) (s : State) : (withdrawDemand k s).storing = s.storing := rfl
@[simp] theorem withdrawDemand_links (k : DemandKey) (s : State) : (withdrawDemand k s).links = s.links := rfl
@[simp] theorem withdrawDemand_cond (k : DemandKey) (s : State) : (withdrawDemand k s).cond = s.cond := rfl
@[simp] theorem withdrawDemand_snapshot (k : DemandKey) (s : State) :
    (withdrawDemand k s).snapshot = s.snapshot := rfl
@[simp] theorem withdrawDemand_snapshotOp (k : DemandKey) (s : State) :
    (withdrawDemand k s).snapshotOp = s.snapshotOp := rfl
@[simp] theorem withdrawDemand_image (k : DemandKey) (s : State) : (withdrawDemand k s).image = s.image := rfl
@[simp] theorem withdrawDemand_frames (k : DemandKey) (s : State) : (withdrawDemand k s).frames = s.frames := rfl
@[simp] theorem withdrawDemand_monitor (k : DemandKey) (s : State) : (withdrawDemand k s).monitor = s.monitor := rfl
@[simp] theorem withdrawDemand_gate (k : DemandKey) (s : State) : (withdrawDemand k s).gate = s.gate := rfl
@[simp] theorem withdrawDemand_ballast (k : DemandKey) (s : State) : (withdrawDemand k s).ballast = s.ballast := rfl
@[simp] theorem withdrawDemand_freeCount (k : DemandKey) (s : State) :
    (withdrawDemand k s).freeCount = s.freeCount := rfl
@[simp] theorem withdrawDemand_pending (k : DemandKey) (s : State) : (withdrawDemand k s).pending = s.pending := rfl

@[simp] theorem withdrawDemand_eval_actual (k : DemandKey) (s : State) :
    (withdrawDemand k s).eval.actual = s.eval.actual := rfl
@[simp] theorem withdrawDemand_eval_plan (k : DemandKey) (s : State) :
    (withdrawDemand k s).eval.plan = s.eval.plan := rfl
@[simp] theorem withdrawDemand_eval_trial (k : DemandKey) (s : State) :
    (withdrawDemand k s).eval.trial = s.eval.trial := rfl
@[simp] theorem withdrawDemand_eval_alt (k : DemandKey) (s : State) :
    (withdrawDemand k s).eval.alt = s.eval.alt := rfl

theorem choose_form (s : State) : choose s = { s with eval := (choose s).eval } := by
  unfold choose
  repeat' split
  all_goals rfl

theorem kick_form (s : State) : kick s = { s with eval := (kick s).eval } := by
  unfold kick
  split
  · exact choose_form s
  · rfl

@[simp] theorem choose_powered  (s : State) : (choose s).powered = s.powered := by rw [choose_form]
@[simp] theorem choose_restartArmed  (s : State) : (choose s).restartArmed = s.restartArmed := by rw [choose_form]
@[simp] theorem choose_mode  (s : State) : (choose s).mode = s.mode := by rw [choose_form]
@[simp] theorem choose_time  (s : State) : (choose s).time = s.time := by rw [choose_form]
@[simp] theorem choose_nvm  (s : State) : (choose s).nvm = s.nvm := by rw [choose_form]
@[simp] theorem choose_ship  (s : State) : (choose s).ship = s.ship := by rw [choose_form]
@[simp] theorem choose_settings  (s : State) : (choose s).settings = s.settings := by rw [choose_form]
@[simp] theorem choose_origin  (s : State) : (choose s).origin = s.origin := by rw [choose_form]
@[simp] theorem choose_committing  (s : State) : (choose s).committing = s.committing := by rw [choose_form]
@[simp] theorem choose_storing  (s : State) : (choose s).storing = s.storing := by rw [choose_form]
@[simp] theorem choose_links  (s : State) : (choose s).links = s.links := by rw [choose_form]
@[simp] theorem choose_cond  (s : State) : (choose s).cond = s.cond := by rw [choose_form]
@[simp] theorem choose_snapshot  (s : State) : (choose s).snapshot = s.snapshot := by rw [choose_form]
@[simp] theorem choose_snapshotOp  (s : State) : (choose s).snapshotOp = s.snapshotOp := by rw [choose_form]
@[simp] theorem choose_image  (s : State) : (choose s).image = s.image := by rw [choose_form]
@[simp] theorem choose_frames  (s : State) : (choose s).frames = s.frames := by rw [choose_form]
@[simp] theorem choose_monitor  (s : State) : (choose s).monitor = s.monitor := by rw [choose_form]
@[simp] theorem choose_gate  (s : State) : (choose s).gate = s.gate := by rw [choose_form]
@[simp] theorem choose_ballast  (s : State) : (choose s).ballast = s.ballast := by rw [choose_form]
@[simp] theorem choose_freeCount  (s : State) : (choose s).freeCount = s.freeCount := by rw [choose_form]
@[simp] theorem choose_pending  (s : State) : (choose s).pending = s.pending := by rw [choose_form]

@[simp] theorem kick_powered  (s : State) : (kick s).powered = s.powered := by rw [kick_form]
@[simp] theorem kick_restartArmed  (s : State) : (kick s).restartArmed = s.restartArmed := by rw [kick_form]
@[simp] theorem kick_mode  (s : State) : (kick s).mode = s.mode := by rw [kick_form]
@[simp] theorem kick_time  (s : State) : (kick s).time = s.time := by rw [kick_form]
@[simp] theorem kick_nvm  (s : State) : (kick s).nvm = s.nvm := by rw [kick_form]
@[simp] theorem kick_ship  (s : State) : (kick s).ship = s.ship := by rw [kick_form]
@[simp] theorem kick_settings  (s : State) : (kick s).settings = s.settings := by rw [kick_form]
@[simp] theorem kick_origin  (s : State) : (kick s).origin = s.origin := by rw [kick_form]
@[simp] theorem kick_committing  (s : State) : (kick s).committing = s.committing := by rw [kick_form]
@[simp] theorem kick_storing  (s : State) : (kick s).storing = s.storing := by rw [kick_form]
@[simp] theorem kick_links  (s : State) : (kick s).links = s.links := by rw [kick_form]
@[simp] theorem kick_cond  (s : State) : (kick s).cond = s.cond := by rw [kick_form]
@[simp] theorem kick_snapshot  (s : State) : (kick s).snapshot = s.snapshot := by rw [kick_form]
@[simp] theorem kick_snapshotOp  (s : State) : (kick s).snapshotOp = s.snapshotOp := by rw [kick_form]
@[simp] theorem kick_image  (s : State) : (kick s).image = s.image := by rw [kick_form]
@[simp] theorem kick_frames  (s : State) : (kick s).frames = s.frames := by rw [kick_form]
@[simp] theorem kick_monitor  (s : State) : (kick s).monitor = s.monitor := by rw [kick_form]
@[simp] theorem kick_gate  (s : State) : (kick s).gate = s.gate := by rw [kick_form]
@[simp] theorem kick_ballast  (s : State) : (kick s).ballast = s.ballast := by rw [kick_form]
@[simp] theorem kick_freeCount  (s : State) : (kick s).freeCount = s.freeCount := by rw [kick_form]
@[simp] theorem kick_pending  (s : State) : (kick s).pending = s.pending := by rw [kick_form]

/-! ### The close of a step -/

@[simp] theorem refreshLines_powered  (s : State) : (refreshLines s).powered = s.powered := rfl
@[simp] theorem refreshLines_restartArmed  (s : State) : (refreshLines s).restartArmed = s.restartArmed := rfl
@[simp] theorem refreshLines_mode  (s : State) : (refreshLines s).mode = s.mode := rfl
@[simp] theorem refreshLines_time  (s : State) : (refreshLines s).time = s.time := rfl
@[simp] theorem refreshLines_nvm  (s : State) : (refreshLines s).nvm = s.nvm := rfl
@[simp] theorem refreshLines_ship  (s : State) : (refreshLines s).ship = s.ship := rfl
@[simp] theorem refreshLines_settings  (s : State) : (refreshLines s).settings = s.settings := rfl
@[simp] theorem refreshLines_origin  (s : State) : (refreshLines s).origin = s.origin := rfl
@[simp] theorem refreshLines_committing  (s : State) : (refreshLines s).committing = s.committing := rfl
@[simp] theorem refreshLines_storing  (s : State) : (refreshLines s).storing = s.storing := rfl
@[simp] theorem refreshLines_links  (s : State) : (refreshLines s).links = s.links := rfl
@[simp] theorem refreshLines_cond  (s : State) : (refreshLines s).cond = s.cond := rfl
@[simp] theorem refreshLines_snapshot  (s : State) : (refreshLines s).snapshot = s.snapshot := rfl
@[simp] theorem refreshLines_snapshotOp  (s : State) : (refreshLines s).snapshotOp = s.snapshotOp := rfl
@[simp] theorem refreshLines_image  (s : State) : (refreshLines s).image = s.image := rfl
@[simp] theorem refreshLines_eval  (s : State) : (refreshLines s).eval = s.eval := rfl
@[simp] theorem refreshLines_frames  (s : State) : (refreshLines s).frames = s.frames := rfl
@[simp] theorem refreshLines_ballast  (s : State) : (refreshLines s).ballast = s.ballast := rfl
@[simp] theorem refreshLines_freeCount  (s : State) : (refreshLines s).freeCount = s.freeCount := rfl
@[simp] theorem refreshLines_pending  (s : State) : (refreshLines s).pending = s.pending := rfl

@[simp] theorem refreshLines_monitor_actual  (s : State) : (refreshLines s).monitor.actual = s.monitor.actual := rfl
@[simp] theorem refreshLines_monitor_plan  (s : State) : (refreshLines s).monitor.plan = s.monitor.plan := rfl
@[simp] theorem refreshLines_monitor_trial  (s : State) : (refreshLines s).monitor.trial = s.monitor.trial := rfl
@[simp] theorem refreshLines_monitor_first  (s : State) : (refreshLines s).monitor.first = s.monitor.first := rfl
@[simp] theorem refreshLines_monitor_next  (s : State) : (refreshLines s).monitor.next = s.monitor.next := rfl
@[simp] theorem refreshLines_monitor_stopCount  (s : State) :
    (refreshLines s).monitor.stopCount = s.monitor.stopCount := rfl
@[simp] theorem refreshLines_monitor_suspension  (s : State) :
    (refreshLines s).monitor.suspension = s.monitor.suspension := rfl

@[simp] theorem refreshLines_gate_recs  (s : State) : (refreshLines s).gate.recs = s.gate.recs := rfl
@[simp] theorem refreshLines_gate_stale  (s : State) : (refreshLines s).gate.stale = s.gate.stale := rfl
@[simp] theorem refreshLines_gate_queue  (s : State) : (refreshLines s).gate.queue = s.gate.queue := rfl
@[simp] theorem refreshLines_gate_slot  (s : State) : (refreshLines s).gate.slot = s.gate.slot := rfl
@[simp] theorem refreshLines_gate_window  (s : State) : (refreshLines s).gate.window = s.gate.window := rfl

@[simp] theorem settle_powered  (s : State) : (settle s).powered = s.powered := by simp [settle]
@[simp] theorem settle_restartArmed  (s : State) : (settle s).restartArmed = s.restartArmed := by simp [settle]
@[simp] theorem settle_mode  (s : State) : (settle s).mode = s.mode := by simp [settle]
@[simp] theorem settle_time  (s : State) : (settle s).time = s.time := by simp [settle]
@[simp] theorem settle_nvm  (s : State) : (settle s).nvm = s.nvm := by simp [settle]
@[simp] theorem settle_ship  (s : State) : (settle s).ship = s.ship := by simp [settle]
@[simp] theorem settle_settings  (s : State) : (settle s).settings = s.settings := by simp [settle]
@[simp] theorem settle_origin  (s : State) : (settle s).origin = s.origin := by simp [settle]
@[simp] theorem settle_committing  (s : State) : (settle s).committing = s.committing := by simp [settle]
@[simp] theorem settle_storing  (s : State) : (settle s).storing = s.storing := by simp [settle]
@[simp] theorem settle_cond  (s : State) : (settle s).cond = s.cond := by simp [settle]
@[simp] theorem settle_snapshot  (s : State) : (settle s).snapshot = s.snapshot := by simp [settle]
@[simp] theorem settle_snapshotOp  (s : State) : (settle s).snapshotOp = s.snapshotOp := by simp [settle]
@[simp] theorem settle_image  (s : State) : (settle s).image = s.image := by simp [settle]
@[simp] theorem settle_frames  (s : State) : (settle s).frames = s.frames := by simp [settle]
@[simp] theorem settle_ballast  (s : State) : (settle s).ballast = s.ballast := by simp [settle]
@[simp] theorem settle_freeCount  (s : State) : (settle s).freeCount = s.freeCount := by simp [settle]
@[simp] theorem settle_pending  (s : State) : (settle s).pending = s.pending := by simp [settle]

@[simp] theorem settle_monitor_actual  (s : State) : (settle s).monitor.actual = s.monitor.actual := by simp [settle]
@[simp] theorem settle_monitor_plan  (s : State) : (settle s).monitor.plan = s.monitor.plan := by simp [settle]
@[simp] theorem settle_monitor_trial  (s : State) : (settle s).monitor.trial = s.monitor.trial := by simp [settle]
@[simp] theorem settle_monitor_first  (s : State) : (settle s).monitor.first = s.monitor.first := by simp [settle]
@[simp] theorem settle_monitor_next  (s : State) : (settle s).monitor.next = s.monitor.next := by simp [settle]
@[simp] theorem settle_monitor_stopCount  (s : State) :
    (settle s).monitor.stopCount = s.monitor.stopCount := by simp [settle]
@[simp] theorem settle_monitor_suspension  (s : State) :
    (settle s).monitor.suspension = s.monitor.suspension := by simp [settle]

@[simp] theorem settle_gate_recs  (s : State) : (settle s).gate.recs = s.gate.recs := by simp [settle]
@[simp] theorem settle_gate_stale  (s : State) : (settle s).gate.stale = s.gate.stale := by simp [settle]
@[simp] theorem settle_gate_queue  (s : State) : (settle s).gate.queue = s.gate.queue := by simp [settle]
@[simp] theorem settle_gate_slot  (s : State) : (settle s).gate.slot = s.gate.slot := by simp [settle]
@[simp] theorem settle_gate_window  (s : State) : (settle s).gate.window = s.gate.window := by simp [settle]

end Sys2Proof.Machine
end

