-- ==== Sys2Proof/Laws/Close.lean ====
section
/-! SUPPORT. What the close of a step can do, said once: `settle` leaves a state standing as it was, keeps every place
of every queue, and leaves no line behind its rule; and what latching an event can do. -/

namespace Sys2Proof.Machine

/-! ### Links of a state -/

@[simp] theorem links_get_set_self (ls : Links) (l : Link) (u : LinkUnit) : (ls.set l u).get l = u := by
  cases l <;> rfl

theorem links_get_set_ne (ls : Links) {l k : Link} (u : LinkUnit) (h : k ≠ l) : (ls.set l u).get k = ls.get k := by
  cases l <;> cases k <;> first | rfl | exact absurd rfl h

theorem links_get_set (ls : Links) (l k : Link) (u : LinkUnit) :
    (ls.set l u).get k = if k = l then u else ls.get k := by
  by_cases h : k = l
  · subst h; simp
  · rw [links_get_set_ne ls u h, if_neg h]

@[simp] theorem onLink_get_self (l : Link) (f : LinkUnit → LinkUnit) (s : State) :
    (s.onLink l f).links.get l = f (s.links.get l) := links_get_set_self _ _ _

theorem onLink_get_ne {l k : Link} (f : LinkUnit → LinkUnit) (s : State) (h : k ≠ l) :
    (s.onLink l f).links.get k = s.links.get k := links_get_set_ne _ _ h

theorem onLink_get (l k : Link) (f : LinkUnit → LinkUnit) (s : State) :
    (s.onLink l f).links.get k = if k = l then f (s.links.get k) else s.links.get k := by
  by_cases h : k = l
  · subst h; simp
  · rw [onLink_get_ne f s h, if_neg h]

theorem onLink_onLink (l : Link) (f g : LinkUnit → LinkUnit) (s : State) :
    (s.onLink l f).onLink l g = s.onLink l (fun u => g (f u)) := by
  cases l <;> rfl

theorem onLink_congr {l : Link} {f g : LinkUnit → LinkUnit} {s : State}
    (h : f (s.links.get l) = g (s.links.get l)) : s.onLink l f = s.onLink l g := by
  simp only [State.onLink, h]

theorem onLink_id {l : Link} {f : LinkUnit → LinkUnit} {s : State} (h : f (s.links.get l) = s.links.get l) :
    s.onLink l f = s := by
  cases l <;> (simp only [State.onLink, h]; rfl)

/-- Two link sets are equal when each link is. -/
theorem links_ext {a b : Links} (h : ∀ l, a.get l = b.get l) : a = b := by
  obtain ⟨a0, a1, a2, a3⟩ := a
  obtain ⟨b0, b1, b2, b3⟩ := b
  have h0 := h .l0
  have h1 := h .l1
  have h2 := h .l2
  have h3 := h .l3
  simp only [Links.get] at h0 h1 h2 h3
  rw [h0, h1, h2, h3]

/-! ### Standing -/

/-- What of the links a state's standing keeps. -/
def Links.standing (ls : Links) : Links := ⟨ls.l0.standing, ls.l1.standing, ls.l2.standing, ls.l3.standing⟩

@[simp] theorem links_standing_get (ls : Links) (l : Link) : ls.standing.get l = (ls.get l).standing := by
  cases l <;> rfl

/-- What of the evaluation unit a state's standing keeps. -/
def Eval.standing (e : Eval) : Eval :=
  { actual := e.actual.standing, plan := e.plan.standing, trial := e.trial.standing, unit := .idle, alt := 0,
    waiting := [] }

@[simp] theorem standing_links (s : State) : s.standing.links = s.links.standing := rfl

@[simp] theorem standing_eval (s : State) : s.standing.eval = s.eval.standing := rfl

/-- A change to one link that keeps its standing keeps the state's. -/
theorem standing_onLink {l : Link} {f : LinkUnit → LinkUnit} {s : State}
    (h : (f (s.links.get l)).standing = (s.links.get l).standing) : (s.onLink l f).standing = s.standing := by
  cases l <;> (simp only [Links.get] at h; simp only [State.standing, State.onLink, Links.set, Links.get, h])

@[simp] theorem standing_startTx (m : Mode) (u : LinkUnit) : (u.startTx m).standing = u.standing := by
  unfold LinkUnit.startTx; split <;> rfl

@[simp] theorem standing_fill (a : Awaits) (r : Reply) (u : LinkUnit) : (u.fill a r).standing = u.standing := rfl

@[simp] theorem standing_reserve (k t : Byte) (u : LinkUnit) : (u.reserve k t).standing = u.standing := rfl

@[simp] theorem standing_keepPlace (a : Awaits) (u : LinkUnit) : (u.keepPlace a).standing = u.standing := rfl

@[simp] theorem standing_noticeDue (u : LinkUnit) : u.noticeDue.standing = u.standing := by
  unfold LinkUnit.noticeDue; repeat' split
  all_goals rfl

@[simp] theorem startAllTx_standing (s : State) : (startAllTx s).standing = s.standing := by
  simp only [startAllTx, allLinks, List.foldl_cons, List.foldl_nil]
  repeat rw [standing_onLink (standing_startTx _ _)]

@[simp] theorem refreshLines_standing (s : State) : (refreshLines s).standing = s.standing := rfl

theorem eval_clean_standing (e : Eval) (x : Ctx) : (e.clean x).standing = e.standing := by cases x <;> rfl

theorem choose_standing (s : State) : (choose s).standing = s.standing := by
  unfold choose
  repeat' split
  all_goals rfl

@[simp] theorem kick_standing (s : State) : (kick s).standing = s.standing := by
  unfold kick; split
  · exact choose_standing s
  · rfl

/-- The close of a step leaves the state standing as it was. -/
@[simp] theorem settle_standing (s : State) : (settle s).standing = s.standing := by simp [settle]

/-! ### Places through the close of a step -/

/-- Beginning to send turns at most the first place that holds a frame into the frame in transmission. -/
theorem mem_beginSending {n f : Frame} {q : List OutPlace} (h : OutPlace.reply f ∈ q ∨ OutPlace.sending f ∈ q) :
    OutPlace.reply f ∈ beginSending n q ∨ OutPlace.sending f ∈ beginSending n q := by
  induction q with
  | nil => simp at h
  | cons p q ih =>
    cases p with
    | reserved a k t => simpa [beginSending] using ih (by simpa using h)
    | reply g =>
      simp only [beginSending, List.mem_cons, OutPlace.reply.injEq, OutPlace.sending.injEq, reduceCtorEq,
        false_or] at h ⊢
      tauto
    | notice =>
      simp only [beginSending, List.mem_cons, OutPlace.sending.injEq, reduceCtorEq, false_or] at h ⊢
      tauto
    | sending g =>
      simp only [beginSending, List.mem_cons, reduceCtorEq, false_or, OutPlace.sending.injEq] at h ⊢
      rcases h with h | h | h
      · rcases ih (.inl h) with h | h <;> tauto
      · tauto
      · rcases ih (.inr h) with h | h <;> tauto

theorem sends_startTx {m : Mode} {u : LinkUnit} {f : Frame}
    (h : OutPlace.reply f ∈ u.outbound ∨ OutPlace.sending f ∈ u.outbound) :
    OutPlace.reply f ∈ (u.startTx m).outbound ∨ OutPlace.sending f ∈ (u.startTx m).outbound := by
  unfold LinkUnit.startTx; split
  · exact h
  · exact mem_beginSending h

theorem startAllTx_get (s : State) (l : Link) : (startAllTx s).links.get l = (s.links.get l).startTx s.mode := by
  cases l <;> rfl

theorem settle_get (s : State) (l : Link) : (settle s).links.get l = (s.links.get l).startTx s.mode := by
  unfold settle
  rw [startAllTx_get]
  simp

theorem sends_settle {s : State} {l : Link} {f : Frame} (h : s.sends l f) : (settle s).sends l f := by
  unfold State.sends
  rw [settle_get]
  exact sends_startTx h

/-! ### Latching -/

/-- Latching an event sets its bit and changes nothing else of a link that its standing keeps. -/
theorem latch_unit_standing (e : Event) (u : LinkUnit) :
    (u.latch e).standing = { u.standing with notices := u.notices ||| e.flag } := by
  unfold LinkUnit.latch
  split
  · rename_i h
    have : u.notices ||| e.flag = u.notices := by
      apply BitVec.eq_of_getLsbD_eq
      intro i hi
      simp only [BitVec.getLsbD_or, Event.flag, BitVec.getLsbD_twoPow]
      by_cases hb : e.bit = i
      · subst hb; simp [h]
      · simp [hb]
    rw [this]; rfl
  · dsimp only
    split
    · rw [standing_noticeDue]; rfl
    · rfl

theorem latch_unit_notices (e : Event) (u : LinkUnit) : (u.latch e).notices = u.notices ||| e.flag :=
  congrArg LinkUnit.notices (latch_unit_standing e u)

theorem onLink_standing_congr {l : Link} {f g : LinkUnit → LinkUnit} {s s' : State}
    (hs : s.standing = s'.standing) (h : (f (s.links.get l)).standing = (g (s'.links.get l)).standing) :
    (s.onLink l f).standing = (s'.onLink l g).standing := by
  have hl : (s.onLink l f).standing.links = (s'.onLink l g).standing.links := by
    apply links_ext
    intro k
    simp only [standing_links, links_standing_get]
    by_cases hk : k = l
    · subst hk; simpa using h
    · rw [onLink_get_ne f s hk, onLink_get_ne g s' hk]
      have := congrArg (fun x : State => x.links.get k) hs
      simpa using this
  have e1 : (s.onLink l f).standing = { s.standing with links := (s.onLink l f).standing.links } := rfl
  have e2 : (s'.onLink l g).standing = { s'.standing with links := (s'.onLink l g).standing.links } := rfl
  rw [e1, e2, hl, hs]

/-- States that stand alike stand alike after an event is latched in both. -/
theorem latch_standing_congr {e : Event} {l : Link} {s s' : State} (h : s.standing = s'.standing) :
    (latch e l s).standing = (latch e l s').standing := by
  apply onLink_standing_congr h
  rw [latch_unit_standing, latch_unit_standing]
  have hl : (s.links.get l).standing = (s'.links.get l).standing := by
    have := congrArg (fun x : State => x.links.get l) h
    simpa using this
  rw [hl]
  have hn : (s.links.get l).notices = (s'.links.get l).notices := by
    have := congrArg (fun u : LinkUnit => u.notices) hl
    exact this
  rw [hn]

theorem latchOn_standing_congr {e : Event} {ls : List Link} {s s' : State} (h : s.standing = s'.standing) :
    (latchOn e ls s).standing = (latchOn e ls s').standing := by
  induction ls generalizing s s' with
  | nil => exact h
  | cons l ls ih => exact ih (latch_standing_congr h)

end Sys2Proof.Machine
end

