-- ==== Sys2Proof/Laws/Admission.lean ====
section
/-! SUPPORT. What a station request can do, said once for every row: a ready request runs its body on the state with the
reply's place reserved, and its answer fills that place. -/

namespace Sys2Proof.Machine

/-! ### The place of the command being served -/

/-- The first place reserved for the command being served carries the kind `k` and the tag `t`. -/
def LinkUnit.holds (k t : Byte) (u : LinkUnit) : Prop :=
  ∃ a b, u.outbound = a ++ OutPlace.reserved .current k t :: b ∧ ∀ p ∈ a, p.isCurrent = false

theorem onReserved_append {a : Awaits} {g : Byte → Byte → OutPlace} {q r : List OutPlace}
    (h : ∀ p ∈ q, ∀ k t, p ≠ .reserved a k t) : onReserved a g (q ++ r) = q ++ onReserved a g r := by
  induction q with
  | nil => rfl
  | cons p q ih =>
    have ih := ih (fun p hp => h p (List.mem_cons_of_mem _ hp))
    cases p with
    | reserved b k t =>
      have : a ≠ b := fun e => h _ List.mem_cons_self k t (by rw [e])
      simp [onReserved, this, ih]
    | reply f => simp [onReserved, ih]
    | notice => simp [onReserved, ih]
    | sending f => simp [onReserved, ih]

theorem onReserved_current {g : Byte → Byte → OutPlace} {q r : List OutPlace} {k t : Byte}
    (h : ∀ p ∈ q, p.isCurrent = false) :
    onReserved .current g (q ++ .reserved .current k t :: r) = q ++ g k t :: r := by
  rw [onReserved_append]
  · simp [onReserved]
  · intro p hp k t e
    have := h p hp
    rw [e] at this
    simp [OutPlace.isCurrent] at this

theorem noneServed_get {s : State} (h : noneServed s = true) (l : Link) :
    ∀ p ∈ (s.links.get l).outbound, p.isCurrent = false := by
  intro p hp
  have h := List.all_eq_true.mp h l (by cases l <;> simp [allLinks])
  simpa using List.all_eq_true.mp h p hp

theorem holds_reserve {s : State} (h : noneServed s = true) (l : Link) (k t : Byte) :
    ((s.onLink l (LinkUnit.reserve k t)).links.get l).holds k t :=
  ⟨(s.links.get l).outbound, [], by rw [onLink_get_self]; rfl, noneServed_get h l⟩

theorem holds_noticeDue {k t : Byte} {u : LinkUnit} (h : u.holds k t) : u.noticeDue.holds k t := by
  unfold LinkUnit.noticeDue
  split
  · exact h
  · split
    · obtain ⟨a, b, e, ha⟩ := h
      exact ⟨a, b ++ [.notice], by simp [e], ha⟩
    · exact h

theorem holds_latch_unit {k t : Byte} {e : Event} {u : LinkUnit} (h : u.holds k t) : (u.latch e).holds k t := by
  unfold LinkUnit.latch
  split
  · exact h
  · dsimp only
    split
    · exact holds_noticeDue (u := { u with notices := u.notices ||| e.flag }) h
    · exact h

theorem holds_latch {k t : Byte} {e : Event} {l m : Link} {s : State} (h : (s.links.get l).holds k t) :
    ((latch e m s).links.get l).holds k t := by
  unfold latch
  rw [onLink_get]
  split
  · exact holds_latch_unit h
  · exact h

theorem holds_latchOn {k t : Byte} {e : Event} {l : Link} {ls : List Link} {s : State}
    (h : (s.links.get l).holds k t) : ((latchOn e ls s).links.get l).holds k t := by
  induction ls generalizing s with
  | nil => exact h
  | cons m ls ih => exact ih (holds_latch h)

/-- Filling the place of the command being served queues its reply. -/
theorem fill_sends {k t : Byte} {u : LinkUnit} {r : Reply} (h : u.holds k t) :
    OutPlace.reply (replyFrame r k t) ∈ (u.fill .current r).outbound := by
  obtain ⟨a, b, e, ha⟩ := h
  simp only [LinkUnit.fill, e]
  rw [onReserved_current ha]
  simp

/-! ### A ready request -/

theorem ready_canTake {s : State} {l : Link} {r : Request} (h : Ready s l r) : canTake s l = true := by
  simp [canTake, LinkUnit.hasFree, h.mode, h.place]

/-- A ready request runs its body with its place reserved, and is answered. -/
theorem command_ready {s : State} {l : Link} {r : Request} {t : Byte} {body : State → State × Answer}
    (h : Ready s l r) :
    command l t r body s =
      .next (finish l (body (s.onLink l (LinkUnit.reserve r.kind t))).2
        (body (s.onLink l (LinkUnit.reserve r.kind t))).1) := by
  simp [command, h.powered, h.lineUp, ready_canTake h, h.first, takenAs, admitOrRefuse, h.role, h.admitted]

/-- A ready request whose body answers and changes nothing leaves the state with its reply queued. -/
theorem command_quiet {s : State} {l : Link} {r : Request} {t : Byte} {body : State → State × Answer} {rep : Reply}
    (h : Ready s l r)
    (hb : body (s.onLink l (LinkUnit.reserve r.kind t)) = (s.onLink l (LinkUnit.reserve r.kind t), .quiet rep)) :
    command l t r body s = .next (answered l r t rep s) := by
  rw [command_ready h, hb]
  simp only [finish, answered, onLink_onLink]
  congr 1
  apply onLink_congr
  simp only [LinkUnit.reserve, LinkUnit.fill, onLink_mode]
  rw [onReserved_current (noneServed_get h.none l)]

/-- A ready request whose body replies `rep` after a change completes with the state the body left. -/
theorem command_reply {s s1 s' : State} {l : Link} {r : Request} {t : Byte} {body : State → State × Answer}
    {rep : Reply} (h : Ready s l r) (hb : body (s.onLink l (LinkUnit.reserve r.kind t)) = (s1, .reply rep))
    (hold : (s1.links.get l).holds r.kind t) (hs : s1.standing = s'.standing) :
    ∃ x, command l t r body s = .next x ∧ x.standing = s'.standing ∧ x.sends l (replyFrame rep r.kind t) := by
  rw [command_ready h, hb]
  refine ⟨_, rfl, ?_, ?_⟩
  · simp only [finish, settle_standing]
    rw [standing_onLink (standing_fill _ _ _), hs]
  · simp only [finish]
    apply sends_settle
    left
    rw [onLink_get_self]
    exact fill_sends hold

/-- A ready request whose body becomes an operation in flight keeps its place. -/
theorem command_inFlight {s s1 s' : State} {l : Link} {r : Request} {t : Byte} {body : State → State × Answer}
    {a : Awaits} (h : Ready s l r) (hb : body (s.onLink l (LinkUnit.reserve r.kind t)) = (s1, .inFlight a))
    (hold : (s1.links.get l).holds r.kind t) (hs : s1.standing = s'.standing) :
    ∃ x, command l t r body s = .next x ∧ x.standing = s'.standing
      ∧ OutPlace.reserved a r.kind t ∈ (x.links.get l).outbound := by
  rw [command_ready h, hb]
  refine ⟨_, rfl, ?_, ?_⟩
  · simp only [finish, settle_standing]
    rw [standing_onLink (standing_keepPlace _ _), hs]
  · simp only [finish]
    rw [settle_get, onLink_get_self]
    obtain ⟨p, q, e, hp⟩ := hold
    have hm : OutPlace.reserved a r.kind t ∈ ((s1.links.get l).keepPlace a).outbound := by
      simp only [LinkUnit.keepPlace, e]
      rw [onReserved_current hp]
      simp
    unfold LinkUnit.startTx
    split
    · exact hm
    · exact mem_beginSending_reserved hm
where
  mem_beginSending_reserved {n : Frame} {a : Awaits} {k t : Byte} {q : List OutPlace}
      (h : OutPlace.reserved a k t ∈ q) : OutPlace.reserved a k t ∈ beginSending n q := by
    induction q with
    | nil => simp at h
    | cons p q ih =>
      cases p <;> simp only [beginSending, List.mem_cons, reduceCtorEq, false_or] at h ⊢ <;> tauto

/-- The values of a refusal at admission do not depend on the links. -/
@[simp] theorem refusal_onLink (k : Byte) (st : Status) (l : Link) (f : LinkUnit → LinkUnit) (s : State) :
    refusal k st (s.onLink l f) = refusal k st s := rfl

/-- What a refusal at admission can be: its status alone, or, for the four frame commands where R84 holds, with the
stack's figures (R180, R84). -/
theorem refusal_cases (k : Byte) (st : Status) (s : State) :
    (refusal k st s = Reply.bare st ∧ (frameKind k = true → Config.figuresAtAdmission = false))
    ∨ (refusal k st s = ⟨st, frameValues k s⟩ ∧ frameKind k = true ∧ Config.figuresAtAdmission = true) := by
  cases hk : frameKind k <;> cases h : Config.figuresAtAdmission <;> simp [refusal, refusalValues, Reply.bare, hk, h]

/-- For every kind but those of the four frame commands it is its status alone, whichever rule holds for these. -/
theorem refusal_bare {k : Byte} (hk : frameKind k = false) (st : Status) (s : State) :
    refusal k st s = Reply.bare st := by
  simp [refusal, refusalValues, Reply.bare, hk]

/-- A request that a break keeps from the receiver is lost (R186). -/
theorem command_lineLow {s : State} {l : Link} {r : Request} {t : Byte} {body : State → State × Answer}
    (h : (s.links.get l).lineLow = true) : command l t r body s = .next s := by
  simp [command, h]

/-- A request refused by its role or by the mode is answered so, and nothing else happens. -/
theorem command_refused {s : State} {l : Link} {r : Request} {t : Byte} {body : State → State × Answer}
    (hp : s.powered = true) (hm : s.mode ≠ .initializing) (hu : (s.links.get l).lineLow = false)
    (hq : (s.links.get l).outbound.length < Config.linkPlaces) (hf : (s.links.get l).inbound = []) (hn : noneServed s = true)
    (h : roleOk l r = false ∨ modeOk s.mode l r = false) :
    command l t r body s =
      .next (answered l r t (refusal r.kind (if roleOk l r then .badMode else .badRole) s) s) := by
  have hc : canTake s l = true := by simp [canTake, LinkUnit.hasFree, hm, hq]
  have key : ∀ rep, finish l (.quiet rep) (s.onLink l (LinkUnit.reserve r.kind t)) = answered l r t rep s := by
    intro rep
    simp only [finish, answered, onLink_onLink]
    apply onLink_congr
    simp only [LinkUnit.reserve, LinkUnit.fill, onLink_mode]
    rw [onReserved_current (noneServed_get hn l)]
  simp only [command, hp, hu, hc, hf, takenAs, admitOrRefuse]
  by_cases hr : roleOk l r = true
  · have h : modeOk s.mode l r = false := h.resolve_left (by simp [hr])
    simp [hr, h, key]
  · simp [hr, key]

end Sys2Proof.Machine
end

