-- ==== Sys2Proof/Laws/Exec.lean ====
section
/-! SUPPORT. What a command can do, said once over the whole table: a station row runs its body through `command`, and a
command either leaves the state, queues its frame, refuses, or runs its body and is answered. -/

namespace Sys2Proof.Machine

/-- Every station row is its request's body run through `command`. -/
theorem exec_request {i : Instr} {l : Link} {t : Byte} {r : Request} (h : i.request = some (l, t, r)) (s : State) :
    exec i s = command l t r (bodyOf l r) s := by
  cases i <;> simp only [Instr.request, Option.some.injEq, Prod.mk.injEq, reduceCtorEq] at h <;>
    (obtain ⟨rfl, rfl, rfl⟩ := h; rfl)

/-- What a station request can do. -/
theorem command_cases {l : Link} {t : Byte} {r : Request} {body : State → State × Answer} {s x : State}
    (h : command l t r body s = .next x) :
    x = s
    ∨ (s.powered = true ∧ (∃ f, x = frameArrives l f s))
    ∨ (s.powered = true ∧ canTake s l = true ∧ (s.links.get l).inbound = []
        ∧ (∃ st, x = finish l (.quiet (refusal r.kind st s)) (s.onLink l (LinkUnit.reserve r.kind t))))
    ∨ (s.powered = true ∧ canTake s l = true ∧ (s.links.get l).inbound = [] ∧ roleOk l r = true
        ∧ modeOk s.mode l r = true
        ∧ x = finish l (body (s.onLink l (LinkUnit.reserve r.kind t))).2
          (body (s.onLink l (LinkUnit.reserve r.kind t))).1) := by
  unfold command at h
  rw [Host.Outcome.next.injEq] at h
  subst h
  by_cases hp : s.powered = true
  · cases (s.links.get l).lineLow with
    | true => left; simp [hp]
    | false =>
      right
      by_cases hc : canTake s l = true ∧ (s.links.get l).inbound = []
      · by_cases hr : roleOk l r = true
        · by_cases hm : modeOk s.mode l r = true
          · right; right
            refine ⟨hp, hc.1, hc.2, hr, hm, ?_⟩
            simp [hp, hc.1, hc.2, takenAs, admitOrRefuse, hr, hm]
          · right; left
            refine ⟨hp, hc.1, hc.2, .badMode, ?_⟩
            simp [hp, hc.1, hc.2, takenAs, admitOrRefuse, hr, hm]
        · right; left
          refine ⟨hp, hc.1, hc.2, .badRole, ?_⟩
          simp [hp, hc.1, hc.2, takenAs, admitOrRefuse, hr]
      · left
        refine ⟨hp, Request.frame t r, ?_⟩
        have : (canTake s l && (s.links.get l).inbound.isEmpty) = false := by
          rw [Bool.and_eq_false_iff]
          by_cases h1 : canTake s l = true
          · right
            have : (s.links.get l).inbound ≠ [] := fun e => hc ⟨h1, e⟩
            simpa [List.isEmpty_iff] using this
          · left; simpa using h1
        simp only [hp, this]
        rfl
  · left
    simp [hp]

/-- What TAKE_FRAME can do. -/
theorem takeFrame_cases {l : Link} {s x : State} (h : exec (.takeFrame l) s = .next x) :
    x = s
    ∨ ∃ f rest, s.powered = true ∧ canTake s l = true ∧ (s.links.get l).inbound = f :: rest ∧
        x = takenAs l f.kind f.tag (Request.decode f.kind f.payload) (bodyOf l)
          (s.onLink l (fun u => { u with inbound := rest })) := by
  simp only [exec, execTakeFrame, event, Host.Outcome.next.injEq] at h
  subst h
  by_cases hp : s.powered = true
  · by_cases hc : canTake s l = true
    · simp only [hp, hc, if_true]
      unfold takeHead
      cases hq : (s.links.get l).inbound with
      | nil => left; rfl
      | cons f rest => right; exact ⟨f, rest, trivial, trivial, rfl, rfl⟩
    · left; simp [hc]
  · left; simp [hp]

/-- What the taking of a frame can do. -/
theorem takenAs_cases (l : Link) (k t : Byte) (req : Option Request) (body : Request → State → State × Answer)
    (s : State) :
    (∃ st, takenAs l k t req body s = finish l (.quiet (refusal k st s)) (s.onLink l (LinkUnit.reserve k t)))
    ∨ ∃ r, req = some r ∧ roleOk l r = true ∧ modeOk s.mode l r = true
        ∧ takenAs l k t req body s =
          finish l (body r (s.onLink l (LinkUnit.reserve k t))).2 (body r (s.onLink l (LinkUnit.reserve k t))).1 := by
  cases req with
  | none => left; exact ⟨.badForm, rfl⟩
  | some r =>
    by_cases hr : roleOk l r = true
    · by_cases hm : modeOk s.mode l r = true
      · right; exact ⟨r, rfl, hr, hm, by simp [takenAs, admitOrRefuse, hr, hm]⟩
      · left; exact ⟨.badMode, by simp [takenAs, admitOrRefuse, hr, hm]⟩
    · left; exact ⟨.badRole, by simp [takenAs, admitOrRefuse, hr]⟩

/-- What an event that must be due can do. -/
theorem dueEvent_cases {due : State → Bool} {f : State → State} {s x : State} (h : dueEvent due f s = .next x) :
    x = s ∨ (s.powered = true ∧ due s = true ∧ x = settle (f s)) := by
  simp only [dueEvent, event, Host.Outcome.next.injEq] at h
  subst h
  by_cases hp : s.powered = true
  · by_cases hd : due s = true
    · right; exact ⟨hp, hd, by simp [hp, hd]⟩
    · left; simp [hp, hd]
  · left; simp [hp]

theorem dueEvent_due {due : State → Bool} {f : State → State} {s : State} (hp : s.powered = true)
    (hd : due s = true) : dueEvent due f s = .next (settle (f s)) := by
  simp [dueEvent, event, hp, hd]

theorem dueEvent_not {due : State → Bool} {f : State → State} {s : State} (hd : due s = false) :
    dueEvent due f s = .next s := by
  simp [dueEvent, event, hd]

/-- What an event can do. -/
theorem event_cases {f : State → State} {s x : State} (h : event f s = .next x) :
    (s.powered = false ∧ x = s) ∨ (s.powered = true ∧ x = f s) := by
  simp only [event, Host.Outcome.next.injEq] at h
  subst h
  by_cases hp : s.powered = true
  · right; exact ⟨hp, by simp [hp]⟩
  · left; simp [hp]

/-! ### A property that links and the close of a step do not touch -/

/-- A property of a state that no change of a link and no close of a step disturbs. -/
structure Calm (P : State → Prop) : Prop where
  link : ∀ s l f, P s → P (s.onLink l f)
  close : ∀ s, P s → P (settle s)

theorem finish_calm {P : State → Prop} (hP : Calm P) {s : State} (l : Link) (a : Answer) (h : P s) :
    P (finish l a s) := by
  cases a with
  | quiet r => exact hP.link _ _ _ (hP.link _ _ _ h)
  | reply r => exact hP.close _ (hP.link _ _ _ h)
  | inFlight x => exact hP.close _ (hP.link _ _ _ h)
  | silent => exact hP.close _ h

/-- A calm property that every body keeps is kept by every station request. -/
theorem command_calm {P : State → Prop} (hP : Calm P) {l : Link} {t : Byte} {r : Request}
    {body : State → State × Answer} {s x : State} (hb : ∀ s, P s → P (body s).1) (h : P s)
    (hx : command l t r body s = .next x) : P x := by
  rcases command_cases hx with rfl | ⟨_, f, rfl⟩ | ⟨_, _, _, st, rfl⟩ | ⟨_, _, _, _, _, rfl⟩
  · exact h
  · exact hP.link _ _ _ h
  · exact finish_calm hP _ _ (hP.link _ _ _ h)
  · exact finish_calm hP _ _ (hb _ (hP.link _ _ _ h))

/-- A calm property that every body keeps is kept by TAKE_FRAME. -/
theorem takeFrame_calm {P : State → Prop} (hP : Calm P) {l : Link} {s x : State}
    (hb : ∀ r s, P s → P (bodyOf l r s).1) (h : P s) (hx : exec (.takeFrame l) s = .next x) : P x := by
  rcases takeFrame_cases hx with rfl | ⟨f, rest, _, _, _, rfl⟩
  · exact h
  · rcases takenAs_cases l f.kind f.tag (Request.decode f.kind f.payload) (bodyOf l)
      (s.onLink l (fun u => { u with inbound := rest })) with ⟨st, e⟩ | ⟨r, _, _, _, e⟩
    · rw [e]; exact finish_calm hP _ _ (hP.link _ _ _ (hP.link _ _ _ h))
    · rw [e]; exact finish_calm hP _ _ (hb _ _ (hP.link _ _ _ (hP.link _ _ _ h)))

/-- A calm property is kept by every step when every body, and every event that acts on more than links, keeps it. -/
theorem exec_calm {P : State → Prop} (hP : Calm P) (hb : ∀ l r s, P s → P (bodyOf l r s).1)
    (hpow : ∀ s, P s → P (powerOnState s))
    (hrst : ∀ s, P s → P (startAllTx (restartEngine { s with restartArmed := false })))
    (harm : ∀ s, P s → P { s with restartArmed := true })
    (htime : ∀ s, P s → P { s with time := s.time + 1 })
    (hloss : ∀ s, P s → ∀ x, execPowerLoss s = .next x → P x)
    (hinit : ∀ s, P s → P (endInitializing s)) (hcommit : ∀ s, P s → P (completeCommit s))
    (hstore : ∀ s, P s → P (completeStore s)) (hsnap : ∀ s, P s → P (completeSnapshot s))
    (hlift : ∀ s c, P s → P (timeoutLift c s))
    (hcrane : ∀ s c, P s → P (advanceActual (craneGoesStale c s)))
    (htank : ∀ s k, P s → P (advanceActual (tankGoesStale k s)))
    (htrans : ∀ s k, P s → P (timeoutTransfer k s)) (hpub : ∀ s p, passInFlight s = some p → P s → P (publish p s))
    (hhook : ∀ s, P s → P (completeHookPass s)) (hpred : ∀ s, P s → P (completePrediction s))
    {i : Instr} {s x : State} (h : P s) (hx : exec i s = .next x) : P x := by
  have hdue : ∀ {due : State → Bool} {f : State → State}, (∀ s, P s → P (f s)) → dueEvent due f s = .next x → P x := by
    intro due f hf hx
    rcases dueEvent_cases hx with rfl | ⟨_, _, rfl⟩
    · exact h
    · exact hP.close _ (hf _ h)
  have hev : ∀ {f : State → State}, (∀ s, P s → P (f s)) → event f s = .next x → P x := by
    intro f hf hx
    rcases event_cases hx with ⟨_, rfl⟩ | ⟨_, rfl⟩
    · exact h
    · exact hf _ h
  rcases hr : i.request with _ | ⟨l, t, r⟩
  · cases i <;> simp only [Instr.request, reduceCtorEq] at hr <;> simp only [exec] at hx
    case powerOn => cases hx; exact hpow _ h
    case restartLine => exact hev (fun s hs => by split; exacts [hrst _ hs, hs]) hx
    case endOfInitializing => exact hdue hinit hx
    case timebaseAdvance => exact hev htime hx
    case commitCompletion => exact hdue hcommit hx
    case storeSettingsCompletion => exact hdue hstore hx
    case openSnapshotCompletion => exact hdue hsnap hx
    case pairingTimeout c => exact hdue (hlift · c) hx
    case requestTimeout c => exact hdue (hlift · c) hx
    case clearanceLapse => exact hdue (fun s => hlift s _) hx
    case craneBecomesStale c => exact hdue (hcrane · c) hx
    case tankBecomesStale k => exact hdue (htank · k) hx
    case transferRequestTimeout k => exact hdue (htrans · k) hx
    case publication =>
      refine hdue (fun s hs => ?_) hx
      split
      · exact hpub _ _ ‹_› hs
      · exact hs
    case hookPassComplete => exact hdue hhook hx
    case predictionCompletion => exact hdue hpred hx
    case frameReceived l cs => exact hev (fun s hs => hP.link _ _ _ hs) hx
    case characterGapTimeout l => exact hev (fun s hs => hP.link _ _ _ hs) hx
    case lineBreak l => exact hev (fun s hs => hP.link _ _ _ hs) hx
    case takeFrame l => exact takeFrame_calm hP (hb l) h hx
    case frameDeparture l => exact hev (fun s hs => hP.link _ _ _ hs) hx
    case powerLoss => exact hloss _ h _ hx
    case receiveLineReturnToIdle l => cases hx; exact hP.link _ _ _ h
    case restartInputReturnToRest => cases hx; exact harm _ h
  · rw [exec_request hr] at hx
    exact command_calm hP (hb l r) h hx

end Sys2Proof.Machine
end

