-- ==== Sys2Proof/Laws/Tables.lean ====
section
/-! SUPPORT. The tables kept by number: their canonical form is kept by every operation, a read after a write gives the
value written and leaves every other number alone, and equal tables read alike. -/

namespace Sys2Proof.Machine

variable {α : Type}

/-! ### The canonical form -/

theorem tableWfFrom_mono {lo lo' : Nat} {t : Table α} (h : lo' ≤ lo) (ht : tableWfFrom lo t = true) :
    tableWfFrom lo' t = true := by
  cases t with
  | nil => rfl
  | cons p t => simp only [tableWfFrom, Bool.and_eq_true, decide_eq_true_eq] at ht ⊢; exact ⟨by omega, ht.2⟩

theorem tableWfFrom_mem {lo : Nat} {t : Table α} (h : tableWfFrom lo t = true) : ∀ p ∈ t, lo ≤ p.1 := by
  induction t generalizing lo with
  | nil => intro p hp; cases hp
  | cons q t ih =>
    simp only [tableWfFrom, Bool.and_eq_true, decide_eq_true_eq] at h
    intro p hp
    rcases List.mem_cons.mp hp with rfl | hp
    · exact h.1
    · have := ih h.2 p hp; omega

theorem tableWfFrom_tput {lo : Nat} {t : Table α} {n : Nat} {a : α} (h : tableWfFrom lo t = true) (hn : lo ≤ n) :
    tableWfFrom lo (tput t n a) = true := by
  induction t generalizing lo with
  | nil => simp [tput, tableWfFrom, hn]
  | cons q t ih =>
    simp only [tableWfFrom, Bool.and_eq_true, decide_eq_true_eq] at h
    simp only [tput]
    split
    · simp only [tableWfFrom, Bool.and_eq_true, decide_eq_true_eq]; exact ⟨hn, by omega, h.2⟩
    · split
      · subst n; simp only [tableWfFrom, Bool.and_eq_true, decide_eq_true_eq]; exact ⟨h.1, h.2⟩
      · simp only [tableWfFrom, Bool.and_eq_true, decide_eq_true_eq]
        exact ⟨h.1, ih h.2 (by omega)⟩

/-- Keeping a record keeps the form. -/
theorem tableWf_tput {t : Table α} {n : Nat} {a : α} (h : tableWf t = true) : tableWf (tput t n a) = true :=
  tableWfFrom_tput h (Nat.zero_le n)

theorem tableWfFrom_filter {lo : Nat} {t : Table α} (f : Nat × α → Bool) (h : tableWfFrom lo t = true) :
    tableWfFrom lo (t.filter f) = true := by
  induction t generalizing lo with
  | nil => rfl
  | cons q t ih =>
    simp only [tableWfFrom, Bool.and_eq_true, decide_eq_true_eq] at h
    rw [List.filter_cons]
    split
    · simp only [tableWfFrom, Bool.and_eq_true, decide_eq_true_eq]; exact ⟨h.1, ih h.2⟩
    · exact tableWfFrom_mono (by omega) (ih h.2)

/-- Keeping some of the records keeps the form. -/
theorem tableWf_filter {t : Table α} (f : Nat × α → Bool) (h : tableWf t = true) : tableWf (t.filter f) = true :=
  tableWfFrom_filter f h

/-- Removing a record keeps the form. -/
theorem tableWf_tdrop {t : Table α} {n : Nat} (h : tableWf t = true) : tableWf (tdrop t n) = true :=
  tableWfFrom_filter _ h

theorem tableWfFrom_keys {β : Type} {lo : Nat} {t : Table α} {u : Table β} (h : tableWfFrom lo t = true)
    (hk : u.map Prod.fst = t.map Prod.fst) : tableWfFrom lo u = true := by
  induction t generalizing lo u with
  | nil => cases u with
    | nil => rfl
    | cons q u => simp at hk
  | cons q t ih =>
    cases u with
    | nil => simp at hk
    | cons r u =>
      simp only [List.map_cons, List.cons.injEq] at hk
      simp only [tableWfFrom, Bool.and_eq_true, decide_eq_true_eq] at h ⊢
      rw [hk.1]
      exact ⟨h.1, ih h.2 hk.2⟩

/-- Tables under the same numbers share the form. -/
theorem tableWf_keys {β : Type} {t : Table α} {u : Table β} (h : tableWf t = true)
    (hk : u.map Prod.fst = t.map Prod.fst) : tableWf u = true := tableWfFrom_keys h hk

theorem tmap_keys (f : α → α) (t : Table α) : (tmap f t).map Prod.fst = t.map Prod.fst := by
  simp [tmap, Function.comp_def]

/-- Changing every record keeps the form. -/
theorem tableWf_tmap {f : α → α} {t : Table α} (h : tableWf t = true) : tableWf (tmap f t) = true :=
  tableWf_keys h (tmap_keys f t)

/-! ### Reading -/

/-- A read after a write of the same number gives what was written. -/
@[simp] theorem tget_tput_self (t : Table α) (n : Nat) (a : α) : tget (tput t n a) n = some a := by
  induction t with
  | nil => simp [tput, tget]
  | cons q t ih =>
    simp only [tput]
    split
    · simp [tget]
    · split
      · simp [tget]
      · rename_i h1 h2
        simp only [tget]
        rw [if_neg (by omega), ih]

/-- A write of one number leaves every other alone. -/
theorem tget_tput_ne {t : Table α} {n m : Nat} {a : α} (h : m ≠ n) : tget (tput t n a) m = tget t m := by
  induction t with
  | nil => simp [tput, tget, h.symm]
  | cons q t ih =>
    simp only [tput]
    split
    · simp [tget, h.symm]
    · split
      · subst n; simp [tget, h.symm]
      · simp only [tget, ih]

theorem tget_tput (t : Table α) (n m : Nat) (a : α) :
    tget (tput t n a) m = if m = n then some a else tget t m := by
  by_cases h : m = n
  · subst h; simp
  · rw [tget_tput_ne h, if_neg h]

@[simp] theorem tget_tdrop_self (t : Table α) (n : Nat) : tget (tdrop t n) n = none := by
  induction t with
  | nil => rfl
  | cons q t ih =>
    unfold tdrop at ih ⊢
    rw [List.filter_cons]
    split
    · rename_i h
      have h : q.1 ≠ n := by simpa using h
      simp only [tget]
      rw [if_neg h]; exact ih
    · exact ih

theorem tget_tdrop_ne {t : Table α} {n m : Nat} (h : m ≠ n) : tget (tdrop t n) m = tget t m := by
  induction t with
  | nil => rfl
  | cons q t ih =>
    unfold tdrop at ih ⊢
    rw [List.filter_cons]
    split
    · simp only [tget, ih]
    · rename_i hq
      have hq : q.1 = n := by simpa using hq
      simp only [tget]
      rw [if_neg (by omega)]; exact ih

theorem tget_mem {t : Table α} {n : Nat} {a : α} (h : tget t n = some a) : (n, a) ∈ t := by
  induction t with
  | nil => simp [tget] at h
  | cons q t ih =>
    obtain ⟨k, b⟩ := q
    simp only [tget] at h
    split at h
    · rename_i hk; cases h; subst hk; exact List.mem_cons_self
    · exact List.mem_cons_of_mem _ (ih h)

/-- In the canonical form a record is read under its number. -/
theorem tget_of_mem {t : Table α} {n : Nat} {a : α} (ht : tableWf t = true) (h : (n, a) ∈ t) : tget t n = some a := by
  suffices ∀ lo, tableWfFrom lo t = true → (n, a) ∈ t → tget t n = some a from this 0 ht h
  clear ht h
  induction t with
  | nil => intro _ _ h; cases h
  | cons q t ih =>
    obtain ⟨k, b⟩ := q
    intro lo hl h
    simp only [tableWfFrom, Bool.and_eq_true, decide_eq_true_eq] at hl
    rcases List.mem_cons.mp h with h | h
    · cases h; simp [tget]
    · have := tableWfFrom_mem hl.2 _ h
      simp only [tget]
      rw [if_neg (by simp only at this; omega)]
      exact ih _ hl.2 h

/-! ### What a write does to the records -/

/-- Writing over a number that is kept changes its record in its place. -/
theorem tput_split {t : Table α} {n : Nat} {a b : α} (ht : tableWf t = true) (h : tget t n = some b) :
    ∃ p q, t = p ++ (n, b) :: q ∧ tput t n a = p ++ (n, a) :: q := by
  suffices ∀ lo, tableWfFrom lo t = true → tget t n = some b →
      ∃ p q, t = p ++ (n, b) :: q ∧ tput t n a = p ++ (n, a) :: q from this 0 ht h
  clear ht h
  induction t with
  | nil => intro _ _ h; simp [tget] at h
  | cons r t ih =>
    obtain ⟨k, c⟩ := r
    intro lo hl h
    simp only [tableWfFrom, Bool.and_eq_true, decide_eq_true_eq] at hl
    simp only [tget] at h
    split at h
    · rename_i hk
      cases h; subst hk
      exact ⟨[], t, rfl, by simp [tput]⟩
    · rename_i hk
      obtain ⟨p, q, e1, e2⟩ := ih _ hl.2 h
      have := tableWfFrom_mem hl.2 _ (tget_mem h)
      simp only at this
      refine ⟨(k, c) :: p, q, by rw [e1]; rfl, ?_⟩
      simp only [tput]
      rw [if_neg (by omega), if_neg (by omega), e2]
      rfl

/-- Writing a new number puts its record among the others. -/
theorem tput_new {t : Table α} {n : Nat} {a : α} (h : tget t n = none) :
    ∃ p q, t = p ++ q ∧ tput t n a = p ++ (n, a) :: q := by
  induction t with
  | nil => exact ⟨[], [], rfl, rfl⟩
  | cons r t ih =>
    obtain ⟨k, c⟩ := r
    simp only [tget] at h
    split at h
    · cases h
    · rename_i hk
      simp only [tput]
      split
      · exact ⟨[], (k, c) :: t, rfl, rfl⟩
      · obtain ⟨p, q, e1, e2⟩ := ih h
        exact ⟨(k, c) :: p, q, by rw [e1]; rfl, by rw [if_neg (by omega), e2]; rfl⟩

theorem mem_tput {t : Table α} {n : Nat} {a : α} {p : Nat × α} (h : p ∈ tput t n a) : p = (n, a) ∨ p ∈ t := by
  induction t with
  | nil => simpa [tput] using h
  | cons r t ih =>
    obtain ⟨k, c⟩ := r
    simp only [tput] at h
    split at h
    · simpa using h
    · split at h
      · rcases List.mem_cons.mp h with h | h
        · exact .inl h
        · exact .inr (List.mem_cons_of_mem _ h)
      · rcases List.mem_cons.mp h with h | h
        · exact .inr (by rw [h]; exact List.mem_cons_self)
        · rcases ih h with h | h
          · exact .inl h
          · exact .inr (List.mem_cons_of_mem _ h)

theorem length_tput_le (t : Table α) (n : Nat) (a : α) : (tput t n a).length ≤ t.length + 1 := by
  induction t with
  | nil => simp [tput]
  | cons r t ih =>
    simp only [tput]
    repeat' split
    all_goals simp_all

theorem length_tput_kept {t : Table α} {n : Nat} {a b : α} (ht : tableWf t = true) (h : tget t n = some b) :
    (tput t n a).length = t.length := by
  obtain ⟨p, q, e1, e2⟩ := tput_split (a := a) ht h
  rw [e2, e1]; simp

theorem length_tdrop_le (t : Table α) (n : Nat) : (tdrop t n).length ≤ t.length := List.length_filter_le _ _

/-! ### Finding a lot by its id -/

theorem findLot_spec {t : Table Lot} {id n : Nat} {k : Lot} (h : findLot t id = some (n, k)) :
    (n, k) ∈ t ∧ k.id = id := by
  have h1 := List.mem_of_find?_eq_some h
  have h2 := List.find?_some h
  exact ⟨h1, by simpa using h2⟩

theorem findLot_none {t : Table Lot} {id : Nat} (h : findLot t id = none) : ∀ p ∈ t, p.2.id ≠ id := by
  intro p hp
  have := List.find?_eq_none.mp h p hp
  simpa using this

theorem firstGap_spec {t : Table α} {lo n : Nat} (ht : tableWfFrom lo t = true) (h : firstGap lo t = n) :
    lo ≤ n ∧ tget t n = none := by
  induction t generalizing lo with
  | nil => simp only [firstGap] at h; exact ⟨by omega, rfl⟩
  | cons q t ih =>
    obtain ⟨k, b⟩ := q
    simp only [tableWfFrom, Bool.and_eq_true, decide_eq_true_eq] at ht
    simp only [firstGap] at h
    split at h
    · rename_i hk
      subst hk
      obtain ⟨h1, h2⟩ := ih ht.2 h
      refine ⟨by omega, ?_⟩
      simp only [tget]
      rw [if_neg (by omega)]; exact h2
    · subst h
      refine ⟨Nat.le_refl _, ?_⟩
      simp only [tget]
      rw [if_neg (by omega)]
      cases hg : tget t lo with
      | none => rfl
      | some a => have := tableWfFrom_mem ht.2 _ (tget_mem hg); simp only at this; omega

/-- The lowest FREE slot is one of the 512 and holds no lot. -/
theorem freeSlot_spec {t : Table Lot} {n : Nat} (ht : tableWf t = true) (h : freeSlot t = some n) :
    n < Config.lotSlots ∧ tget t n = none := by
  unfold freeSlot at h
  dsimp only at h
  split at h
  · cases h
    exact ⟨‹_›, (firstGap_spec ht rfl).2⟩
  · cases h

end Sys2Proof.Machine
end

