-- ==== Sys2Proof/Laws/Gate.lean ====
section
/-! SUPPORT. What the lift gate's shared operations leave alone, said once for each: a decision round writes pending
reasons and demands and nothing else; the end of a lift, a withdrawal, an entry into suspension and the end of a
transfer each touch what their rules name. -/

namespace Sys2Proof.Machine

/-! ### Decision rounds -/

/-- What a decision round leaves of a state: it writes the pending reasons of lift records and of REQUESTED transfers,
and the prediction demands. -/
structure RoundLeaves (s t : State) : Prop where
  form : t = { s with
    gate := { s.gate with recs := t.gate.recs }
    eval := { s.eval with waiting := t.eval.waiting, unit := t.eval.unit }
    ballast := { s.ballast with transfers := t.ballast.transfers } }
  reasons : ∀ c, (t.liftRec c).silent = (s.liftRec c).silent

theorem RoundLeaves.refl (s : State) : RoundLeaves s s := ⟨rfl, fun _ => rfl⟩

theorem RoundLeaves.trans {a b c : State} (h : RoundLeaves a b) (g : RoundLeaves b c) : RoundLeaves a c := by
  refine ⟨?_, fun k => (g.reasons k).trans (h.reasons k)⟩
  rw [g.form, h.form]

theorem perCrane_get_set {α : Type} (p : PerCrane α) (c d : CraneId) (a : α) :
    (p.set c a).get d = if d = c then a else p.get d := by
  cases c <;> cases d <;> rfl

@[simp] theorem perCrane_get_set_self {α : Type} (p : PerCrane α) (c : CraneId) (a : α) : (p.set c a).get c = a := by
  cases c <;> rfl

theorem onRec_liftRec (c d : CraneId) (f : LiftRecord → LiftRecord) (s : State) :
    (s.onRec c f).liftRec d = if d = c then f (s.liftRec d) else s.liftRec d := by
  cases c <;> cases d <;> rfl

/-- A change that is the same when made twice reaches exactly the records of the cranes named. -/
theorem onRecs_liftRec {f : LiftRecord → LiftRecord} (hf : ∀ r, f (f r) = f r) (cs : List CraneId) (d : CraneId)
    (s : State) : (s.onRecs cs f).liftRec d = if d ∈ cs then f (s.liftRec d) else s.liftRec d := by
  induction cs generalizing s with
  | nil => simp [State.onRecs]
  | cons c cs ih =>
    change ((s.onRec c f).onRecs cs f).liftRec d = _
    rw [ih, onRec_liftRec]
    by_cases h1 : d = c <;> by_cases h2 : d ∈ cs <;> simp [h1, h2, hf]

theorem onRecs_silent {f : LiftRecord → LiftRecord} (hf : ∀ r, (f r).silent = r.silent) (cs : List CraneId)
    (d : CraneId) (s : State) : ((s.onRecs cs f).liftRec d).silent = (s.liftRec d).silent := by
  induction cs generalizing s with
  | nil => rfl
  | cons c cs ih =>
    change (((s.onRec c f).onRecs cs f).liftRec d).silent = _
    rw [ih, onRec_liftRec]
    split
    · exact hf _
    · rfl

theorem stopLift_leaves (r : LiftRef) (p : Pending) (s : State) : RoundLeaves s (stopLift r p s) := by
  refine ⟨?_, fun c => ?_⟩
  · unfold stopLift
    rw [onRecs_form]
    rfl
  · exact onRecs_silent (f := setReason p) (fun _ => rfl) r.cranes c s

theorem postDemand_leaves (k : DemandKey) (s : State) : RoundLeaves s (postDemand k s) := by
  refine ⟨?_, fun c => ?_⟩
  · rw [postDemand_form]
  · rw [postDemand_form]; rfl

theorem setTransferReason_leaves (id : Nat) (p : Pending) (s : State) :
    RoundLeaves s (withdrawDemand (.transfer id) (setTransferReason id p s)) := by
  refine ⟨?_, fun c => ?_⟩
  · rw [setTransferReason_form]; rfl
  · rw [setTransferReason_form]; rfl

theorem decideEntry_leaves (s : State) (e : GateEntry) : RoundLeaves s (decideEntry s e) := by
  unfold decideEntry
  split
  · split
    · exact stopLift_leaves _ _ _
    · exact postDemand_leaves _ _
  · split
    · exact setTransferReason_leaves _ _ _
    · exact postDemand_leaves _ _

/-- R139: all that a decision round can do. -/
theorem decisionRound_leaves (s : State) : RoundLeaves s (decisionRound s) := by
  unfold decisionRound
  generalize s.gate.queue = q
  induction q generalizing s with
  | nil => exact .refl s
  | cons e q ih => exact (decideEntry_leaves s e).trans (ih _)

theorem decisionRound_form (s : State) : decisionRound s =
    { s with
      gate := { s.gate with recs := (decisionRound s).gate.recs }
      eval := { s.eval with waiting := (decisionRound s).eval.waiting, unit := (decisionRound s).eval.unit }
      ballast := { s.ballast with transfers := (decisionRound s).ballast.transfers } } :=
  (decisionRound_leaves s).form

theorem decisionRound_silent (s : State) (c : CraneId) :
    ((decisionRound s).liftRec c).silent = (s.liftRec c).silent := (decisionRound_leaves s).reasons c

@[simp] theorem decisionRound_powered  (s : State) :
    (decisionRound s).powered = s.powered := by rw [decisionRound_form]
@[simp] theorem decisionRound_restartArmed  (s : State) :
    (decisionRound s).restartArmed = s.restartArmed := by rw [decisionRound_form]
@[simp] theorem decisionRound_mode  (s : State) : (decisionRound s).mode = s.mode := by rw [decisionRound_form]
@[simp] theorem decisionRound_time  (s : State) : (decisionRound s).time = s.time := by rw [decisionRound_form]
@[simp] theorem decisionRound_nvm  (s : State) : (decisionRound s).nvm = s.nvm := by rw [decisionRound_form]
@[simp] theorem decisionRound_ship  (s : State) : (decisionRound s).ship = s.ship := by rw [decisionRound_form]
@[simp] theorem decisionRound_settings  (s : State) :
    (decisionRound s).settings = s.settings := by rw [decisionRound_form]
@[simp] theorem decisionRound_origin  (s : State) : (decisionRound s).origin = s.origin := by rw [decisionRound_form]
@[simp] theorem decisionRound_committing  (s : State) :
    (decisionRound s).committing = s.committing := by rw [decisionRound_form]
@[simp] theorem decisionRound_storing  (s : State) :
    (decisionRound s).storing = s.storing := by rw [decisionRound_form]
@[simp] theorem decisionRound_links  (s : State) : (decisionRound s).links = s.links := by rw [decisionRound_form]
@[simp] theorem decisionRound_cond  (s : State) : (decisionRound s).cond = s.cond := by rw [decisionRound_form]
@[simp] theorem decisionRound_snapshot  (s : State) :
    (decisionRound s).snapshot = s.snapshot := by rw [decisionRound_form]
@[simp] theorem decisionRound_snapshotOp  (s : State) :
    (decisionRound s).snapshotOp = s.snapshotOp := by rw [decisionRound_form]
@[simp] theorem decisionRound_image  (s : State) : (decisionRound s).image = s.image := by rw [decisionRound_form]
@[simp] theorem decisionRound_frames  (s : State) : (decisionRound s).frames = s.frames := by rw [decisionRound_form]
@[simp] theorem decisionRound_monitor  (s : State) :
    (decisionRound s).monitor = s.monitor := by rw [decisionRound_form]
@[simp] theorem decisionRound_freeCount  (s : State) :
    (decisionRound s).freeCount = s.freeCount := by rw [decisionRound_form]
@[simp] theorem decisionRound_pending  (s : State) :
    (decisionRound s).pending = s.pending := by rw [decisionRound_form]

@[simp] theorem decisionRound_gate_stale  (s : State) :
    (decisionRound s).gate.stale = s.gate.stale := by rw [decisionRound_form]
@[simp] theorem decisionRound_gate_queue  (s : State) :
    (decisionRound s).gate.queue = s.gate.queue := by rw [decisionRound_form]
@[simp] theorem decisionRound_gate_slot  (s : State) :
    (decisionRound s).gate.slot = s.gate.slot := by rw [decisionRound_form]
@[simp] theorem decisionRound_gate_window  (s : State) :
    (decisionRound s).gate.window = s.gate.window := by rw [decisionRound_form]
@[simp] theorem decisionRound_gate_inhibit  (s : State) :
    (decisionRound s).gate.inhibit = s.gate.inhibit := by rw [decisionRound_form]

@[simp] theorem decisionRound_eval_actual  (s : State) :
    (decisionRound s).eval.actual = s.eval.actual := by rw [decisionRound_form]
@[simp] theorem decisionRound_eval_plan  (s : State) :
    (decisionRound s).eval.plan = s.eval.plan := by rw [decisionRound_form]
@[simp] theorem decisionRound_eval_trial  (s : State) :
    (decisionRound s).eval.trial = s.eval.trial := by rw [decisionRound_form]
@[simp] theorem decisionRound_eval_alt  (s : State) :
    (decisionRound s).eval.alt = s.eval.alt := by rw [decisionRound_form]

@[simp] theorem decisionRound_ballast_nextId  (s : State) :
    (decisionRound s).ballast.nextId = s.ballast.nextId := by rw [decisionRound_form]
@[simp] theorem decisionRound_ballast_log  (s : State) :
    (decisionRound s).ballast.log = s.ballast.log := by rw [decisionRound_form]

/-! ### The freeing of the slot -/

theorem freeSlotOf_silent (r : LiftRef) (s : State) (c : CraneId) :
    ((freeSlotOf r s).liftRec c).silent = (s.liftRec c).silent := by
  unfold freeSlotOf; split
  · exact decisionRound_silent _ c
  · rfl

theorem freeSlotOf_slot (r : LiftRef) (s : State) :
    (freeSlotOf r s).gate.slot = if s.gate.slot = some r then none else s.gate.slot := by
  unfold freeSlotOf; split
  · rw [decisionRound_gate_slot]; rfl
  · rfl

@[simp] theorem freeSlotOf_powered (r : LiftRef) (s : State) :
    (freeSlotOf r s).powered = s.powered := by unfold freeSlotOf; split <;> simp
@[simp] theorem freeSlotOf_restartArmed (r : LiftRef) (s : State) :
    (freeSlotOf r s).restartArmed = s.restartArmed := by unfold freeSlotOf; split <;> simp
@[simp] theorem freeSlotOf_mode (r : LiftRef) (s : State) :
    (freeSlotOf r s).mode = s.mode := by unfold freeSlotOf; split <;> simp
@[simp] theorem freeSlotOf_time (r : LiftRef) (s : State) :
    (freeSlotOf r s).time = s.time := by unfold freeSlotOf; split <;> simp
@[simp] theorem freeSlotOf_nvm (r : LiftRef) (s : State) :
    (freeSlotOf r s).nvm = s.nvm := by unfold freeSlotOf; split <;> simp
@[simp] theorem freeSlotOf_ship (r : LiftRef) (s : State) :
    (freeSlotOf r s).ship = s.ship := by unfold freeSlotOf; split <;> simp
@[simp] theorem freeSlotOf_settings (r : LiftRef) (s : State) :
    (freeSlotOf r s).settings = s.settings := by unfold freeSlotOf; split <;> simp
@[simp] theorem freeSlotOf_origin (r : LiftRef) (s : State) :
    (freeSlotOf r s).origin = s.origin := by unfold freeSlotOf; split <;> simp
@[simp] theorem freeSlotOf_committing (r : LiftRef) (s : State) :
    (freeSlotOf r s).committing = s.committing := by unfold freeSlotOf; split <;> simp
@[simp] theorem freeSlotOf_storing (r : LiftRef) (s : State) :
    (freeSlotOf r s).storing = s.storing := by unfold freeSlotOf; split <;> simp
@[simp] theorem freeSlotOf_links (r : LiftRef) (s : State) :
    (freeSlotOf r s).links = s.links := by unfold freeSlotOf; split <;> simp
@[simp] theorem freeSlotOf_cond (r : LiftRef) (s : State) :
    (freeSlotOf r s).cond = s.cond := by unfold freeSlotOf; split <;> simp
@[simp] theorem freeSlotOf_snapshot (r : LiftRef) (s : State) :
    (freeSlotOf r s).snapshot = s.snapshot := by unfold freeSlotOf; split <;> simp
@[simp] theorem freeSlotOf_snapshotOp (r : LiftRef) (s : State) :
    (freeSlotOf r s).snapshotOp = s.snapshotOp := by unfold freeSlotOf; split <;> simp
@[simp] theorem freeSlotOf_image (r : LiftRef) (s : State) :
    (freeSlotOf r s).image = s.image := by unfold freeSlotOf; split <;> simp
@[simp] theorem freeSlotOf_frames (r : LiftRef) (s : State) :
    (freeSlotOf r s).frames = s.frames := by unfold freeSlotOf; split <;> simp
@[simp] theorem freeSlotOf_monitor (r : LiftRef) (s : State) :
    (freeSlotOf r s).monitor = s.monitor := by unfold freeSlotOf; split <;> simp
@[simp] theorem freeSlotOf_freeCount (r : LiftRef) (s : State) :
    (freeSlotOf r s).freeCount = s.freeCount := by unfold freeSlotOf; split <;> simp
@[simp] theorem freeSlotOf_pending (r : LiftRef) (s : State) :
    (freeSlotOf r s).pending = s.pending := by unfold freeSlotOf; split <;> simp

@[simp] theorem freeSlotOf_gate_stale (r : LiftRef) (s : State) :
    (freeSlotOf r s).gate.stale = s.gate.stale := by unfold freeSlotOf; split <;> simp
@[simp] theorem freeSlotOf_gate_queue (r : LiftRef) (s : State) :
    (freeSlotOf r s).gate.queue = s.gate.queue := by unfold freeSlotOf; split <;> simp
@[simp] theorem freeSlotOf_gate_window (r : LiftRef) (s : State) :
    (freeSlotOf r s).gate.window = s.gate.window := by unfold freeSlotOf; split <;> simp
@[simp] theorem freeSlotOf_gate_inhibit (r : LiftRef) (s : State) :
    (freeSlotOf r s).gate.inhibit = s.gate.inhibit := by unfold freeSlotOf; split <;> simp

@[simp] theorem freeSlotOf_eval_actual (r : LiftRef) (s : State) :
    (freeSlotOf r s).eval.actual = s.eval.actual := by unfold freeSlotOf; split <;> simp
@[simp] theorem freeSlotOf_eval_plan (r : LiftRef) (s : State) :
    (freeSlotOf r s).eval.plan = s.eval.plan := by unfold freeSlotOf; split <;> simp
@[simp] theorem freeSlotOf_eval_trial (r : LiftRef) (s : State) :
    (freeSlotOf r s).eval.trial = s.eval.trial := by unfold freeSlotOf; split <;> simp
@[simp] theorem freeSlotOf_eval_alt (r : LiftRef) (s : State) :
    (freeSlotOf r s).eval.alt = s.eval.alt := by unfold freeSlotOf; split <;> simp

@[simp] theorem freeSlotOf_ballast_nextId (r : LiftRef) (s : State) :
    (freeSlotOf r s).ballast.nextId = s.ballast.nextId := by unfold freeSlotOf; split <;> simp
@[simp] theorem freeSlotOf_ballast_log (r : LiftRef) (s : State) :
    (freeSlotOf r s).ballast.log = s.ballast.log := by unfold freeSlotOf; split <;> simp

/-! ### The end of a lift -/

@[simp] theorem releaseLift_powered (r : LiftRef) (k : EndKind) (s : State) :
    (releaseLift r k s).powered = s.powered := by
  unfold releaseLift; dsimp only; split <;> simp
@[simp] theorem releaseLift_restartArmed (r : LiftRef) (k : EndKind) (s : State) :
    (releaseLift r k s).restartArmed = s.restartArmed := by
  unfold releaseLift; dsimp only; split <;> simp
@[simp] theorem releaseLift_mode (r : LiftRef) (k : EndKind) (s : State) :
    (releaseLift r k s).mode = s.mode := by
  unfold releaseLift; dsimp only; split <;> simp
@[simp] theorem releaseLift_time (r : LiftRef) (k : EndKind) (s : State) :
    (releaseLift r k s).time = s.time := by
  unfold releaseLift; dsimp only; split <;> simp
@[simp] theorem releaseLift_nvm (r : LiftRef) (k : EndKind) (s : State) :
    (releaseLift r k s).nvm = s.nvm := by
  unfold releaseLift; dsimp only; split <;> simp
@[simp] theorem releaseLift_ship (r : LiftRef) (k : EndKind) (s : State) :
    (releaseLift r k s).ship = s.ship := by
  unfold releaseLift; dsimp only; split <;> simp
@[simp] theorem releaseLift_settings (r : LiftRef) (k : EndKind) (s : State) :
    (releaseLift r k s).settings = s.settings := by
  unfold releaseLift; dsimp only; split <;> simp
@[simp] theorem releaseLift_origin (r : LiftRef) (k : EndKind) (s : State) :
    (releaseLift r k s).origin = s.origin := by
  unfold releaseLift; dsimp only; split <;> simp
@[simp] theorem releaseLift_committing (r : LiftRef) (k : EndKind) (s : State) :
    (releaseLift r k s).committing = s.committing := by
  unfold releaseLift; dsimp only; split <;> simp
@[simp] theorem releaseLift_storing (r : LiftRef) (k : EndKind) (s : State) :
    (releaseLift r k s).storing = s.storing := by
  unfold releaseLift; dsimp only; split <;> simp
@[simp] theorem releaseLift_snapshot (r : LiftRef) (k : EndKind) (s : State) :
    (releaseLift r k s).snapshot = s.snapshot := by
  unfold releaseLift; dsimp only; split <;> simp
@[simp] theorem releaseLift_snapshotOp (r : LiftRef) (k : EndKind) (s : State) :
    (releaseLift r k s).snapshotOp = s.snapshotOp := by
  unfold releaseLift; dsimp only; split <;> simp
@[simp] theorem releaseLift_image (r : LiftRef) (k : EndKind) (s : State) :
    (releaseLift r k s).image = s.image := by
  unfold releaseLift; dsimp only; split <;> simp
@[simp] theorem releaseLift_frames (r : LiftRef) (k : EndKind) (s : State) :
    (releaseLift r k s).frames = s.frames := by
  unfold releaseLift; dsimp only; split <;> simp
@[simp] theorem releaseLift_monitor (r : LiftRef) (k : EndKind) (s : State) :
    (releaseLift r k s).monitor = s.monitor := by
  unfold releaseLift; dsimp only; split <;> simp
@[simp] theorem releaseLift_freeCount (r : LiftRef) (k : EndKind) (s : State) :
    (releaseLift r k s).freeCount = s.freeCount := by
  unfold releaseLift; dsimp only; split <;> simp
@[simp] theorem releaseLift_pending (r : LiftRef) (k : EndKind) (s : State) :
    (releaseLift r k s).pending = s.pending := by
  unfold releaseLift; dsimp only; split <;> simp

@[simp] theorem releaseLift_cond_seq (r : LiftRef) (k : EndKind) (s : State) :
    (releaseLift r k s).cond.seq = s.cond.seq := by
  unfold releaseLift; dsimp only; split <;> simp
@[simp] theorem releaseLift_cond_tanks (r : LiftRef) (k : EndKind) (s : State) :
    (releaseLift r k s).cond.tanks = s.cond.tanks := by
  unfold releaseLift; dsimp only; split <;> simp
@[simp] theorem releaseLift_cond_hooks (r : LiftRef) (k : EndKind) (s : State) :
    (releaseLift r k s).cond.hooks = s.cond.hooks := by
  unfold releaseLift; dsimp only; split <;> simp

@[simp] theorem releaseLift_eval_actual (r : LiftRef) (k : EndKind) (s : State) :
    (releaseLift r k s).eval.actual = s.eval.actual := by
  unfold releaseLift; dsimp only; split <;> simp
@[simp] theorem releaseLift_eval_plan (r : LiftRef) (k : EndKind) (s : State) :
    (releaseLift r k s).eval.plan = s.eval.plan := by
  unfold releaseLift; dsimp only; split <;> simp
@[simp] theorem releaseLift_eval_trial (r : LiftRef) (k : EndKind) (s : State) :
    (releaseLift r k s).eval.trial = s.eval.trial := by
  unfold releaseLift; dsimp only; split <;> simp
@[simp] theorem releaseLift_eval_alt (r : LiftRef) (k : EndKind) (s : State) :
    (releaseLift r k s).eval.alt = s.eval.alt := by
  unfold releaseLift; dsimp only; split <;> simp

@[simp] theorem releaseLift_gate_window (r : LiftRef) (k : EndKind) (s : State) :
    (releaseLift r k s).gate.window = s.gate.window := by
  unfold releaseLift; dsimp only; split <;> simp
@[simp] theorem releaseLift_gate_inhibit (r : LiftRef) (k : EndKind) (s : State) :
    (releaseLift r k s).gate.inhibit = s.gate.inhibit := by
  unfold releaseLift; dsimp only; split <;> simp

@[simp] theorem releaseLift_ballast_nextId (r : LiftRef) (k : EndKind) (s : State) :
    (releaseLift r k s).ballast.nextId = s.ballast.nextId := by
  unfold releaseLift; dsimp only; split <;> simp
@[simp] theorem releaseLift_ballast_log (r : LiftRef) (k : EndKind) (s : State) :
    (releaseLift r k s).ballast.log = s.ballast.log := by
  unfold releaseLift; dsimp only; split <;> simp

theorem landLot_form (d : Direction) (w : Landing) (l : LotRef) (s : State) :
    landLot d w l s = { s with cond := (landLot d w l s).cond } := by
  unfold landLot
  split
  · rw [onLot_form]; rfl
  · rfl
  · rw [onLot_form]

@[simp] theorem landLot_powered (d : Direction) (w : Landing) (l : LotRef) (s : State) :
    (landLot d w l s).powered = s.powered := by rw [landLot_form]
@[simp] theorem landLot_restartArmed (d : Direction) (w : Landing) (l : LotRef) (s : State) :
    (landLot d w l s).restartArmed = s.restartArmed := by rw [landLot_form]
@[simp] theorem landLot_mode (d : Direction) (w : Landing) (l : LotRef) (s : State) :
    (landLot d w l s).mode = s.mode := by rw [landLot_form]
@[simp] theorem landLot_time (d : Direction) (w : Landing) (l : LotRef) (s : State) :
    (landLot d w l s).time = s.time := by rw [landLot_form]
@[simp] theorem landLot_nvm (d : Direction) (w : Landing) (l : LotRef) (s : State) :
    (landLot d w l s).nvm = s.nvm := by rw [landLot_form]
@[simp] theorem landLot_ship (d : Direction) (w : Landing) (l : LotRef) (s : State) :
    (landLot d w l s).ship = s.ship := by rw [landLot_form]
@[simp] theorem landLot_settings (d : Direction) (w : Landing) (l : LotRef) (s : State) :
    (landLot d w l s).settings = s.settings := by rw [landLot_form]
@[simp] theorem landLot_origin (d : Direction) (w : Landing) (l : LotRef) (s : State) :
    (landLot d w l s).origin = s.origin := by rw [landLot_form]
@[simp] theorem landLot_committing (d : Direction) (w : Landing) (l : LotRef) (s : State) :
    (landLot d w l s).committing = s.committing := by rw [landLot_form]
@[simp] theorem landLot_storing (d : Direction) (w : Landing) (l : LotRef) (s : State) :
    (landLot d w l s).storing = s.storing := by rw [landLot_form]
@[simp] theorem landLot_links (d : Direction) (w : Landing) (l : LotRef) (s : State) :
    (landLot d w l s).links = s.links := by rw [landLot_form]
@[simp] theorem landLot_snapshot (d : Direction) (w : Landing) (l : LotRef) (s : State) :
    (landLot d w l s).snapshot = s.snapshot := by rw [landLot_form]
@[simp] theorem landLot_snapshotOp (d : Direction) (w : Landing) (l : LotRef) (s : State) :
    (landLot d w l s).snapshotOp = s.snapshotOp := by rw [landLot_form]
@[simp] theorem landLot_image (d : Direction) (w : Landing) (l : LotRef) (s : State) :
    (landLot d w l s).image = s.image := by rw [landLot_form]
@[simp] theorem landLot_eval (d : Direction) (w : Landing) (l : LotRef) (s : State) :
    (landLot d w l s).eval = s.eval := by rw [landLot_form]
@[simp] theorem landLot_frames (d : Direction) (w : Landing) (l : LotRef) (s : State) :
    (landLot d w l s).frames = s.frames := by rw [landLot_form]
@[simp] theorem landLot_monitor (d : Direction) (w : Landing) (l : LotRef) (s : State) :
    (landLot d w l s).monitor = s.monitor := by rw [landLot_form]
@[simp] theorem landLot_gate (d : Direction) (w : Landing) (l : LotRef) (s : State) :
    (landLot d w l s).gate = s.gate := by rw [landLot_form]
@[simp] theorem landLot_ballast (d : Direction) (w : Landing) (l : LotRef) (s : State) :
    (landLot d w l s).ballast = s.ballast := by rw [landLot_form]
@[simp] theorem landLot_freeCount (d : Direction) (w : Landing) (l : LotRef) (s : State) :
    (landLot d w l s).freeCount = s.freeCount := by rw [landLot_form]
@[simp] theorem landLot_pending (d : Direction) (w : Landing) (l : LotRef) (s : State) :
    (landLot d w l s).pending = s.pending := by rw [landLot_form]

theorem completeLift_form (r : LiftRef) (s : State) : ∃ s1 : State, completeLift r s =
    freeSlotOf r (latchLift r.cranes (clearStale r.cranes (s1.onRecs r.cranes (LiftRecord.ended .completed))))
      ∧ s1 = { s with cond := s1.cond } := by
  unfold completeLift
  dsimp only
  split
  · exact ⟨_, rfl, landLot_form _ _ _ _⟩
  · exact ⟨_, rfl, rfl⟩

@[simp] theorem completeLift_powered (r : LiftRef) (s : State) :
    (completeLift r s).powered = s.powered := by
  obtain ⟨s1, e, h⟩ := completeLift_form r s; rw [e, h]; simp
@[simp] theorem completeLift_restartArmed (r : LiftRef) (s : State) :
    (completeLift r s).restartArmed = s.restartArmed := by
  obtain ⟨s1, e, h⟩ := completeLift_form r s; rw [e, h]; simp
@[simp] theorem completeLift_mode (r : LiftRef) (s : State) :
    (completeLift r s).mode = s.mode := by
  obtain ⟨s1, e, h⟩ := completeLift_form r s; rw [e, h]; simp
@[simp] theorem completeLift_time (r : LiftRef) (s : State) :
    (completeLift r s).time = s.time := by
  obtain ⟨s1, e, h⟩ := completeLift_form r s; rw [e, h]; simp
@[simp] theorem completeLift_nvm (r : LiftRef) (s : State) :
    (completeLift r s).nvm = s.nvm := by
  obtain ⟨s1, e, h⟩ := completeLift_form r s; rw [e, h]; simp
@[simp] theorem completeLift_ship (r : LiftRef) (s : State) :
    (completeLift r s).ship = s.ship := by
  obtain ⟨s1, e, h⟩ := completeLift_form r s; rw [e, h]; simp
@[simp] theorem completeLift_settings (r : LiftRef) (s : State) :
    (completeLift r s).settings = s.settings := by
  obtain ⟨s1, e, h⟩ := completeLift_form r s; rw [e, h]; simp
@[simp] theorem completeLift_origin (r : LiftRef) (s : State) :
    (completeLift r s).origin = s.origin := by
  obtain ⟨s1, e, h⟩ := completeLift_form r s; rw [e, h]; simp
@[simp] theorem completeLift_committing (r : LiftRef) (s : State) :
    (completeLift r s).committing = s.committing := by
  obtain ⟨s1, e, h⟩ := completeLift_form r s; rw [e, h]; simp
@[simp] theorem completeLift_storing (r : LiftRef) (s : State) :
    (completeLift r s).storing = s.storing := by
  obtain ⟨s1, e, h⟩ := completeLift_form r s; rw [e, h]; simp
@[simp] theorem completeLift_snapshot (r : LiftRef) (s : State) :
    (completeLift r s).snapshot = s.snapshot := by
  obtain ⟨s1, e, h⟩ := completeLift_form r s; rw [e, h]; simp
@[simp] theorem completeLift_snapshotOp (r : LiftRef) (s : State) :
    (completeLift r s).snapshotOp = s.snapshotOp := by
  obtain ⟨s1, e, h⟩ := completeLift_form r s; rw [e, h]; simp
@[simp] theorem completeLift_image (r : LiftRef) (s : State) :
    (completeLift r s).image = s.image := by
  obtain ⟨s1, e, h⟩ := completeLift_form r s; rw [e, h]; simp
@[simp] theorem completeLift_frames (r : LiftRef) (s : State) :
    (completeLift r s).frames = s.frames := by
  obtain ⟨s1, e, h⟩ := completeLift_form r s; rw [e, h]; simp
@[simp] theorem completeLift_monitor (r : LiftRef) (s : State) :
    (completeLift r s).monitor = s.monitor := by
  obtain ⟨s1, e, h⟩ := completeLift_form r s; rw [e, h]; simp
@[simp] theorem completeLift_freeCount (r : LiftRef) (s : State) :
    (completeLift r s).freeCount = s.freeCount := by
  obtain ⟨s1, e, h⟩ := completeLift_form r s; rw [e, h]; simp
@[simp] theorem completeLift_pending (r : LiftRef) (s : State) :
    (completeLift r s).pending = s.pending := by
  obtain ⟨s1, e, h⟩ := completeLift_form r s; rw [e, h]; simp

@[simp] theorem completeLift_eval_actual (r : LiftRef) (s : State) :
    (completeLift r s).eval.actual = s.eval.actual := by
  obtain ⟨s1, e, h⟩ := completeLift_form r s; rw [e, h]; simp
@[simp] theorem completeLift_eval_plan (r : LiftRef) (s : State) :
    (completeLift r s).eval.plan = s.eval.plan := by
  obtain ⟨s1, e, h⟩ := completeLift_form r s; rw [e, h]; simp
@[simp] theorem completeLift_eval_trial (r : LiftRef) (s : State) :
    (completeLift r s).eval.trial = s.eval.trial := by
  obtain ⟨s1, e, h⟩ := completeLift_form r s; rw [e, h]; simp
@[simp] theorem completeLift_eval_alt (r : LiftRef) (s : State) :
    (completeLift r s).eval.alt = s.eval.alt := by
  obtain ⟨s1, e, h⟩ := completeLift_form r s; rw [e, h]; simp

@[simp] theorem completeLift_gate_queue (r : LiftRef) (s : State) :
    (completeLift r s).gate.queue = s.gate.queue := by
  obtain ⟨s1, e, h⟩ := completeLift_form r s; rw [e, h]; simp
@[simp] theorem completeLift_gate_window (r : LiftRef) (s : State) :
    (completeLift r s).gate.window = s.gate.window := by
  obtain ⟨s1, e, h⟩ := completeLift_form r s; rw [e, h]; simp
@[simp] theorem completeLift_gate_inhibit (r : LiftRef) (s : State) :
    (completeLift r s).gate.inhibit = s.gate.inhibit := by
  obtain ⟨s1, e, h⟩ := completeLift_form r s; rw [e, h]; simp

@[simp] theorem completeLift_ballast_nextId (r : LiftRef) (s : State) :
    (completeLift r s).ballast.nextId = s.ballast.nextId := by
  obtain ⟨s1, e, h⟩ := completeLift_form r s; rw [e, h]; simp
@[simp] theorem completeLift_ballast_log (r : LiftRef) (s : State) :
    (completeLift r s).ballast.log = s.ballast.log := by
  obtain ⟨s1, e, h⟩ := completeLift_form r s; rw [e, h]; simp

/-! ### Clearances and suspension -/

@[simp] theorem withdrawClearance_powered (r : LiftRef) (p : Pending) (s : State) :
    (withdrawClearance r p s).powered = s.powered := by
  simp [withdrawClearance]
@[simp] theorem withdrawClearance_restartArmed (r : LiftRef) (p : Pending) (s : State) :
    (withdrawClearance r p s).restartArmed = s.restartArmed := by
  simp [withdrawClearance]
@[simp] theorem withdrawClearance_mode (r : LiftRef) (p : Pending) (s : State) :
    (withdrawClearance r p s).mode = s.mode := by
  simp [withdrawClearance]
@[simp] theorem withdrawClearance_time (r : LiftRef) (p : Pending) (s : State) :
    (withdrawClearance r p s).time = s.time := by
  simp [withdrawClearance]
@[simp] theorem withdrawClearance_nvm (r : LiftRef) (p : Pending) (s : State) :
    (withdrawClearance r p s).nvm = s.nvm := by
  simp [withdrawClearance]
@[simp] theorem withdrawClearance_ship (r : LiftRef) (p : Pending) (s : State) :
    (withdrawClearance r p s).ship = s.ship := by
  simp [withdrawClearance]
@[simp] theorem withdrawClearance_settings (r : LiftRef) (p : Pending) (s : State) :
    (withdrawClearance r p s).settings = s.settings := by
  simp [withdrawClearance]
@[simp] theorem withdrawClearance_origin (r : LiftRef) (p : Pending) (s : State) :
    (withdrawClearance r p s).origin = s.origin := by
  simp [withdrawClearance]
@[simp] theorem withdrawClearance_committing (r : LiftRef) (p : Pending) (s : State) :
    (withdrawClearance r p s).committing = s.committing := by
  simp [withdrawClearance]
@[simp] theorem withdrawClearance_storing (r : LiftRef) (p : Pending) (s : State) :
    (withdrawClearance r p s).storing = s.storing := by
  simp [withdrawClearance]
@[simp] theorem withdrawClearance_cond (r : LiftRef) (p : Pending) (s : State) :
    (withdrawClearance r p s).cond = s.cond := by
  simp [withdrawClearance]
@[simp] theorem withdrawClearance_snapshot (r : LiftRef) (p : Pending) (s : State) :
    (withdrawClearance r p s).snapshot = s.snapshot := by
  simp [withdrawClearance]
@[simp] theorem withdrawClearance_snapshotOp (r : LiftRef) (p : Pending) (s : State) :
    (withdrawClearance r p s).snapshotOp = s.snapshotOp := by
  simp [withdrawClearance]
@[simp] theorem withdrawClearance_image (r : LiftRef) (p : Pending) (s : State) :
    (withdrawClearance r p s).image = s.image := by
  simp [withdrawClearance]
@[simp] theorem withdrawClearance_frames (r : LiftRef) (p : Pending) (s : State) :
    (withdrawClearance r p s).frames = s.frames := by
  simp [withdrawClearance]
@[simp] theorem withdrawClearance_monitor (r : LiftRef) (p : Pending) (s : State) :
    (withdrawClearance r p s).monitor = s.monitor := by
  simp [withdrawClearance]
@[simp] theorem withdrawClearance_freeCount (r : LiftRef) (p : Pending) (s : State) :
    (withdrawClearance r p s).freeCount = s.freeCount := by
  simp [withdrawClearance]
@[simp] theorem withdrawClearance_pending (r : LiftRef) (p : Pending) (s : State) :
    (withdrawClearance r p s).pending = s.pending := by
  simp [withdrawClearance]

@[simp] theorem withdrawClearance_gate_window (r : LiftRef) (p : Pending) (s : State) :
    (withdrawClearance r p s).gate.window = s.gate.window := by
  simp [withdrawClearance]
@[simp] theorem withdrawClearance_gate_inhibit (r : LiftRef) (p : Pending) (s : State) :
    (withdrawClearance r p s).gate.inhibit = s.gate.inhibit := by
  simp [withdrawClearance]

@[simp] theorem withdrawClearance_ballast_nextId (r : LiftRef) (p : Pending) (s : State) :
    (withdrawClearance r p s).ballast.nextId = s.ballast.nextId := by
  simp [withdrawClearance]
@[simp] theorem withdrawClearance_ballast_log (r : LiftRef) (p : Pending) (s : State) :
    (withdrawClearance r p s).ballast.log = s.ballast.log := by
  simp [withdrawClearance]

@[simp] theorem enterSuspension_powered (c : SuspendCause) (s : State) :
    (enterSuspension c s).powered = s.powered := by
  unfold enterSuspension; dsimp only; split <;> simp
@[simp] theorem enterSuspension_restartArmed (c : SuspendCause) (s : State) :
    (enterSuspension c s).restartArmed = s.restartArmed := by
  unfold enterSuspension; dsimp only; split <;> simp
@[simp] theorem enterSuspension_mode (c : SuspendCause) (s : State) :
    (enterSuspension c s).mode = s.mode := by
  unfold enterSuspension; dsimp only; split <;> simp
@[simp] theorem enterSuspension_time (c : SuspendCause) (s : State) :
    (enterSuspension c s).time = s.time := by
  unfold enterSuspension; dsimp only; split <;> simp
@[simp] theorem enterSuspension_nvm (c : SuspendCause) (s : State) :
    (enterSuspension c s).nvm = s.nvm := by
  unfold enterSuspension; dsimp only; split <;> simp
@[simp] theorem enterSuspension_ship (c : SuspendCause) (s : State) :
    (enterSuspension c s).ship = s.ship := by
  unfold enterSuspension; dsimp only; split <;> simp
@[simp] theorem enterSuspension_settings (c : SuspendCause) (s : State) :
    (enterSuspension c s).settings = s.settings := by
  unfold enterSuspension; dsimp only; split <;> simp
@[simp] theorem enterSuspension_origin (c : SuspendCause) (s : State) :
    (enterSuspension c s).origin = s.origin := by
  unfold enterSuspension; dsimp only; split <;> simp
@[simp] theorem enterSuspension_committing (c : SuspendCause) (s : State) :
    (enterSuspension c s).committing = s.committing := by
  unfold enterSuspension; dsimp only; split <;> simp
@[simp] theorem enterSuspension_storing (c : SuspendCause) (s : State) :
    (enterSuspension c s).storing = s.storing := by
  unfold enterSuspension; dsimp only; split <;> simp
@[simp] theorem enterSuspension_cond (c : SuspendCause) (s : State) :
    (enterSuspension c s).cond = s.cond := by
  unfold enterSuspension; dsimp only; split <;> simp
@[simp] theorem enterSuspension_snapshot (c : SuspendCause) (s : State) :
    (enterSuspension c s).snapshot = s.snapshot := by
  unfold enterSuspension; dsimp only; split <;> simp
@[simp] theorem enterSuspension_snapshotOp (c : SuspendCause) (s : State) :
    (enterSuspension c s).snapshotOp = s.snapshotOp := by
  unfold enterSuspension; dsimp only; split <;> simp
@[simp] theorem enterSuspension_image (c : SuspendCause) (s : State) :
    (enterSuspension c s).image = s.image := by
  unfold enterSuspension; dsimp only; split <;> simp
@[simp] theorem enterSuspension_frames (c : SuspendCause) (s : State) :
    (enterSuspension c s).frames = s.frames := by
  unfold enterSuspension; dsimp only; split <;> simp
@[simp] theorem enterSuspension_freeCount (c : SuspendCause) (s : State) :
    (enterSuspension c s).freeCount = s.freeCount := by
  unfold enterSuspension; dsimp only; split <;> simp
@[simp] theorem enterSuspension_pending (c : SuspendCause) (s : State) :
    (enterSuspension c s).pending = s.pending := by
  unfold enterSuspension; dsimp only; split <;> simp

@[simp] theorem enterSuspension_monitor_actual (c : SuspendCause) (s : State) :
    (enterSuspension c s).monitor.actual = s.monitor.actual := by
  unfold enterSuspension; dsimp only; split <;> simp
@[simp] theorem enterSuspension_monitor_plan (c : SuspendCause) (s : State) :
    (enterSuspension c s).monitor.plan = s.monitor.plan := by
  unfold enterSuspension; dsimp only; split <;> simp
@[simp] theorem enterSuspension_monitor_trial (c : SuspendCause) (s : State) :
    (enterSuspension c s).monitor.trial = s.monitor.trial := by
  unfold enterSuspension; dsimp only; split <;> simp
@[simp] theorem enterSuspension_monitor_first (c : SuspendCause) (s : State) :
    (enterSuspension c s).monitor.first = s.monitor.first := by
  unfold enterSuspension; dsimp only; split <;> simp
@[simp] theorem enterSuspension_monitor_next (c : SuspendCause) (s : State) :
    (enterSuspension c s).monitor.next = s.monitor.next := by
  unfold enterSuspension; dsimp only; split <;> simp
@[simp] theorem enterSuspension_monitor_stopCount (c : SuspendCause) (s : State) :
    (enterSuspension c s).monitor.stopCount = s.monitor.stopCount := by
  unfold enterSuspension; dsimp only; split <;> simp
@[simp] theorem enterSuspension_monitor_caution (c : SuspendCause) (s : State) :
    (enterSuspension c s).monitor.caution = s.monitor.caution := by
  unfold enterSuspension; dsimp only; split <;> simp
@[simp] theorem enterSuspension_monitor_stop (c : SuspendCause) (s : State) :
    (enterSuspension c s).monitor.stop = s.monitor.stop := by
  unfold enterSuspension; dsimp only; split <;> simp

@[simp] theorem enterSuspension_gate_window (c : SuspendCause) (s : State) :
    (enterSuspension c s).gate.window = s.gate.window := by
  unfold enterSuspension; dsimp only; split <;> simp
@[simp] theorem enterSuspension_gate_inhibit (c : SuspendCause) (s : State) :
    (enterSuspension c s).gate.inhibit = s.gate.inhibit := by
  unfold enterSuspension; dsimp only; split <;> simp

@[simp] theorem endSuspension_powered  (s : State) : (endSuspension s).powered = s.powered := by simp [endSuspension]
@[simp] theorem endSuspension_restartArmed  (s : State) :
    (endSuspension s).restartArmed = s.restartArmed := by simp [endSuspension]
@[simp] theorem endSuspension_mode  (s : State) : (endSuspension s).mode = s.mode := by simp [endSuspension]
@[simp] theorem endSuspension_time  (s : State) : (endSuspension s).time = s.time := by simp [endSuspension]
@[simp] theorem endSuspension_nvm  (s : State) : (endSuspension s).nvm = s.nvm := by simp [endSuspension]
@[simp] theorem endSuspension_ship  (s : State) : (endSuspension s).ship = s.ship := by simp [endSuspension]
@[simp] theorem endSuspension_settings  (s : State) :
    (endSuspension s).settings = s.settings := by simp [endSuspension]
@[simp] theorem endSuspension_origin  (s : State) : (endSuspension s).origin = s.origin := by simp [endSuspension]
@[simp] theorem endSuspension_committing  (s : State) :
    (endSuspension s).committing = s.committing := by simp [endSuspension]
@[simp] theorem endSuspension_storing  (s : State) : (endSuspension s).storing = s.storing := by simp [endSuspension]
@[simp] theorem endSuspension_cond  (s : State) : (endSuspension s).cond = s.cond := by simp [endSuspension]
@[simp] theorem endSuspension_snapshot  (s : State) :
    (endSuspension s).snapshot = s.snapshot := by simp [endSuspension]
@[simp] theorem endSuspension_snapshotOp  (s : State) :
    (endSuspension s).snapshotOp = s.snapshotOp := by simp [endSuspension]
@[simp] theorem endSuspension_image  (s : State) : (endSuspension s).image = s.image := by simp [endSuspension]
@[simp] theorem endSuspension_eval  (s : State) : (endSuspension s).eval = s.eval := by simp [endSuspension]
@[simp] theorem endSuspension_frames  (s : State) : (endSuspension s).frames = s.frames := by simp [endSuspension]
@[simp] theorem endSuspension_gate  (s : State) : (endSuspension s).gate = s.gate := by simp [endSuspension]
@[simp] theorem endSuspension_ballast  (s : State) : (endSuspension s).ballast = s.ballast := by simp [endSuspension]
@[simp] theorem endSuspension_freeCount  (s : State) :
    (endSuspension s).freeCount = s.freeCount := by simp [endSuspension]
@[simp] theorem endSuspension_pending  (s : State) : (endSuspension s).pending = s.pending := by simp [endSuspension]

@[simp] theorem grantLift_powered (r : LiftRef) (s : State) :
    (grantLift r s).powered = s.powered := by simp [grantLift]
@[simp] theorem grantLift_restartArmed (r : LiftRef) (s : State) :
    (grantLift r s).restartArmed = s.restartArmed := by simp [grantLift]
@[simp] theorem grantLift_mode (r : LiftRef) (s : State) : (grantLift r s).mode = s.mode := by simp [grantLift]
@[simp] theorem grantLift_time (r : LiftRef) (s : State) : (grantLift r s).time = s.time := by simp [grantLift]
@[simp] theorem grantLift_nvm (r : LiftRef) (s : State) : (grantLift r s).nvm = s.nvm := by simp [grantLift]
@[simp] theorem grantLift_ship (r : LiftRef) (s : State) : (grantLift r s).ship = s.ship := by simp [grantLift]
@[simp] theorem grantLift_settings (r : LiftRef) (s : State) :
    (grantLift r s).settings = s.settings := by simp [grantLift]
@[simp] theorem grantLift_origin (r : LiftRef) (s : State) : (grantLift r s).origin = s.origin := by simp [grantLift]
@[simp] theorem grantLift_committing (r : LiftRef) (s : State) :
    (grantLift r s).committing = s.committing := by simp [grantLift]
@[simp] theorem grantLift_storing (r : LiftRef) (s : State) :
    (grantLift r s).storing = s.storing := by simp [grantLift]
@[simp] theorem grantLift_cond (r : LiftRef) (s : State) : (grantLift r s).cond = s.cond := by simp [grantLift]
@[simp] theorem grantLift_snapshot (r : LiftRef) (s : State) :
    (grantLift r s).snapshot = s.snapshot := by simp [grantLift]
@[simp] theorem grantLift_snapshotOp (r : LiftRef) (s : State) :
    (grantLift r s).snapshotOp = s.snapshotOp := by simp [grantLift]
@[simp] theorem grantLift_image (r : LiftRef) (s : State) : (grantLift r s).image = s.image := by simp [grantLift]
@[simp] theorem grantLift_frames (r : LiftRef) (s : State) : (grantLift r s).frames = s.frames := by simp [grantLift]
@[simp] theorem grantLift_monitor (r : LiftRef) (s : State) :
    (grantLift r s).monitor = s.monitor := by simp [grantLift]
@[simp] theorem grantLift_ballast (r : LiftRef) (s : State) :
    (grantLift r s).ballast = s.ballast := by simp [grantLift]
@[simp] theorem grantLift_freeCount (r : LiftRef) (s : State) :
    (grantLift r s).freeCount = s.freeCount := by simp [grantLift]
@[simp] theorem grantLift_pending (r : LiftRef) (s : State) :
    (grantLift r s).pending = s.pending := by simp [grantLift]

/-! ### The end of a transfer -/

theorem releaseTanks_form (ks : List Nat) (s : State) :
    ks.foldl releaseTank s = { s with cond := { s.cond with tanks := (ks.foldl releaseTank s).cond.tanks } } := by
  induction ks generalizing s with
  | nil => rfl
  | cons k ks ih => exact ih (releaseTank s k)

/-- R161: the tank ends of a removed transfer are free and not stale. -/
theorem releaseTanks_tanks (ks : List Nat) (s : State) :
    (ks.foldl releaseTank s).cond.tanks =
      ks.foldl (fun ts k => tput ts k { (tget ts k).getD TankRow.fresh with transfer := none, stale := false })
        s.cond.tanks := by
  induction ks generalizing s with
  | nil => rfl
  | cons k ks ih => exact ih (releaseTank s k)

@[simp] theorem removeTransfer_powered (id : Nat) (t : Transfer) (k : EndKind) (s : State) :
    (removeTransfer id t k s).powered = s.powered := by
  unfold removeTransfer; dsimp only; rw [releaseTanks_form]; simp
@[simp] theorem removeTransfer_restartArmed (id : Nat) (t : Transfer) (k : EndKind) (s : State) :
    (removeTransfer id t k s).restartArmed = s.restartArmed := by
  unfold removeTransfer; dsimp only; rw [releaseTanks_form]; simp
@[simp] theorem removeTransfer_mode (id : Nat) (t : Transfer) (k : EndKind) (s : State) :
    (removeTransfer id t k s).mode = s.mode := by
  unfold removeTransfer; dsimp only; rw [releaseTanks_form]; simp
@[simp] theorem removeTransfer_time (id : Nat) (t : Transfer) (k : EndKind) (s : State) :
    (removeTransfer id t k s).time = s.time := by
  unfold removeTransfer; dsimp only; rw [releaseTanks_form]; simp
@[simp] theorem removeTransfer_nvm (id : Nat) (t : Transfer) (k : EndKind) (s : State) :
    (removeTransfer id t k s).nvm = s.nvm := by
  unfold removeTransfer; dsimp only; rw [releaseTanks_form]; simp
@[simp] theorem removeTransfer_ship (id : Nat) (t : Transfer) (k : EndKind) (s : State) :
    (removeTransfer id t k s).ship = s.ship := by
  unfold removeTransfer; dsimp only; rw [releaseTanks_form]; simp
@[simp] theorem removeTransfer_settings (id : Nat) (t : Transfer) (k : EndKind) (s : State) :
    (removeTransfer id t k s).settings = s.settings := by
  unfold removeTransfer; dsimp only; rw [releaseTanks_form]; simp
@[simp] theorem removeTransfer_origin (id : Nat) (t : Transfer) (k : EndKind) (s : State) :
    (removeTransfer id t k s).origin = s.origin := by
  unfold removeTransfer; dsimp only; rw [releaseTanks_form]; simp
@[simp] theorem removeTransfer_committing (id : Nat) (t : Transfer) (k : EndKind) (s : State) :
    (removeTransfer id t k s).committing = s.committing := by
  unfold removeTransfer; dsimp only; rw [releaseTanks_form]; simp
@[simp] theorem removeTransfer_storing (id : Nat) (t : Transfer) (k : EndKind) (s : State) :
    (removeTransfer id t k s).storing = s.storing := by
  unfold removeTransfer; dsimp only; rw [releaseTanks_form]; simp
@[simp] theorem removeTransfer_snapshot (id : Nat) (t : Transfer) (k : EndKind) (s : State) :
    (removeTransfer id t k s).snapshot = s.snapshot := by
  unfold removeTransfer; dsimp only; rw [releaseTanks_form]; simp
@[simp] theorem removeTransfer_snapshotOp (id : Nat) (t : Transfer) (k : EndKind) (s : State) :
    (removeTransfer id t k s).snapshotOp = s.snapshotOp := by
  unfold removeTransfer; dsimp only; rw [releaseTanks_form]; simp
@[simp] theorem removeTransfer_image (id : Nat) (t : Transfer) (k : EndKind) (s : State) :
    (removeTransfer id t k s).image = s.image := by
  unfold removeTransfer; dsimp only; rw [releaseTanks_form]; simp
@[simp] theorem removeTransfer_frames (id : Nat) (t : Transfer) (k : EndKind) (s : State) :
    (removeTransfer id t k s).frames = s.frames := by
  unfold removeTransfer; dsimp only; rw [releaseTanks_form]; simp
@[simp] theorem removeTransfer_monitor (id : Nat) (t : Transfer) (k : EndKind) (s : State) :
    (removeTransfer id t k s).monitor = s.monitor := by
  unfold removeTransfer; dsimp only; rw [releaseTanks_form]; simp
@[simp] theorem removeTransfer_freeCount (id : Nat) (t : Transfer) (k : EndKind) (s : State) :
    (removeTransfer id t k s).freeCount = s.freeCount := by
  unfold removeTransfer; dsimp only; rw [releaseTanks_form]; simp
@[simp] theorem removeTransfer_pending (id : Nat) (t : Transfer) (k : EndKind) (s : State) :
    (removeTransfer id t k s).pending = s.pending := by
  unfold removeTransfer; dsimp only; rw [releaseTanks_form]; simp

@[simp] theorem removeTransfer_cond_lots (id : Nat) (t : Transfer) (k : EndKind) (s : State) :
    (removeTransfer id t k s).cond.lots = s.cond.lots := by
  unfold removeTransfer; dsimp only; rw [releaseTanks_form]; simp
@[simp] theorem removeTransfer_cond_seq (id : Nat) (t : Transfer) (k : EndKind) (s : State) :
    (removeTransfer id t k s).cond.seq = s.cond.seq := by
  unfold removeTransfer; dsimp only; rw [releaseTanks_form]; simp
@[simp] theorem removeTransfer_cond_hooks (id : Nat) (t : Transfer) (k : EndKind) (s : State) :
    (removeTransfer id t k s).cond.hooks = s.cond.hooks := by
  unfold removeTransfer; dsimp only; rw [releaseTanks_form]; simp

@[simp] theorem removeTransfer_eval_actual (id : Nat) (t : Transfer) (k : EndKind) (s : State) :
    (removeTransfer id t k s).eval.actual = s.eval.actual := by
  unfold removeTransfer; dsimp only; rw [releaseTanks_form]; simp
@[simp] theorem removeTransfer_eval_plan (id : Nat) (t : Transfer) (k : EndKind) (s : State) :
    (removeTransfer id t k s).eval.plan = s.eval.plan := by
  unfold removeTransfer; dsimp only; rw [releaseTanks_form]; simp
@[simp] theorem removeTransfer_eval_trial (id : Nat) (t : Transfer) (k : EndKind) (s : State) :
    (removeTransfer id t k s).eval.trial = s.eval.trial := by
  unfold removeTransfer; dsimp only; rw [releaseTanks_form]; simp
@[simp] theorem removeTransfer_eval_alt (id : Nat) (t : Transfer) (k : EndKind) (s : State) :
    (removeTransfer id t k s).eval.alt = s.eval.alt := by
  unfold removeTransfer; dsimp only; rw [releaseTanks_form]; simp

@[simp] theorem removeTransfer_gate_recs (id : Nat) (t : Transfer) (k : EndKind) (s : State) :
    (removeTransfer id t k s).gate.recs = s.gate.recs := by
  unfold removeTransfer; dsimp only; rw [releaseTanks_form]; simp
@[simp] theorem removeTransfer_gate_stale (id : Nat) (t : Transfer) (k : EndKind) (s : State) :
    (removeTransfer id t k s).gate.stale = s.gate.stale := by
  unfold removeTransfer; dsimp only; rw [releaseTanks_form]; simp
@[simp] theorem removeTransfer_gate_slot (id : Nat) (t : Transfer) (k : EndKind) (s : State) :
    (removeTransfer id t k s).gate.slot = s.gate.slot := by
  unfold removeTransfer; dsimp only; rw [releaseTanks_form]; simp
@[simp] theorem removeTransfer_gate_window (id : Nat) (t : Transfer) (k : EndKind) (s : State) :
    (removeTransfer id t k s).gate.window = s.gate.window := by
  unfold removeTransfer; dsimp only; rw [releaseTanks_form]; simp
@[simp] theorem removeTransfer_gate_inhibit (id : Nat) (t : Transfer) (k : EndKind) (s : State) :
    (removeTransfer id t k s).gate.inhibit = s.gate.inhibit := by
  unfold removeTransfer; dsimp only; rw [releaseTanks_form]; simp

@[simp] theorem removeTransfer_ballast_nextId (id : Nat) (t : Transfer) (k : EndKind) (s : State) :
    (removeTransfer id t k s).ballast.nextId = s.ballast.nextId := by
  unfold removeTransfer; dsimp only; rw [releaseTanks_form]; simp [logEnd]

@[simp] theorem grantTransfer_powered (id : Nat) (t : Transfer) (s : State) :
    (grantTransfer id t s).powered = s.powered := by simp [grantTransfer]
@[simp] theorem grantTransfer_restartArmed (id : Nat) (t : Transfer) (s : State) :
    (grantTransfer id t s).restartArmed = s.restartArmed := by simp [grantTransfer]
@[simp] theorem grantTransfer_mode (id : Nat) (t : Transfer) (s : State) :
    (grantTransfer id t s).mode = s.mode := by simp [grantTransfer]
@[simp] theorem grantTransfer_time (id : Nat) (t : Transfer) (s : State) :
    (grantTransfer id t s).time = s.time := by simp [grantTransfer]
@[simp] theorem grantTransfer_nvm (id : Nat) (t : Transfer) (s : State) :
    (grantTransfer id t s).nvm = s.nvm := by simp [grantTransfer]
@[simp] theorem grantTransfer_ship (id : Nat) (t : Transfer) (s : State) :
    (grantTransfer id t s).ship = s.ship := by simp [grantTransfer]
@[simp] theorem grantTransfer_settings (id : Nat) (t : Transfer) (s : State) :
    (grantTransfer id t s).settings = s.settings := by simp [grantTransfer]
@[simp] theorem grantTransfer_origin (id : Nat) (t : Transfer) (s : State) :
    (grantTransfer id t s).origin = s.origin := by simp [grantTransfer]
@[simp] theorem grantTransfer_committing (id : Nat) (t : Transfer) (s : State) :
    (grantTransfer id t s).committing = s.committing := by simp [grantTransfer]
@[simp] theorem grantTransfer_storing (id : Nat) (t : Transfer) (s : State) :
    (grantTransfer id t s).storing = s.storing := by simp [grantTransfer]
@[simp] theorem grantTransfer_cond (id : Nat) (t : Transfer) (s : State) :
    (grantTransfer id t s).cond = s.cond := by simp [grantTransfer]
@[simp] theorem grantTransfer_snapshot (id : Nat) (t : Transfer) (s : State) :
    (grantTransfer id t s).snapshot = s.snapshot := by simp [grantTransfer]
@[simp] theorem grantTransfer_snapshotOp (id : Nat) (t : Transfer) (s : State) :
    (grantTransfer id t s).snapshotOp = s.snapshotOp := by simp [grantTransfer]
@[simp] theorem grantTransfer_image (id : Nat) (t : Transfer) (s : State) :
    (grantTransfer id t s).image = s.image := by simp [grantTransfer]
@[simp] theorem grantTransfer_frames (id : Nat) (t : Transfer) (s : State) :
    (grantTransfer id t s).frames = s.frames := by simp [grantTransfer]
@[simp] theorem grantTransfer_monitor (id : Nat) (t : Transfer) (s : State) :
    (grantTransfer id t s).monitor = s.monitor := by simp [grantTransfer]
@[simp] theorem grantTransfer_freeCount (id : Nat) (t : Transfer) (s : State) :
    (grantTransfer id t s).freeCount = s.freeCount := by simp [grantTransfer]
@[simp] theorem grantTransfer_pending (id : Nat) (t : Transfer) (s : State) :
    (grantTransfer id t s).pending = s.pending := by simp [grantTransfer]

end Sys2Proof.Machine
end

