-- ==== Sys2Proof/Laws/PerInstr.lean ====
section
/-! SUPPORT. Statements made per command.  `Stations`: what a command that a station sends is, as syntax. -/

namespace Sys2Proof.Laws.Stations

/-- A command that a station sends is well formed exactly when its request is, and its request has a kind code below
0x80, where R190 keeps the codes of the requests. -/
def Statement (i : Instr) : Prop :=
  ∀ l tag r, i.request = some (l, tag, r) → i.wf = r.wf ∧ r.kind.toNat < 0x80

/-- R190: the kind code of a request is below 0x80. -/
theorem kind_lt (r : Request) : r.kind.toNat < 0x80 := by
  cases r <;> exact of_decide_eq_true rfl

/-- A command with the request `r` has the property by the form of its constructor. -/
theorem of_request {i : Instr} {l : Link} {tag : Byte} {r : Request} (h : i.request = some (l, tag, r))
    (hw : i.wf = r.wf) : Statement i := by
  intro l' tag' r' h'
  rw [h] at h'
  cases h'
  exact ⟨hw, kind_lt r⟩

/-- An event has the property: it has no request. -/
theorem of_event {i : Instr} (h : i.request = none) : Statement i := by
  intro l tag r h'
  rw [h] at h'
  cases h'

theorem powerOn : Statement .powerOn := of_event rfl
theorem restartLine : Statement .restartLine := of_event rfl
theorem endOfInitializing : Statement .endOfInitializing := of_event rfl
theorem timebaseAdvance : Statement .timebaseAdvance := of_event rfl
theorem enterConfiguration (l : Link) (tag : Byte) : Statement (.enterConfiguration l tag) := of_request rfl rfl
theorem writeShipData (l : Link) (tag : Byte) (block index : Nat) (entry : List Byte) :
    Statement (.writeShipData l tag block index entry) :=
  of_request rfl rfl
theorem readShipData (l : Link) (tag : Byte) (block index : Nat) : Statement (.readShipData l tag block index) :=
  of_request rfl rfl
theorem commitShipData (l : Link) (tag : Byte) : Statement (.commitShipData l tag) := of_request rfl rfl
theorem commitCompletion : Statement .commitCompletion := of_event rfl
theorem writeSetting (l : Link) (tag : Byte) (item value : Nat) : Statement (.writeSetting l tag item value) :=
  of_request rfl rfl
theorem readSetting (l : Link) (tag : Byte) (item : Nat) : Statement (.readSetting l tag item) := of_request rfl rfl
theorem storeSettings (l : Link) (tag : Byte) : Statement (.storeSettings l tag) := of_request rfl rfl
theorem storeSettingsCompletion : Statement .storeSettingsCompletion := of_event rfl
theorem controlLine (l : Link) (tag : Byte) (line mode level : Nat) :
    Statement (.controlLine l tag line mode level) :=
  of_request rfl rfl
theorem clearLineStatus (l : Link) (tag : Byte) (selection : Nat) : Statement (.clearLineStatus l tag selection) :=
  of_request rfl rfl
theorem restart (l : Link) (tag : Byte) : Statement (.restart l tag) := of_request rfl rfl
theorem planLot (l : Link) (tag : Byte) (a : PlanLotArgs) : Statement (.planLot l tag a) := of_request rfl rfl
theorem unplanLot (l : Link) (tag : Byte) (lot : Nat) : Statement (.unplanLot l tag lot) := of_request rfl rfl
theorem placeLot (l : Link) (tag : Byte) (a : PlaceLotArgs) : Statement (.placeLot l tag a) := of_request rfl rfl
theorem removeLot (l : Link) (tag : Byte) (lot : Nat) : Statement (.removeLot l tag lot) := of_request rfl rfl
theorem markDischarge (l : Link) (tag : Byte) (lot : Nat) : Statement (.markDischarge l tag lot) := of_request rfl rfl
theorem unmarkDischarge (l : Link) (tag : Byte) (lot : Nat) : Statement (.unmarkDischarge l tag lot) :=
  of_request rfl rfl
theorem acceptWeight (l : Link) (tag : Byte) (lot : Nat) : Statement (.acceptWeight l tag lot) := of_request rfl rfl
theorem readLot (l : Link) (tag : Byte) (lot : Nat) : Statement (.readLot l tag lot) := of_request rfl rfl
theorem querySlot (l : Link) (tag : Byte) (slot : Nat) : Statement (.querySlot l tag slot) := of_request rfl rfl
theorem insertInSequence (l : Link) (tag : Byte) (lot dir place : Nat) :
    Statement (.insertInSequence l tag lot dir place) :=
  of_request rfl rfl
theorem removeFromSequence (l : Link) (tag : Byte) (lot : Nat) : Statement (.removeFromSequence l tag lot) :=
  of_request rfl rfl
theorem readSequence (l : Link) (tag : Byte) (page : Nat) : Statement (.readSequence l tag page) := of_request rfl rfl
theorem setTankManual (l : Link) (tag : Byte) (tank contents density : Nat) :
    Statement (.setTankManual l tag tank contents density) :=
  of_request rfl rfl
theorem setTankTarget (l : Link) (tag : Byte) (tank : Nat) (target : Option Target) :
    Statement (.setTankTarget l tag tank target) :=
  of_request rfl rfl
theorem openFrame (l : Link) (tag : Byte) : Statement (.openFrame l tag) := of_request rfl rfl
theorem addMoves (l : Link) (tag : Byte) (payload : List Byte) : Statement (.addMoves l tag payload) :=
  of_request rfl rfl
theorem dropFrame (l : Link) (tag : Byte) : Statement (.dropFrame l tag) := of_request rfl rfl
theorem foldFrame (l : Link) (tag : Byte) : Statement (.foldFrame l tag) := of_request rfl rfl
theorem readResults (l : Link) (tag : Byte) (context part page clear : Nat) :
    Statement (.readResults l tag context part page clear) :=
  of_request rfl rfl
theorem readViolations (l : Link) (tag : Byte) (context page : Nat) :
    Statement (.readViolations l tag context page) :=
  of_request rfl rfl
theorem readRecords (l : Link) (tag : Byte) : Statement (.readRecords l tag) := of_request rfl rfl
theorem acknowledgeRecords (l : Link) (tag : Byte) : Statement (.acknowledgeRecords l tag) := of_request rfl rfl
theorem suspendWork (l : Link) (tag : Byte) : Statement (.suspendWork l tag) := of_request rfl rfl
theorem resumeWork (l : Link) (tag : Byte) : Statement (.resumeWork l tag) := of_request rfl rfl
theorem openSnapshot (l : Link) (tag : Byte) : Statement (.openSnapshot l tag) := of_request rfl rfl
theorem openSnapshotCompletion : Statement .openSnapshotCompletion := of_event rfl
theorem readSnapshotPage (l : Link) (tag : Byte) (page : Nat) : Statement (.readSnapshotPage l tag page) :=
  of_request rfl rfl
theorem closeSnapshot (l : Link) (tag : Byte) : Statement (.closeSnapshot l tag) := of_request rfl rfl
theorem writeImagePage (l : Link) (tag : Byte) (page : Nat) (data : List Byte) :
    Statement (.writeImagePage l tag page data) :=
  of_request rfl rfl
theorem applyImage (l : Link) (tag : Byte) : Statement (.applyImage l tag) := of_request rfl rfl
theorem readLiftStatus (l : Link) (tag : Byte) : Statement (.readLiftStatus l tag) := of_request rfl rfl
theorem readTransfers (l : Link) (tag : Byte) (part : Nat) : Statement (.readTransfers l tag part) :=
  of_request rfl rfl
theorem setNoticeMask (l : Link) (tag : Byte) (events mode : Nat) : Statement (.setNoticeMask l tag events mode) :=
  of_request rfl rfl
theorem readNotices (l : Link) (tag : Byte) : Statement (.readNotices l tag) := of_request rfl rfl
theorem requestLift (l : Link) (tag : Byte) (a : RequestLiftArgs) : Statement (.requestLift l tag a) :=
  of_request rfl rfl
theorem cancelLift (l : Link) (tag : Byte) : Statement (.cancelLift l tag) := of_request rfl rfl
theorem hookReport (l : Link) (tag : Byte) (load : Nat) (tip : Pos) : Statement (.hookReport l tag load tip) :=
  of_request rfl rfl
theorem landingReport (l : Link) (tag : Byte) (a : LandingArgs) : Statement (.landingReport l tag a) :=
  of_request rfl rfl
theorem pairingTimeout (c : CraneId) : Statement (.pairingTimeout c) := of_event rfl
theorem requestTimeout (c : CraneId) : Statement (.requestTimeout c) := of_event rfl
theorem clearanceLapse : Statement .clearanceLapse := of_event rfl
theorem craneBecomesStale (c : CraneId) : Statement (.craneBecomesStale c) := of_event rfl
theorem tankReport (l : Link) (tag : Byte) (payload : List Byte) : Statement (.tankReport l tag payload) :=
  of_request rfl rfl
theorem tankBecomesStale (tank : Nat) : Statement (.tankBecomesStale tank) := of_event rfl
theorem requestTransfer (l : Link) (tag : Byte) (source destination mass : Nat) :
    Statement (.requestTransfer l tag source destination mass) :=
  of_request rfl rfl
theorem transferRequestTimeout (transfer : Nat) : Statement (.transferRequestTimeout transfer) := of_event rfl
theorem endTransfer (l : Link) (tag : Byte) (transfer : Nat) : Statement (.endTransfer l tag transfer) :=
  of_request rfl rfl
theorem cancelTransfer (l : Link) (tag : Byte) (transfer : Nat) : Statement (.cancelTransfer l tag transfer) :=
  of_request rfl rfl
theorem publication : Statement .publication := of_event rfl
theorem hookPassComplete : Statement .hookPassComplete := of_event rfl
theorem predictionCompletion : Statement .predictionCompletion := of_event rfl
theorem frameReceived (l : Link) (chars : List RxChar) : Statement (.frameReceived l chars) := of_event rfl
theorem characterGapTimeout (l : Link) : Statement (.characterGapTimeout l) := of_event rfl
theorem lineBreak (l : Link) : Statement (.lineBreak l) := of_event rfl
theorem takeFrame (l : Link) : Statement (.takeFrame l) := of_event rfl
theorem frameDeparture (l : Link) : Statement (.frameDeparture l) := of_event rfl
theorem powerLoss : Statement .powerLoss := of_event rfl
theorem receiveLineReturnToIdle (l : Link) : Statement (.receiveLineReturnToIdle l) := of_event rfl
theorem restartInputReturnToRest : Statement .restartInputReturnToRest := of_event rfl

end Sys2Proof.Laws.Stations
end

