-- ==== Sys2Proof/Tests/Slice0.lean ====
section
/-! SUPPORT. The model's own tests.  Expected values come from the spec: the worked cases of chapters 3, 5, 8 and 9, the
byte layouts of chapter 11, or hand calculation from a numbered rule.  The last part gives, for each statement with
hypotheses, states and operands that meet the hypotheses of its clauses. -/

namespace Sys2Proof.Tests

open Sys2Proof.Machine

set_option Elab.async false

/-- Bytes from numbers. -/
def w (l : List Nat) : List Byte := l.map (BitVec.ofNat 8)

/-! ### WellFormed: for each check a term it refuses -/

theorem test_wf_refuses_wide_fields :
    ([.writeShipData 256 0 [], .writeShipData 1 256 [], .writeShipData 1 0 (zeroBytes 239), .readShipData 256 0,
      .readShipData 1 256, .writeSetting 256 0, .writeSetting 1 4294967296, .readSetting 256, .controlLine 256 0 0,
      .controlLine 0 256 0, .controlLine 0 0 256, .clearLineStatus 256, .unplanLot 65536, .removeLot 65536,
      .markDischarge 65536, .unmarkDischarge 65536, .acceptWeight 65536, .readLot 65536, .querySlot 65536,
      .insertInSequence 65536 1 0, .insertInSequence 1 256 0, .insertInSequence 1 1 65536, .removeFromSequence 65536,
      .readSequence 256, .setTankManual 256 0 0, .setTankManual 0 4294967296 0, .setTankManual 0 0 65536,
      .setTankTarget 256 none, .setTankTarget 0 (some ⟨4294967296, 0⟩), .setTankTarget 0 (some ⟨0, 65536⟩),
      .addMoves (zeroBytes 28), .addMoves (zeroBytes 241), .readResults 256 0 0 0, .readResults 0 256 0 0,
      .readResults 0 0 256 0, .readResults 0 0 0 256, .readViolations 256 0, .readViolations 0 256,
      .readSnapshotPage 256, .writeImagePage 256 (zeroBytes 224), .writeImagePage 0 (zeroBytes 223),
      .hookReport 4294967296 ⟨0, 0, 0⟩, .tankReport (zeroBytes 7), .tankReport (zeroBytes 241),
      .requestTransfer 256 0 0, .requestTransfer 0 256 0, .requestTransfer 0 0 4294967296, .endTransfer 256,
      .cancelTransfer 256, .readTransfers 256, .setNoticeMask 65536 0, .setNoticeMask 0 256] : List Request).all
      (fun r => !r.wf) = true := by decide +kernel

theorem test_wf_refuses_wide_records :
    ([.planLot ⟨65536, 0, ⟨⟨0, 0, 0⟩, 0⟩, none⟩, .planLot ⟨1, 4294967296, ⟨⟨0, 0, 0⟩, 0⟩, none⟩,
      .planLot ⟨1, 1, ⟨⟨2147483648, 0, 0⟩, 0⟩, none⟩, .planLot ⟨1, 1, ⟨⟨0, -2147483649, 0⟩, 0⟩, none⟩,
      .planLot ⟨1, 1, ⟨⟨0, 0, 2147483648⟩, 0⟩, none⟩, .planLot ⟨1, 1, ⟨⟨0, 0, 0⟩, 256⟩, none⟩,
      .planLot ⟨1, 1, ⟨⟨0, 0, 0⟩, 0⟩, some ⟨65536, 1⟩⟩, .planLot ⟨1, 1, ⟨⟨0, 0, 0⟩, 0⟩, some ⟨1, 65536⟩⟩,
      .placeLot ⟨65536, none, ⟨⟨0, 0, 0⟩, 0⟩, none⟩, .placeLot ⟨1, some 4294967296, ⟨⟨0, 0, 0⟩, 0⟩, none⟩,
      .placeLot ⟨1, none, ⟨⟨0, 0, 0⟩, 256⟩, none⟩, .placeLot ⟨1, none, ⟨⟨0, 0, 0⟩, 0⟩, some ⟨65536, 1⟩⟩,
      .requestLift ⟨65536, 1, ⟨0, 0, 0⟩, none, none⟩, .requestLift ⟨1, 256, ⟨0, 0, 0⟩, none, none⟩,
      .requestLift ⟨1, 1, ⟨2147483648, 0, 0⟩, none, none⟩,
      .requestLift ⟨1, 1, ⟨0, 0, 0⟩, some ⟨⟨0, 0, 0⟩, 256⟩, none⟩,
      .requestLift ⟨1, 1, ⟨0, 0, 0⟩, none, some ⟨256, 1⟩⟩, .requestLift ⟨1, 1, ⟨0, 0, 0⟩, none, some ⟨2, 4294967296⟩⟩,
      .landingReport ⟨true, some ⟨⟨0, 0, 0⟩, 256⟩⟩, .hookReport 0 ⟨0, 0, 2147483648⟩] : List Request).all
      (fun r => !r.wf) = true
    ∧ Instr.wf (.tankBecomesStale 48) = false ∧ Instr.wf (.transferRequestTimeout 0) = false
    ∧ Instr.wf (.transferRequestTimeout 256) = false ∧ Instr.wf (.unplanLot .l0 0 65536) = false := by decide +kernel

/-! ### Decode: payloads written byte by byte from R190 and R191, one family after another -/

theorem test_decode_stores :
    Request.decode 0x02#8 (w [9, 3, 0, 0, 0, 1, 0, 0, 1, 0, 0, 1, 0, 0])
      = some (.writeShipData 9 3 (w [0, 0, 0, 1, 0, 0, 1, 0, 0, 1, 0, 0]))
    ∧ Request.decode 0x03#8 (w [6, 47]) = some (.readShipData 6 47)
    ∧ Request.decode 0x05#8 (w [0x33, 0, 0, 0x07, 0xD0]) = some (.writeSetting 0x33 2000)
    ∧ Request.decode 0x08#8 (w [1, 2, 1]) = some (.controlLine 1 2 1)
    ∧ Request.decode 0x0A#8 [] = some .restart := by decide +kernel

theorem test_decode_lots :
    Request.decode 0x10#8 (w [0x02, 0x6C, 1, 3, 0, 0, 0xEA, 0x60, 0, 0, 0xF2, 0x30, 0xFF, 0xFF, 0xF0, 0x60,
        0, 0, 0x30, 0xD4, 0x0B, 0xB8, 0x07, 0xD0])
      = some (.planLot ⟨620, 60000, ⟨⟨62000, -4000, 12500⟩, 3⟩, some ⟨3000, 2000⟩⟩)
    ∧ Request.decode 0x12#8 (w [0x01, 0x2D, 1, 4, 0, 4, 0xE2, 0, 0, 1, 0x11, 0x70, 0, 0, 0x07, 0xD0,
        0, 0, 0x23, 0x28, 9, 9, 9, 9])
      = some (.placeLot ⟨301, some 320000, ⟨⟨70000, 2000, 9000⟩, 4⟩, none⟩)
    ∧ Request.decode 0x16#8 (w [0x01, 0x2D]) = some (.acceptWeight 301) := by decide +kernel

theorem test_decode_sequence_and_tanks :
    Request.decode 0x19#8 (w [0x01, 0x31, 2, 0xFF, 0xFF]) = some (.insertInSequence 305 2 65535)
    ∧ Request.decode 0x1C#8 (w [3, 0, 2, 0x49, 0xF0, 0x03, 0xE8]) = some (.setTankManual 3 150000 1000)
    ∧ Request.decode 0x1D#8 (w [5, 1, 0, 3, 0x0D, 0x40, 0x04, 0x01]) = some (.setTankTarget 5 (some ⟨200000, 1025⟩))
    ∧ Request.decode 0x1D#8 (w [5, 0xFE, 0, 3, 0x0D, 0x40, 0x04, 0x01]) = some (.setTankTarget 5 none) := by
  decide +kernel

theorem test_decode_trial_and_readout :
    Request.decode 0x21#8 (w (1 :: 2 :: 0x01 :: 0x31 :: List.replicate 25 0))
      = some (.addMoves (w (1 :: 2 :: 0x01 :: 0x31 :: List.replicate 25 0)))
    ∧ Request.decode 0x28#8 (w [2, 3, 1, 1]) = some (.readResults 2 3 1 1)
    ∧ Request.decode 0x29#8 (w [1, 5]) = some (.readViolations 1 5)
    ∧ Request.decode 0x33#8 (7#8 :: zeroBytes 224) = some (.writeImagePage 7 (zeroBytes 224)) := by decide +kernel

theorem test_decode_lifts :
    Request.decode 0x40#8 (w ([0x02, 0xBC, 1, 2, 0, 0, 0xF2, 0x30, 0xFF, 0xFF, 0xC9, 0x50, 0, 0, 0x84, 0xD0]
        ++ List.replicate 13 0 ++ [2, 0, 6, 0xDD, 0xD0]))
      = some (.requestLift ⟨700, 1, ⟨62000, -14000, 34000⟩, none, some ⟨2, 450000⟩⟩)
    ∧ Request.decode 0x42#8 (w [0, 0, 0xF0, 0x3C, 0, 0, 0xF2, 0x30, 0xFF, 0xFF, 0xC9, 0x50, 0, 0, 0x84, 0xD0])
      = some (.hookReport 61500 ⟨62000, -14000, 34000⟩)
    ∧ Request.decode 0x43#8 (w [3, 0, 0, 0xF2, 0x94, 0xFF, 0xFF, 0xF0, 0x60, 0, 0, 0x30, 0xD4, 3])
      = some (.landingReport ⟨true, some ⟨⟨62100, -4000, 12500⟩, 3⟩⟩) := by decide +kernel

theorem test_decode_ballast_and_notices :
    Request.decode 0x48#8 (w [1, 4, 0, 0, 0x9C, 0x72, 0x04, 0x01])
        = some (.tankReport (w [1, 4, 0, 0, 0x9C, 0x72, 4, 1]))
    ∧ readingsOf (w [1, 4, 0, 0, 0x9C, 0x72, 0x04, 0x01]) = some [⟨4, 40050, 1025⟩]
    ∧ Request.decode 0x49#8 (w [0xFF, 4, 0, 0, 0xEA, 0x60]) = some (.requestTransfer 255 4 60000)
    ∧ Request.decode 0x50#8 (w [0x0F, 0xFF, 1]) = some (.setNoticeMask 0x0FFF 1) := by decide +kernel

/-- R190: an unknown kind; R188: a wrong length; R189: a kind with the high bit set. -/
theorem test_decode_refuses :
    Request.decode 0x0B#8 [] = none ∧ Request.decode 0x10#8 (zeroBytes 23) = none
    ∧ Request.decode 0x21#8 (zeroBytes 28) = none ∧ Request.decode 0x91#8 (zeroBytes 2) = none
    ∧ Request.decode 0x01#8 [0#8] = none := by decide +kernel

/-! ### Frames (chapter 10, R189) -/

/-- The generator of R173 with the register at 0xFFFF and no inversion, over the nine digits "123456789": 0x29B1. -/
theorem test_crc_of_digits : crc (w [0x31, 0x32, 0x33, 0x34, 0x35, 0x36, 0x37, 0x38, 0x39]) = 0x29B1#16 := by
  decide +kernel

theorem test_wire_layout :
    (Frame.wire ⟨0x17#8, 9#8, w [1, 45]⟩).take 6 = w [0xA7, 2, 0x17, 9, 1, 45]
    ∧ (Frame.wire ⟨0x17#8, 9#8, w [1, 45]⟩).length = 8 := by decide +kernel

/-! ### Condition arithmetic: worked cases A, B and C (3.10 to 3.12) -/

theorem test_rounding_table :
    rdiv 3125 10 = 313 ∧ rdiv (-3125) 10 = -313 ∧ rdiv 883 10 = 88 ∧ rdiv (-1) 2 = -1 ∧ rdiv 49 100 = 0
    ∧ rdiv (-6189975) 10000 = -619 := by decide +kernel

def caseShip : ShipData :=
  { particulars := some ⟨120000, 20000, 9000, 9000000⟩
    sections := none, lightship := some ⟨4000000, ⟨54000, 0, 8500⟩, []⟩
    hydro := [(0, ⟨0, 0, 9000, 56000, 55000, 0⟩), (1, ⟨5000, 4400000, 9300, 56200, 54600, 8000000⟩),
      (2, ⟨5200, 4600000, 9260, 56100, 54400, 8100000⟩)]
    buoyancy := [], tanks := [(3, ⟨3, 300000, 50000, -6000, 1000, 2000, 400000⟩)], areas := []
    cranes := [(1, ⟨1, 60000, ⟨40000, 0, 14000⟩, ⟨40000, 12000, 30000⟩⟩)], strength := [] }

def caseItems : List Item :=
  [⟨4000000, ⟨54000, 0, 8500⟩, .lightship⟩, ⟨320000, ⟨70000, 2000, 9000⟩, .lot 0 none none⟩,
    tankItem 3 ⟨3, 300000, 50000, -6000, 1000, 2000, 400000⟩ 150000 1000, ⟨60000, ⟨40000, 6000, 22000⟩, .boom⟩]

theorem test_case_a_tank : tankItem 3 ⟨3, 300000, 50000, -6000, 1000, 2000, 400000⟩ 150000 1000
    = ⟨150000, ⟨50000, -6000, 1500⟩, .tank 3 3 400000000⟩ := by decide +kernel

theorem test_case_a :
    let r := evaluate caseShip 1025 0 false caseItems
    [r.w, r.wStd, r.lcg, r.tcg, r.vcg, r.fsc, r.km, r.gm, r.heel, r.trim, r.draft, r.draftAft, r.draftFore]
      = [4530000, 4530000, 54812, 22, 8482, 88, 9274, 704, 313, 743, 5130, 5467, 4724].map valid
    ∧ r.lcb = valid 56135 ∧ r.lcf = valid 54470 ∧ r.mtcm = valid 8065000 := by decide +kernel

/-- Case C: ρ_sea = 1,000 with row j+1 the last. -/
theorem test_case_c_out_of_table :
    let r := evaluate caseShip 1000 0 false caseItems
    r.wStd = valid 4643250 ∧ r.km = noValue .outOfTable ∧ r.heel = noValue .outOfTable
    ∧ r.strength = .outOfTable ∧ r.lcg = valid 54812 := by decide +kernel

theorem test_case_c_heel :
    heelOf (-25) 800 = (valid (-313), false) ∧ heelOf 2800 704 = (valid 30000, true)
    ∧ heelOf 22 (-20) = (noValue .undefined, false)
    ∧ (hydrostatics (hydroRows caseShip) 4600000).map Hydro.draft = some 5200 := by decide +kernel

/-- Case B: R61 from the raw buoyancies. -/
theorem test_case_b_buoyancy :
    correctBuoyancy [380000, 560000, 640000, 660000, 660000, 640000, 560000, 400000] 1025 4530000
      = some [382533, 563733, 644267, 664400, 664400, 644267, 563733, 402667]
    ∧ correctBuoyancy (List.replicate 8 300000) 1025 1000001 = some (125001 :: List.replicate 7 125000) := by
  decide +kernel

def caseXs : List Int := (List.range 9).map (fun k : Nat => 15000 * (k : Int))

def caseLoads : List Int := [-82533, -113733, -34267, 85600, 255600, -64267, -43733, -2667]

/-- Case B: R62. -/
theorem test_case_b_strength :
    (List.range 7).map (fun i => shearAt caseLoads (i + 1)) = [-82533, -196266, -230533, -144933, 110667, 46400, 2667]
    ∧ (List.range 7).map (fun i => rdiv (momentAt caseXs caseLoads (i + 1)) 1000000)
      = [-619, -2710, -5911, -8727, -8984, -7806, -7438] := by decide +kernel

/-- Case B: R59. -/
theorem test_case_b_sections :
    (List.range 8).map (sectionWeight caseXs [300000, 450000, 550000, 600000, 600000, 580000, 520000, 400000] caseItems)
      = [300000, 450000, 610000, 750000, 920000, 580000, 520000, 400000] := by decide +kernel

/-- R103, R107 over case A and case C: a heel of 313 passes the HARBOUR maximum of 175, and W_std 4,643,250 the last
row's 4,600,000. -/
theorem test_judgement :
    (judge caseShip defaultHarbour (evaluate caseShip 1025 0 false caseItems)).filter (fun v => decide (v.cls.num ≤ 6))
      = [⟨.c2, 0, .high, 313, 175⟩]
    ∧ (⟨.c11, 0, .unordered, 4643250, 4600000⟩ : Violation)
      ∈ judge caseShip defaultHarbour (evaluate caseShip 1000 0 false caseItems) := by decide +kernel

/-! ### Small states -/

def testShip : ShipData :=
  { particulars := some ⟨120000, 20000, 9000, 9000000⟩
    sections := none, lightship := some ⟨4000000, ⟨54000, 0, 8500⟩, []⟩, hydro := [], buoyancy := []
    tanks := [(4, ⟨0, 250000, 50000, -6000, 0, 2000, 0⟩), (7, ⟨0, 250000, 50000, 6000, 0, 2000, 0⟩)]
    areas := [(3, ⟨0, 100000, -9000, 9000, 3000000, 100000⟩)]
    cranes := [(1, ⟨1, 0, ⟨40000, 0, 14000⟩, ⟨40000, 12000, 30000⟩⟩),
      (2, ⟨1, 0, ⟨80000, 0, 14000⟩, ⟨80000, 12000, 30000⟩⟩)]
    strength := [] }

def place : Loc := ⟨⟨62000, -4000, 12500⟩, 3⟩

def tip : Pos := ⟨62000, -14000, 34000⟩

def lot (id : Nat) (st : LotState) (mark : Bool) (measured : Option Nat) : Lot :=
  { id := id, state := st, declared := 60000, measured := measured, loc := place, footprint := none, mark := mark,
    modified := false, discrepancy := false }

/-- SERVICE with four lots: 1 PLANNED and first in the sequence, 2 ABOARD, marked and weighed, 3 ABOARD, 4 LIFTING by
crane 1. -/
def service : State :=
  { State.reset with
    mode := .service, ship := testShip, time := 50000
    cond :=
      { lots := [(0, lot 1 .planned false none), (1, lot 2 .aboard true (some 61800)), (2, lot 3 .aboard false none),
          (3, lot 4 (.lifting .planned .load true false) false none)]
        seq := [⟨1, .load⟩, ⟨2, .discharge⟩, ⟨4, .load⟩]
        tanks := [(4, { TankRow.fresh with contents := 40000, source := .gauged, time := 49950 })]
        hooks := ⟨⟨0, ⟨40000, 12000, 30000⟩⟩, ⟨0, ⟨80000, 12000, 30000⟩⟩⟩ } }

def config : State := { service with mode := .configuration }

/-- A crane's record in a lift of lot 4, single or with a share. -/
def recOf (st : LiftState) (role : Role) (share : Option Nat) : LiftRecord :=
  { LiftRecord.reset with
    state := st, role := some role, lot := some ⟨4, 3⟩, dir := some .load, worst := some tip, plan := some place
    share := share, timer := some 49000, lastReport := some 49990 }

/-- Crane 1 alone in a state of a lift of lot 4. -/
def lifting (st : LiftState) : State :=
  let s := service.onRec .one (fun _ => recOf st .single none)
  if st = .requested then s.setQueue [.lift ⟨.one, none⟩]
  else if st.pastRequested then s.setSlot (some ⟨.one, none⟩) else s

def tandemRec (st : LiftState) (role : Role) (other : CraneId) : LiftRecord :=
  { recOf st role (some 30000) with other := some other }

/-- The tandem lift of lot 4, crane 1 in the lead. -/
def tandem (st : LiftState) : State :=
  ((service.onRec .one (fun _ => tandemRec st .lead .two)).onRec .two (fun _ => tandemRec st .partner .one)).setSlot
    (some ⟨.one, some .two⟩)

/-- Crane 1 leads and waits for crane 2. -/
def pairing : State := service.onRec .one (fun _ => tandemRec .pairing .lead .two)

/-- Transfer 12 from the sea to tank 4. -/
def transfer (phase : TransferPhase) : State :=
  let s := service.setTransfers [(12, ⟨.sea, .tank 4, 60000, phase⟩)]
  s.setTankRow 4 { s.tankRow 4 with transfer := some 12 }

/-- A valid ship for INITIALIZING and for a commit: eight sections, two hydrostatic rows. -/
def wholeShip : ShipData :=
  { particulars := some ⟨120000, 20000, 9000, 9000000⟩
    sections := some ⟨caseXs⟩
    lightship := some ⟨4000000, ⟨54000, 0, 8500⟩, List.replicate 8 500000⟩
    hydro := [(0, ⟨0, 0, 9000, 56000, 55000, 0⟩), (1, ⟨5000, 4400000, 9300, 56200, 54600, 8000000⟩)]
    buoyancy := [(0, List.replicate 8 0), (1, List.replicate 8 550000)], tanks := []
    areas := [(3, ⟨0, 100000, -9000, 9000, 3000000, 100000⟩)]
    cranes := [(1, ⟨1, 0, ⟨40000, 0, 14000⟩, ⟨40000, 12000, 30000⟩⟩),
      (2, ⟨0, 0, ⟨80000, 0, 14000⟩, ⟨80000, 12000, 30000⟩⟩)]
    strength := (List.range 7).map (fun k => (k + 1, ⟨1000000, 1000000, 1000000⟩)) }

/-- A pass of a context in flight. -/
def passing (x : Ctx) : State :=
  { service with
    eval := { service.eval with unit := .pass ⟨x, 0, caseItems, 1025, .harbour, defaultHarbour, false, []⟩ } }

/-- A prediction in flight. -/
def predicting (key : DemandKey) (phase : Phase) (s : State) : State :=
  { s with
    eval := { s.eval with
      unit := .predicting ⟨key, phase, s.eval.actual.gen, 1025, caseItems, caseItems, defaultLift, defaultLift, false,
        none⟩ } }

/-- The state after a command. -/
def run (i : Instr) (s : State) : State :=
  match exec i s with
  | .next t => t
  | _ => s

/-! ### Commands: one step each -/

/-- R24: the slot becomes FREE and the LOAD entry goes. -/
theorem test_unplan_lot :
    let t := run (.unplanLot .l0 5 1) service
    tget t.cond.lots 0 = none ∧ t.cond.seq = [⟨2, .discharge⟩, ⟨4, .load⟩]
    ∧ (t.links.get .l0).outbound = [.sending ⟨0x91#8, 5#8, [0#8]⟩] := by decide +kernel

/-- R23: a new lot takes the lowest FREE slot, here 4. -/
theorem test_plan_lot_slot :
    ((run (.planLot .l0 0 ⟨620, 60000, place, none⟩) service).links.get .l0).outbound
      = [.sending ⟨0x90#8, 0#8, w [0, 0, 4]⟩] := by decide +kernel

/-- R31: place 0 is the head. -/
theorem test_insert_at_head :
    (run (.insertInSequence .l0 0 2 2 0) (run (.removeFromSequence .l0 0 2) service)).cond.seq
      = [⟨2, .discharge⟩, ⟨1, .load⟩, ⟨4, .load⟩] := by decide +kernel

/-- R13: an item clamped to its range is answered ADJUSTED with the working value. -/
theorem test_write_setting_clamps :
    ((run (.writeSetting .l0 0 0x2E 9) service).links.get .l0).outbound
      = [.sending ⟨0x85#8, 0#8, w [2, 0x2E, 0, 0, 0, 8]⟩] := by decide +kernel

/-- 8.9: the on-test of lot 620 passes at 54,000 kg and not below. -/
theorem test_load_on_bound :
    loadOnQualifies 900 60000 54000 = true ∧ loadOnQualifies 900 60000 53999 = false
    ∧ loadOffQualifies 100 61800 6180 = true ∧ loadOffQualifies 100 61800 6181 = false := by decide +kernel

/-- 8.9, 40,025: the third qualifying report hoists with 61,800 kg, and DISCREPANCY stays clear. -/
theorem test_hoist :
    let t := run (.hookReport .l1 0 61800 tip) ((lifting .cleared).onRec .one (LiftRecord.counterAt 2))
    (t.liftRec .one).state = .hoisted ∧ (t.liftRec .one).counter = 0
    ∧ (tget t.cond.lots 3).map (fun k => (k.measured, k.discrepancy)) = some (some 61800, false) := by decide +kernel

/-- 8.9, 40,320: the third report at 0 kg in LOWERING completes the lift. -/
theorem test_landed :
    let s := (lifting .lowering).onRec .one (fun r => { r with counter := 2, landing := some (.aboard place) })
    let t := run (.hookReport .l1 0 0 tip) s
    (t.liftRec .one).state = .idle ∧ t.gate.slot = none
    ∧ (t.liftRec .one).lastOutcome = some ⟨.completed, 4, none⟩
    ∧ (tget t.cond.lots 3).map Lot.state = some .aboard
    ∧ t.cond.seq = [⟨1, .load⟩, ⟨2, .discharge⟩] := by decide +kernel

/-- 8.10, 52,040 and 52,055: the shares must make the declared mass. -/
theorem test_partner :
    let ask := fun m => Instr.requestLift .l2 0 ⟨4, 1, tip, none, some ⟨1, m⟩⟩
    ((run (ask 20000) pairing).links.get .l2).outbound = [.sending ⟨0xC0#8, 0#8, [6#8]⟩]
    ∧ ((run (ask 30000) pairing).liftRec .two).role = some .partner
    ∧ (run (ask 30000) pairing).gate.queue = [.lift ⟨.one, some .two⟩] := by decide +kernel

/-- 9.8, 60,004: the reply counts two readings accepted, one of them clamped, and names the four outcomes. -/
theorem test_tank_report :
    let p := w [4, 4, 0, 0, 0x9C, 0x72, 4, 1, 7, 0, 3, 0xF7, 0xA0, 4, 1, 30, 0, 0, 0x13, 0x88, 4, 1,
      9, 0, 1, 0x11, 0x70, 9, 0xC4]
    let t := run (.tankReport .l3 0 p) service
    (t.links.get .l3).outbound = [.sending ⟨0xC8#8, 0#8, w [0, 2, 1, 0, 1, 3, 2]⟩]
    ∧ (t.tankRow 4).contents = 40050 ∧ (t.tankRow 7).contents = 256250 ∧ (t.tankRow 7).clamped = true
    ∧ t.eval.actual.gen = 1 ∧ t.eval.plan.gen = 1 := by decide +kernel

/-- 9.8, 60,000: the transfer takes id 12, the counter moves to 13, and the round stops it with STALE. -/
theorem test_request_transfer :
    let s := { service with ballast := { service.ballast with nextId := 12 } }
    let t := run (.requestTransfer .l3 0 255 4 60000) (s.setTankRow 4 { s.tankRow 4 with time := 49880 })
    tget t.ballast.transfers 12 = some ⟨.sea, .tank 4, 60000, .requested .stale 50000⟩ ∧ t.ballast.nextId = 13
    ∧ (t.tankRow 4).transfer = some 12 ∧ t.gate.queue = [.transfer 12] := by decide +kernel

/-- R121: a commanded suspension of a standing clearance. -/
theorem test_suspend_withdraws :
    let t := run (.suspendWork .l0 0) (lifting .cleared)
    t.monitor.suspension = some ⟨.commanded, 50000⟩ ∧ (t.liftRec .one).state = .requested
    ∧ (t.liftRec .one).reason = some .suspended ∧ t.gate.slot = none ∧ t.gate.inhibit.get .one = true
    ∧ t.monitor.stop = ⟨true, true⟩ := by decide +kernel

/-- 5.8, step 2: the move UNPLAN of a PLANNED lot records what it found. -/
theorem test_add_moves :
    let t := run (.addMoves .l0 0 (w (1 :: 2 :: 0 :: 1 :: List.replicate 25 0))) { service with frames := [[]] }
    t.frames = [[⟨.unplan 1, .planned 60000 place none⟩]]
    ∧ (t.links.get .l0).outbound = [.sending ⟨0xA1#8, 0#8, w [0, 1, 1, 1]⟩] := by decide +kernel

/-- R18: the count wraps. -/
theorem test_timebase_wraps : (run .timebaseAdvance { service with time := 0xFFFFFFFF#32 }).time = 0#32 := by
  decide +kernel

/-- R179: Hook Report from L0 is of another role; Write Ship Data has no place in SERVICE. -/
theorem test_admission :
    ((run (.hookReport .l0 7 0 tip) service).links.get .l0).outbound = [.sending ⟨0xC2#8, 7#8, [4#8]⟩]
    ∧ ((run (.writeShipData .l0 7 1 0 []) service).links.get .l0).outbound = [.sending ⟨0x82#8, 7#8, [5#8]⟩] := by
  decide +kernel

/-- R84, R180: a frame command refused at admission carries the depth and the pool, here 2 and 0, or its status alone
(log 11); the refusal of any other kind has nothing to carry. -/
theorem test_frame_refusal :
    let s : State := { service with frames := [[], []] }
    refusalValues true 0x20#8 s = w [2, 0] ∧ refusalValues true 0x21#8 s = w [0, 2, 0]
    ∧ refusalValues true 0x42#8 s = [] ∧ refusalValues false 0x20#8 s = []
    ∧ ((run (.openFrame .l1 7) s).links.get .l1).outbound
      = [.sending ⟨0xA0#8, 7#8, w [4] ++ refusalValues Config.figuresAtAdmission 0x20#8 s⟩] := by
  refine ⟨by decide, by decide, by decide, by decide, ?_⟩
  rfl

/-- R186: a request on a line that a break holds low is not received. -/
theorem test_request_on_low_line :
    let s := service.onLink .l0 (fun u => { u with lineLow := true })
    run (.suspendWork .l0 1) s = s := by decide +kernel

/-- R122: a lift's waiting demand is no candidate under suspension; a transfer's is. -/
theorem test_suspended_demand :
    let s := (lifting .requested).setQueue [.lift ⟨.one, none⟩, .transfer 12]
    let held := { s with
      monitor := { s.monitor with suspension := some ⟨.commanded, 7⟩ }
      eval := { s.eval with waiting := [.lift .one, .transfer 12] } }
    firstDemand held = some (.transfer 12)
    ∧ firstDemand { held with monitor := s.monitor } = some (.lift .one) := by decide +kernel

/-- R176: a false check is counted, and FRAME_ERROR is latched. -/
theorem test_false_check :
    let t := run (.frameReceived .l1 ((w [0xA7, 0, 0x44, 1, 0, 0]).map (fun b => ⟨b, true⟩))) service
    (t.links.get .l1).errorCount = 1 ∧ (t.links.get .l1).notices = 0x200#16 ∧ (t.links.get .l1).inbound = [] := by
  decide +kernel

/-! ### Witnesses: states and operands that meet the hypotheses of the statements, clause by clause -/

/-- The decidable form of `Ready`. -/
def readyB (s : State) (l : Link) (r : Request) : Bool :=
  s.powered && decide (s.mode ≠ .initializing) && !(s.links.get l).lineLow
    && decide ((s.links.get l).outbound.length < Config.linkPlaces)
    && decide ((s.links.get l).inbound = []) && noneServed s && roleOk l r && modeOk s.mode l r

theorem ready_of_readyB {s : State} {l : Link} {r : Request} (h : readyB s l r = true) : Ready s l r := by
  simp only [readyB, Bool.and_eq_true, Bool.not_eq_true', decide_eq_true_eq] at h
  obtain ⟨⟨⟨⟨⟨⟨⟨h1, h2⟩, h3⟩, h4⟩, h5⟩, h6⟩, h7⟩, h8⟩ := h
  exact ⟨h1, h2, h3, h4, h5, h6, h7, h8⟩

/-- A state whose link L0 has `n` frames inbound. -/
def queued (n : Nat) (s : State) : State :=
  s.onLink .l0 (fun u => { u with inbound := List.replicate n ⟨0x51#8, 0#8, []⟩ })

/-- A state whose link L0 has `n` places taken, the first in transmission. -/
def sending (n : Nat) (s : State) : State :=
  s.onLink .l0 (fun u => { u with outbound := (List.replicate n OutPlace.notice).set 0 (.sending ⟨0xFF#8, 0#8, []⟩) })

/-- A lot table with no FREE slot. -/
def fullTable : Table Lot := (List.range 512).map (fun k => (k, lot (k + 1) .planned false none))

theorem test_witness_step :
    ({ service with pending := [.timebaseAdvance, .readNotices .l0 1] } : State).pending
      = .timebaseAdvance :: [.readNotices .l0 1] ∧ service.pending = [] := by decide +kernel

theorem test_witness_power :
    service.powered = true ∧ service.committing = false ∧ service.storing = false
    ∧ ({ config with committing := true } : State).powered = true
    ∧ ({ service with storing := true } : State).committing = false
    ∧ ({ service with powered := false } : State).powered = false
    ∧ (Instr.timebaseAdvance ≠ .powerOn ∧ Instr.timebaseAdvance ≠ .restartInputReturnToRest)
    ∧ ({ service with time := 4294967295#32 } : State).time = 4294967295#32 := by decide +kernel

theorem gateSound_service : GateSound service where
  holder := fun r h => by simp [service, State.reset] at h
  others := fun c h => by cases c <;> simp [service, State.reset, State.liftRec, PerCrane.get, LiftRecord.reset,
    LiftState.pastRequested] at h
  entries := fun r h => by simp [service, State.reset] at h
  queued := fun c h => by cases c <;> simp [service, State.reset, State.liftRec, PerCrane.get, LiftRecord.reset] at h
  once := fun r => by simp [service, State.reset]
  pairing := fun c h => by cases c <;> simp [service, State.reset, State.liftRec, PerCrane.get, LiftRecord.reset] at h
  suspended := fun h => by simp [service, State.reset, State.suspended] at h

/-- A lift of crane 1 and transfer 12, both REQUESTED, under suspension. -/
def pendingWork : State :=
  let s := ((transfer (.requested .suspended 49000)).onRec .one (fun _ => recOf .requested .single none)).setQueue
    [.lift ⟨.one, none⟩, .transfer 12]
  { s with monitor := { s.monitor with suspension := some ⟨.commanded, 7⟩ } }

theorem gateSound_pendingWork : GateSound pendingWork where
  holder := fun r h => by
    have e : pendingWork.gate.slot = none := by decide +kernel
    rw [e] at h; cases h
  others := fun c => by cases c <;> decide +kernel
  entries := fun r h => by
    have e : pendingWork.gate.queue = [.lift ⟨.one, none⟩, .transfer 12] := by decide +kernel
    rw [e] at h
    simp only [List.mem_cons, GateEntry.lift.injEq, reduceCtorEq, List.not_mem_nil, or_false] at h
    subst h
    decide +kernel
  queued := fun c => by cases c <;> decide +kernel
  once := fun r => by
    obtain ⟨lead, partner⟩ := r
    cases lead <;> rcases partner with _ | p <;> (try cases p) <;> decide +kernel
  pairing := fun c => by cases c <;> decide +kernel
  suspended := fun _ c => by cases c <;> decide +kernel

/-- The invariants hold of a state in SERVICE whose step answers a next state; so does that of the gate. -/
theorem test_witness_invariants :
    let s := { service with pending := [.cancelLift .l1 0] }
    linksBounded s = true ∧ noneServed s = true ∧ stackBounded s = true ∧ lotsSound s.cond.lots = true
    ∧ ballastSound s.ballast = true ∧ storesSound { State.reset with pending := [.timebaseAdvance] } = true
    ∧ storesSound { s with ship := wholeShip, settings := clampMaxima wholeShip.particulars defaultSettings } = true
    ∧ arbiterBusy s = true ∧ s.powered = true ∧ s.monitor.caution.asserted = cautionTarget s
    ∧ s.monitor.stop.asserted = stopTarget s ∧ (∀ c ∈ bothCranes, s.gate.inhibit.get c = inhibitTarget s c)
    ∧ (match step s with | .next t => decide (t = run (.cancelLift .l1 0) service) | _ => false) = true := by
  decide +kernel

/-- ACTUAL's pass is of the present generation, PLAN is dirty, and TRIAL stands over an empty stack. -/
theorem currencySound_passing :
    currencySound { passing .actual with
      eval := { (passing .actual).eval with plan := { CtxState.reset with dirty := true } } } := by
  refine ⟨fun h => absurd rfl h, fun _ x h => ⟨fun p e hx => ?_, ?_⟩⟩
  · cases e
    subst hx
    rfl
  · cases x
    · exact .inl ⟨_, rfl, rfl⟩
    · exact absurd h (by decide +kernel)
    · exact .inr (.inr ⟨rfl, rfl⟩)

/-- A pass of ACTUAL in flight over the standing clearance of crane 1. -/
def clearedPass : State := { lifting .cleared with eval := (passing .actual).eval }

theorem gateSound_clearedPass : GateSound clearedPass where
  holder := fun r h => by
    have e : clearedPass.gate.slot = some ⟨.one, none⟩ := by decide +kernel
    rw [e] at h
    cases h
    decide +kernel
  others := fun c => by cases c <;> decide +kernel
  entries := fun r h => by
    have e : clearedPass.gate.queue = [] := by decide +kernel
    rw [e] at h
    cases h
  queued := fun c => by cases c <;> decide +kernel
  once := fun r => by
    have e : clearedPass.gate.queue = [] := by decide +kernel
    rw [e]
    simp
  pairing := fun c => by cases c <;> decide +kernel
  suspended := fun _ c => by
    have e : clearedPass.suspended = false := by decide +kernel
    simp_all

/-- R145, R122: at a publication a fresh clearance stands and its re-check is demanded; a crane with no fresh report loses
it with STALE, and an automatic suspension takes it with SUSPENDED. -/
theorem test_publication_and_clearance :
    let s := { clearedPass with settings := { defaultSettings with trigger := .never } }
    let t := run .publication s
    let old := run .publication (s.onRec .one (fun r => { r with lastReport := some 49970 }))
    let held := run .publication clearedPass
    standingClearance clearedPass = some ⟨.one, none⟩
    ∧ (t.liftRec .one).state = .cleared
    ∧ (t.eval.waiting.contains .recheck || t.eval.unit.predictsFor .recheck) = true
    ∧ (old.liftRec .one).state = .requested ∧ (old.liftRec .one).reason = some .stale ∧ old.gate.slot = none
    ∧ held.suspended = true ∧ (held.liftRec .one).reason = some .suspended
    ∧ held.gate.queue = [.lift ⟨.one, none⟩] := by decide +kernel

/-- With ACTUAL dirty, the waiting demand of crane 1 or of transfer 12 begins at an alternation count of 2 and ACTUAL at
1; a pass of PLAN and of TRIAL begins. -/
theorem test_witness_begins :
    let demand := fun k alt => { (lifting .requested).setQueue [.transfer 12, .lift ⟨.one, none⟩] with
      eval := { service.eval with actual := { CtxState.reset with dirty := true }, alt := alt, waiting := [k] } }
    let begins := fun i s k => decide ((run i s).eval.unit = .predicting (capturePrediction (run i s) k))
    begins (.acknowledgeRecords .l0 5) (demand (.lift .one) 2) (.lift .one) = true
    ∧ begins (.acknowledgeRecords .l0 5) (demand (.transfer 12) 2) (.transfer 12) = true
    ∧ (match (run (.acknowledgeRecords .l0 5) (demand (.lift .one) 1)).eval.unit with | .pass p => p.ctx | _ => .plan)
      = .actual
    ∧ (match (run (.unplanLot .l0 5 1) service).eval.unit with | .pass p => p.ctx | _ => .actual) = .plan
    ∧ (match (run (.openFrame .l0 5) service).eval.unit with | .pass p => p.ctx | _ => .actual) = .trial
    ∧ service.eval.unit = .idle ∧ (predicting (.lift .one) .hook pendingWork).suspended = true
    ∧ (run .timebaseAdvance (predicting (.lift .one) .hook pendingWork)).eval.unit.predictsFor (.lift .one) = true := by
  decide +kernel

theorem test_witness_encodings :
    Request.wf (.planLot ⟨65535, 4294967295, ⟨⟨2147483647, -2147483648, 0⟩, 255⟩, some ⟨65535, 0⟩⟩) = true
    ∧ indexOk 9 1 = true ∧ entryOk (.strength ⟨1, 2, 3⟩) = true
    ∧ getEntry { testShip with strength := [(1, ⟨1, 2, 3⟩)] } 9 1 = some (.strength ⟨1, 2, 3⟩)
    ∧ (let k := lot 2 .aboard true (some 61800)
      k.state.isLifting = false ∧ lotIdOk k.id = true ∧ declaredOk k.declared = true
      ∧ k.measured.all measuredOk = true ∧ k.footprint.all footOk = true ∧ locOk testShip k.loc = true
      ∧ k.loc.area ≤ 15 ∧ (k.mark = true → k.state = .aboard) ∧ k.discrepancy = false) := by decide +kernel

/-- A frame of the greatest payload, into an inbound queue with 15 frames and with 16. -/
theorem test_witness_frames :
    let f : Frame := ⟨0x33#8, 0#8, zeroBytes 240⟩
    f.payload.length ≤ Config.maxPayload ∧ (service.links.get .l0).rx = .hunt ∧ (service.links.get .l0).lineLow = false
    ∧ ((queued 15 service).links.get .l0).inbound.length < Config.linkPlaces
    ∧ Config.linkPlaces ≤ ((queued 16 service).links.get .l0).inbound.length
    ∧ service.powered = true ∧ (queued 16 service).powered = true ∧ ((queued 16 service).links.get .l0).rx = .hunt
    ∧ ((queued 16 service).links.get .l0).lineLow = false
    ∧ canTake service .l0 = true ∧ (service.links.get .l0).inbound = []
    ∧ Instr.request (.planLot .l0 7 ⟨620, 1, place, none⟩) = some (.l0, 7#8, .planLot ⟨620, 1, place, none⟩)
    ∧ Request.wf (.planLot ⟨620, 1, place, none⟩) = true := by decide +kernel

theorem test_witness_admission :
    service.powered = true ∧ service.mode ≠ .initializing ∧ noneServed service = true
    ∧ ((service.onLink .l0 (fun u => { u with inbound := [⟨0x0B#8, 0#8, []⟩] })).links.get .l0).inbound
      = ⟨0x0B#8, 0#8, []⟩ :: [] ∧ (service.links.get .l0).inbound = []
    ∧ Instr.request (.cancelLift .l0 7) = some (.l0, 7#8, .cancelLift)
    ∧ Instr.request (.commitShipData .l0 7) = some (.l0, 7#8, .commitShipData)
    ∧ ((sending 15 service).links.get .l0).outbound.length < Config.linkPlaces
    ∧ Request.decode 0x0B#8 [] = none ∧ roleOk .l0 .cancelLift = false
    ∧ roleOk .l0 .commitShipData = true ∧ modeOk service.mode .l0 .commitShipData = false
    ∧ State.reset.mode = .initializing
    ∧ Config.linkPlaces ≤ ((sending 16 service).links.get .l0).outbound.length
    ∧ canTake (sending 16 service) .l0 = false
    ∧ ((queued 15 service).links.get .l0).inbound ≠ []
    ∧ ((queued 15 service).links.get .l0).inbound.length < Config.linkPlaces
    ∧ Config.linkPlaces ≤ ((queued 16 service).links.get .l0).inbound.length
    ∧ (service.links.get .l0).lineLow = false
    ∧ ((service.onLink .l0 (fun u => { u with lineLow := true })).links.get .l0).lineLow = true
    ∧ Instr.request (.openFrame .l1 7) = some (.l1, 7#8, .openFrame) ∧ roleOk .l1 .openFrame = false
    ∧ roleOk .l0 .openFrame = true ∧ modeOk config.mode .l0 .openFrame = false := by decide +kernel

theorem test_witness_bad_frames :
    let on := fun rx => (service.onLink .l0 (fun u => { u with rx := rx })).links.get .l0
    service.powered = true ∧ (on (.header [])).rx ≠ .hunt
    ∧ (on (.check 0x44#8 1#8 [] (some 0#8))).rx = .check 0x44#8 1#8 [] (some 0#8) ∧ (service.links.get .l0).rx = .hunt ∧ (on (.header [])).rx = .header []
    ∧ (on (.header [])).lineLow = false ∧ Config.maxPayload < (241#8).toNat
    ∧ beNat [0#8, 0#8] ≠ (crc (Frame.checked ⟨0x44#8, 1#8, []⟩)).toNat := by decide +kernel

theorem test_witness_break_and_departure :
    service.powered = true ∧ (service.links.get .l0).lineLow = false
    ∧ ((service.onLink .l0 (fun u => { u with lineLow := true })).links.get .l0).lineLow = true
    ∧ ((sending 3 service).links.get .l0).outbound
      = [] ++ OutPlace.sending ⟨0xFF#8, 0#8, []⟩ :: [OutPlace.notice, OutPlace.notice]
    ∧ (∀ p ∈ ([] ++ [OutPlace.notice, OutPlace.notice] : List OutPlace), p.isSending = false)
    ∧ (service.links.get .l0).outbound = [] := by decide +kernel

/-- Queues with no frame in transmission: reserved places alone, and one before a reply or a notice. -/
theorem test_witness_departure_of_places :
    let kept := OutPlace.reserved .store 6#8 1#8
    let on := fun (q : List OutPlace) => service.onLink .l0 (fun u => { u with outbound := q })
    (∀ q ∈ [kept, kept], ∃ w k t, q = .reserved w k t) ∧ ((on [kept, kept]).links.get .l0).outbound = [kept, kept]
    ∧ ((on [kept, .reply ⟨0#8, 0#8, []⟩, kept]).links.get .l0).outbound = [kept] ++ .reply ⟨0#8, 0#8, []⟩ :: [kept]
    ∧ ((on [kept, .notice]).links.get .l0).outbound = [kept] ++ OutPlace.notice :: [] ∧ kept.isSending = false := by
  refine ⟨fun q h => ?_, rfl, rfl, rfl, rfl⟩
  simp only [List.mem_cons, List.not_mem_nil, or_false, or_self] at h
  exact ⟨_, _, _, h⟩

/-- MODE (bit 0) is unmasked on L0 and LIFT (bit 5) is masked. -/
theorem test_witness_latching :
    let u := service.links.get .l0
    u.mask.getLsbD Event.lift.bit = false ∧ u.notices.getLsbD Event.mode.bit = false
    ∧ u.mask.getLsbD Event.mode.bit = true ∧ OutPlace.notice ∉ u.outbound ∧ u.outbound.length < Config.linkPlaces
    ∧ OutPlace.notice ∈ ((sending 2 service).links.get .l0).outbound
    ∧ ({ u with notices := 1#16 } : LinkUnit).notices.getLsbD Event.mode.bit = true
    ∧ (let full : LinkUnit := { u with outbound := List.replicate 16 (.reply ⟨0#8, 0#8, []⟩) }
      OutPlace.notice ∉ full.outbound ∧ Config.linkPlaces ≤ full.outbound.length) := by decide +kernel

/-- The widest masks: L1 has no TRIAL_FAULT (bit 10). -/
theorem test_witness_notices :
    readyB service .l1 .readNotices = true ∧ readyB service .l1 (.setNoticeMask 0x0BFF 1) = true
    ∧ namedEvents 0x0BFF &&& ~~~linkEvents .l1 = 0#16 ∧ namedEvents 0x0400 &&& ~~~linkEvents .l1 ≠ 0#16
    ∧ readyB service .l1 (.setNoticeMask 0x0400 1) = true ∧ readyB service .l0 (.setNoticeMask 0 2) = true
    ∧ (let s := service.onLink .l0 (fun u => { u with mask := 0#16, notices := 1#16 })
      readyB s .l0 (.setNoticeMask 1 1) = true
      ∧ (s.links.get .l0).notices &&& namedEvents 1 &&& ~~~(s.links.get .l0).mask ≠ 0#16
      ∧ OutPlace.notice ∉ (s.links.get .l0).outbound
      ∧ (run (.setNoticeMask .l0 3 1 1) s).links.l0.outbound.getLast? = some .notice) := by
  decide +kernel

theorem test_witness_modes :
    service.powered = true ∧ service.restartArmed = true
    ∧ ({ service with restartArmed := false } : State).restartArmed = false ∧ readyB service .l0 .restart = true
    ∧ storedShipValid { State.reset with nvm := { State.reset.nvm with ship := ⟨true, wholeShip⟩ } } = true
    ∧ storedShipValid State.reset = false ∧ State.reset.powered = true ∧ State.reset.mode = .initializing
    ∧ service.mode ≠ .initializing := by
  decide +kernel

theorem test_witness_enter_configuration :
    readyB { service with mode := .unconfigured } .l0 .enterConfiguration = true
    ∧ readyB config .l0 .enterConfiguration = true ∧ config.mode = .configuration
    ∧ readyB (lifting .cleared) .l0 .enterConfiguration = true ∧ heldInService (lifting .cleared) = true
    ∧ readyB (lifting .requested) .l0 .enterConfiguration = true ∧ heldInService (lifting .requested) = false
    ∧ ((lifting .requested).liftRec .one).role ≠ some .partner
    ∧ readyB pendingWork .l0 .enterConfiguration = true ∧ heldInService pendingWork = false
    ∧ pendingWork.mode = .service ∧ pendingWork.ballast.log.length ≤ 4
    ∧ tget pendingWork.cond.lots 3 = some (lot 4 (.lifting .planned .load true false) false none)
    ∧ (pendingWork.liftRec .one).lot.map LotRef.slot = some 3 := by decide +kernel

/-- Slots 511 and 512; a sequence of 56 entries has page 0 and no page 1, one of 57 has both. -/
theorem test_witness_reads :
    readyB config .l0 (.readShipData 6 47) = true ∧ indexOk 6 47 = true ∧ getEntry testShip 6 47 = none
    ∧ getEntry testShip 6 4 = some (.tank ⟨0, 250000, 50000, -6000, 0, 2000, 0⟩)
    ∧ indexOk 6 4 = true ∧ indexOk 6 48 = false
    ∧ readyB config .l0 (.readShipData 6 48) = true ∧ readyB service .l0 (.readSetting 0x41) = true
    ∧ itemValue service 0x41 = some 50000 ∧ itemValue service 0x0C = none
    ∧ readyB service .l0 (.readLot 65535) = true ∧ readyB service .l0 (.readLot 1) = true
    ∧ findLot service.cond.lots 1 = some (0, lot 1 .planned false none) ∧ lotIdOk 1 = true
    ∧ lotIdOk 600 = true ∧ findLot service.cond.lots 600 = none
    ∧ readyB service .l0 (.querySlot 512) = true ∧ readyB service .l0 (.querySlot 511) = true
    ∧ tget service.cond.lots 511 = none ∧ tget service.cond.lots 0 = some (lot 1 .planned false none)
    ∧ readyB service .l0 (.readSequence 1) = true
    ∧ (List.replicate 56 (⟨1, .load⟩ : SeqEntry)).length ≤ 56 * 1
    ∧ 56 * 1 < (List.replicate 57 (⟨1, .load⟩ : SeqEntry)).length := by decide +kernel

theorem test_witness_write_ship_data :
    let e := w [0, 0, 0, 1, 0, 0, 0, 2, 0, 0, 0, 3]
    let bad := w [255, 255, 255, 255, 0, 0, 0, 2, 0, 0, 0, 3]
    readyB config .l0 (.writeShipData 9 1 e) = true ∧ entryForm 9 [0#8] = false ∧ entryForm 9 e = true
    ∧ indexOk 9 0 = false ∧ indexOk 9 1 = true ∧ entryForm 9 [] = true ∧ e ≠ []
    ∧ entryOf 9 e = some (.strength ⟨1, 2, 3⟩) ∧ entryOk (.strength ⟨1, 2, 3⟩) = true
    ∧ entryForm 6 (zeroBytes 25) = true ∧ entryOf 6 (zeroBytes 25) = some (.tank ⟨0, 0, 0, 0, 0, 0, 0⟩)
    ∧ entryOk (.tank ⟨0, 0, 0, 0, 0, 0, 0⟩) = false ∧ bad.length = 12
    ∧ config.committing = false ∧ ({ config with committing := true } : State).committing = true
    ∧ readyB { config with committing := true } .l0 (.writeShipData 9 1 e) = true
    ∧ readyB { config with committing := true } .l0 (.writeShipData 9 1 []) = true := by decide +kernel

theorem test_witness_stores :
    let whole := { config with ship := wholeShip }
    let held := fun a => (config.onLink .l0 (fun u => { u with outbound := [.reserved a 4#8 9#8] }))
    readyB whole .l0 .commitShipData = true ∧ whole.committing = false ∧ whole.storing = false
    ∧ commitCheck whole.ship = none ∧ (commitCheck testShip).isSome = true
    ∧ readyB config .l0 .commitShipData = true
    ∧ readyB { config with storing := true } .l0 .commitShipData = true
    ∧ readyB service .l0 .storeSettings = true ∧ readyB { service with storing := true } .l0 .storeSettings = true
    ∧ ((held .commit).links.get .l0).outbound = [] ++ OutPlace.reserved .commit 4#8 9#8 :: []
    ∧ ((held .store).links.get .l0).outbound = [] ++ OutPlace.reserved .store 4#8 9#8 :: [] := by decide +kernel

/-- Item 0x2E at both ends of its range and past them; W_in above W_out; the items of each clause. -/
theorem test_witness_write_setting :
    readyB service .l0 (.writeSetting 0x2E 1) = true ∧ itemValue service 0x0C = none
    ∧ itemReadOnly 0x40 = true ∧ itemValue service 0x40 ≠ none ∧ enumOk 0x22 1 = true ∧ enumOk 0x22 4 = false
    ∧ settingGet service.settings 0x2E ≠ none ∧ itemReadOnly 0x2E = false ∧ enumOk 0x2E 0 = true
    ∧ clampTo (itemRange none 87 0x2E) 1 = 1 ∧ clampTo (itemRange none 87 0x2E) 0 = 1
    ∧ clampTo (itemRange none 87 0x2E) 8 = 8 ∧ clampTo (itemRange none 87 0x2E) 9 = 8
    ∧ settingGet service.settings 0x34 = some 87 ∧ service.settings.wOut = 175
    ∧ settingGet service.settings 0x2C ≠ none ∧ settingGet service.settings 0x2D ≠ none
    ∧ readyB { service with storing := true } .l0 (.writeSetting 0x34 176) = true := by decide +kernel

theorem test_witness_alarm_lines :
    readyB service .l0 (.controlLine 0 2 1) = true ∧ lineArgs 0 2 1 = some (.manual, true)
    ∧ lineArgs 1 0 7 = some (.off, false) ∧ lineArgs 2 0 0 = none ∧ lineArgs 0 3 0 = none ∧ lineArgs 1 2 2 = none
    ∧ readyB { service with storing := true } .l0 (.controlLine 0 2 1) = true
    ∧ readyB service .l0 (.clearLineStatus 3) = true ∧ readyB service .l0 (.clearLineStatus 4) = true
    ∧ service.monitor.caution.asserted = cautionTarget service
    ∧ service.monitor.stop.asserted = stopTarget service
    ∧ (∀ c ∈ bothCranes, service.gate.inhibit.get c = inhibitTarget service c) := by decide +kernel

theorem test_witness_plan_and_place :
    let full := service.setLots fullTable
    readyB service .l0 (.planLot ⟨620, 1, place, none⟩) = true
    ∧ planValuesOk testShip ⟨620, 1, place, none⟩ = true ∧ planValuesOk testShip ⟨0, 1, place, none⟩ = false
    ∧ findLot service.cond.lots 620 = none ∧ freeSlot service.cond.lots = some 4
    ∧ freeSlot full.cond.lots = none ∧ findLot full.cond.lots 620 = none
    ∧ readyB full .l0 (.planLot ⟨620, 1, place, none⟩) = true
    ∧ findLot service.cond.lots 1 = some (0, lot 1 .planned false none)
    ∧ findLot service.cond.lots 3 = some (2, lot 3 .aboard false none)
    ∧ readyB service .l0 (.placeLot ⟨620, some 1, place, none⟩) = true
    ∧ readyB full .l0 (.placeLot ⟨620, some 1, place, none⟩) = true
    ∧ placeValuesOk testShip ⟨620, some 1, place, none⟩ = true
    ∧ placeValuesOk testShip ⟨0, some 1, place, none⟩ = false
    ∧ placeValuesOk testShip ⟨1, none, place, none⟩ = true ∧ placeValuesOk testShip ⟨3, none, place, none⟩ = true := by
  decide +kernel

theorem test_witness_lots :
    lotIdOk 0 = false ∧ lotIdOk 1 = true ∧ lotIdOk 65535 = true ∧ findLot service.cond.lots 65535 = none
    ∧ findLot service.cond.lots 1 = some (0, lot 1 .planned false none)
    ∧ findLot service.cond.lots 2 = some (1, lot 2 .aboard true (some 61800))
    ∧ findLot service.cond.lots 3 = some (2, lot 3 .aboard false none)
    ∧ readyB service .l0 (.unplanLot 1) = true ∧ readyB service .l0 (.removeLot 2) = true
    ∧ readyB service .l0 (.markDischarge 3) = true ∧ readyB service .l0 (.unmarkDischarge 2) = true
    ∧ readyB service .l0 (.acceptWeight 2) = true ∧ (lot 2 .aboard true (some 61800)).declared ≠ 61800
    ∧ (lot 2 .aboard true (some 2000000)).measured = some 2000000
    ∧ (lot 2 .aboard true (some 2000001)).measured = some 2000001
    ∧ (lot 2 .aboard true (some 60000)).declared = 60000 := by decide +kernel

theorem test_witness_sequence :
    let s := service.setSeq [⟨1, .load⟩, ⟨4, .load⟩]
    dirOf 3 = none ∧ dirOf 1 = some .load ∧ dirOf 2 = some .discharge
    ∧ readyB s .l0 (.insertInSequence 2 2 0) = true ∧ findLot s.cond.lots 600 = none
    ∧ findLot s.cond.lots 4 = some (3, lot 4 (.lifting .planned .load true false) false none)
    ∧ findLot s.cond.lots 1 = some (0, lot 1 .planned false none) ∧ (∃ e ∈ s.cond.seq, e.lot = 1)
    ∧ findLot s.cond.lots 2 = some (1, lot 2 .aboard true (some 61800)) ∧ (∀ e ∈ s.cond.seq, e.lot ≠ 2)
    ∧ findLot s.cond.lots 3 = some (2, lot 3 .aboard false none) ∧ (∀ e ∈ s.cond.seq, e.lot ≠ 3)
    ∧ readyB s .l0 (.removeFromSequence 1) = true ∧ lotIsLifting s.cond.lots 4 = true
    ∧ (∃ e ∈ s.cond.seq, e.lot = 4) ∧ lotIsLifting s.cond.lots 1 = false := by decide +kernel

/-- Tank 4 holds 256,250 kg at 1,025. -/
theorem test_witness_tanks :
    let busy := transfer (.requested .none 49000)
    readyB service .l0 (.setTankManual 4 256250 1025) = true ∧ densityOk 1025 = true ∧ densityOk 0 = false
    ∧ tget testShip.tanks 5 = none ∧ tget testShip.tanks 4 = some ⟨0, 250000, 50000, -6000, 0, 2000, 0⟩
    ∧ 250000 * 1025 / 1000 < 256251 ∧ 256250 ≤ 250000 * 1025 / 1000
    ∧ (service.tankRow 4).transfer = none ∧ (busy.tankRow 4).transfer.isSome = true
    ∧ readyB busy .l0 (.setTankManual 4 1 1025) = true
    ∧ readyB service .l0 (.setTankTarget 4 (some ⟨256250, 1025⟩)) = true
    ∧ readyB service .l0 (.setTankTarget 4 none) = true ∧ (service.tankRow 4).target = none := by decide +kernel

/-- Depths 0, 1, 2 and 4. -/
theorem test_witness_trial :
    let deep := fun n => { service with frames := List.replicate n ([] : List Move) }
    readyB (deep 3) .l0 .openFrame = true ∧ (deep 3).frames.length < 4 ∧ 4 ≤ (deep 4).frames.length
    ∧ readyB (deep 2) .l0 .dropFrame = true ∧ 2 ≤ (deep 2).frames.length ∧ (deep 1).frames.length = 1
    ∧ (deep 0).frames = [] ∧ readyB (deep 2) .l0 .foldFrame = true ∧ (deep 2).frames = [] ++ [[], []]
    ∧ (deep 1).frames = [[]] ∧ (match foldMoves service.cond 0 [] with | .ok _ => true | .error _ => false) = true
    ∧ (match foldMoves service.cond 0 [⟨.unplan 1, .planned 1 place none⟩] with
      | .ok _ => false
      | .error _ => true) = true := by decide +kernel

/-- 63 and 64 entries in use; a lot PLANNED, a lot ABOARD and no lot; a tank written and not. -/
theorem test_witness_moves :
    let v : View := ⟨service.cond.lots, service.cond.tanks⟩
    let unplan := fun id => w (2 :: 0 :: id :: List.replicate 25 0)
    let plan := w ([1, 0, 9, 0, 0, 3, 0, 0, 0, 1] ++ List.replicate 18 0)
    let target := fun t => w ([3, 0, 0, t, 0] ++ List.replicate 23 0)
    moveOf (w (9 :: List.replicate 27 0)) = none ∧ moveOf (unplan 1) = some (.unplan 1)
    ∧ moveValuesOk testShip (.unplan 1) = true ∧ moveValuesOk testShip (.unplan 0) = false
    ∧ moveOf (unplan 0) = some (.unplan 0)
    ∧ findLot v.lots 1 = some (0, lot 1 .planned false none) ∧ findLot v.lots 3 = some (2, lot 3 .aboard false none)
    ∧ findLot v.lots 9 = none ∧ moveValuesOk testShip (.unplan 9) = true
    ∧ moveOf plan = some (.plan 9 1 ⟨⟨0, 0, 0⟩, 3⟩ none)
    ∧ moveValuesOk testShip (.plan 9 1 ⟨⟨0, 0, 0⟩, 3⟩ none) = true
    ∧ moveOf (target 4) = some (.tankTarget 4 none) ∧ moveValuesOk testShip (.tankTarget 4 none) = true
    ∧ tget testShip.tanks 5 = none ∧ (tget testShip.tanks 4).isSome = true ∧ (63 : Nat) < 64 ∧ (64 : Nat) ≤ 64
    ∧ movesOf (0#8 :: unplan 1) = none ∧ movesOf (1#8 :: unplan 1) = some [unplan 1]
    ∧ readyB service .l0 (.addMoves (1#8 :: unplan 1)) = true
    ∧ ({ service with frames := [[]] } : State).frames = [] ++ [[]] := by decide +kernel

/-- R81, R83: the drop of the last frame abandons a TRIAL pass in flight. -/
theorem test_trial_pass_abandoned :
    let s := { passing .trial with frames := [[]] }
    let t := run (.dropFrame .l0 3) s
    readyB s .l0 .dropFrame = true ∧ s.frames.length = 1 ∧ s.eval.unit ≠ .idle ∧ t.eval.unit = .idle
    ∧ t.eval.trial.dirty = true := by decide +kernel

/-- One batch move that passes and one that fails. -/
theorem test_witness_batches :
    let unplan := fun id => w (2 :: 0 :: id :: List.replicate 25 0)
    (match checkMove testShip (replay service.cond [[]]) 0 (unplan 1) with
      | .ok m => decide (m = ⟨.unplan 1, .planned 60000 place none⟩)
      | .error _ => false) = true
    ∧ (match checkMove testShip (replay service.cond [[]]) 0 (unplan 3) with
      | .ok _ => false
      | .error e => decide (e = .state)) = true ∧ ([[]] : List (List Move)) = [] ++ [[]] := by decide +kernel

/-- Each cause of a fold's failure: LOT_STATE, LOT_VALUES, TANK_TRANSFER, TANK_TARGET, and no FREE slot. -/
theorem test_witness_folds :
    let c := service.cond
    let busy := (transfer (.requested .none 49000)).cond
    let fold := fun (c : Condition) (m : Move) => match foldMove c m with
      | .ok _ => none
      | .error e => some e
    findLot c.lots 1 = some (0, lot 1 .planned false none) ∧ findLot c.lots 9 = none ∧ freeSlot c.lots = some 4
    ∧ freeSlot fullTable = none ∧ findLot fullTable 620 = none
    ∧ fold c ⟨.plan 1 1 place none, .absent⟩ = some ⟨.conflict, 1⟩ ∧ fold c ⟨.plan 9 1 place none, .absent⟩ = none
    ∧ fold c ⟨.unplan 1, .planned 60001 place none⟩ = some ⟨.conflict, 2⟩
    ∧ fold c ⟨.unplan 1, .planned 60000 place none⟩ = none
    ∧ fold busy ⟨.tankTarget 4 none, .tank none⟩ = some ⟨.conflict, 3⟩
    ∧ fold c ⟨.tankTarget 4 none, .tank (some ⟨1, 1025⟩)⟩ = some ⟨.conflict, 4⟩
    ∧ fold c ⟨.tankTarget 4 none, .tank none⟩ = none := by decide +kernel

/-- Part 3 with 32 and 33 pressures, page 5 and page 6 of a list. -/
theorem test_witness_readouts :
    readyB service .l0 (.readResults 0 3 1 1) = true ∧ ctxOf 3 = none ∧ ctxOf 2 = some .trial ∧ (3 : Nat) < 4
    ∧ readyB service .l1 (.readResults 2 0 0 0) = true ∧ readyB service .l1 (.readResults 0 0 0 0) = true
    ∧ (List.range 32).length ≤ 32 * 1 ∧ 32 * 1 < (List.range 33).length
    ∧ readyB service .l0 (.readViolations 0 5) = true ∧ readyB service .l0 (.readViolations 0 6) = true
    ∧ (listOf service .actual).entries.length ≤ 8 * 1
    ∧ readyB service .l0 .readRecords = true ∧ readyB service .l1 .readLiftStatus = true
    ∧ readyB service .l3 (.readTransfers 0) = true ∧ readyB service .l3 (.readTransfers 1) = true
    ∧ readyB service .l3 (.readTransfers 2) = true ∧ readyB service .l0 .acknowledgeRecords = true := by decide +kernel

theorem test_witness_suspension :
    let held := { service with monitor := { service.monitor with suspension := some ⟨.commanded, 7⟩ } }
    let v : Violation := ⟨.c2, 0, .high, 262, 175⟩
    readyB service .l0 .suspendWork = true ∧ service.monitor.suspension = none ∧ standingClearance service = none
    ∧ readyB held .l0 .suspendWork = true ∧ held.monitor.suspension = some ⟨.commanded, 7⟩
    ∧ readyB (lifting .cleared) .l0 .suspendWork = true
    ∧ standingClearance (lifting .cleared) = some ⟨.one, none⟩
    ∧ readyB held .l0 .resumeWork = true ∧ held.monitor.actual.kept = []
    ∧ [v].find? (fun v => atTrigger held.settings.trigger (held.settings.severity.get v.cls)) = some v
    ∧ readyB pendingWork .l0 .resumeWork = true ∧ pendingWork.monitor.suspension = some ⟨.commanded, 7⟩
    ∧ pendingWork.monitor.actual.kept = [] ∧ GateEntry.lift ⟨.one, none⟩ ∈ pendingWork.gate.queue
    ∧ GateEntry.transfer 12 ∈ pendingWork.gate.queue
    ∧ tget pendingWork.ballast.transfers 12 = some ⟨.sea, .tank 4, 60000, .requested .suspended 49000⟩ := by
  decide +kernel

theorem test_witness_snapshots :
    let q : Snapshot := ⟨0, [], [], []⟩
    let op := { service with snapshotOp := some q }
    let held := { service with snapshot := some q }
    readyB service .l0 .openSnapshot = true ∧ service.snapshotOp = none ∧ readyB op .l0 .openSnapshot = true
    ∧ op.powered = true ∧ readyB op .l0 (.readSnapshotPage 0) = true ∧ readyB service .l0 (.readSnapshotPage 0) = true
    ∧ service.snapshot = none ∧ readyB held .l0 (.readSnapshotPage 0) = true ∧ q.pageCount = 1
    ∧ readyB held .l0 (.readSnapshotPage 1) = true ∧ readyB op .l0 .closeSnapshot = true
    ∧ readyB held .l0 .closeSnapshot = true
    ∧ ((op.onLink .l0 (fun u => { u with outbound := [.reserved .snapshot 0x30#8 2#8] })).links.get .l0).outbound
      = [] ++ OutPlace.reserved .snapshot 0x30#8 2#8 :: [] := by decide +kernel

/-- Pages 78 and 79; an image without a page 0, and the image of an empty condition. -/
theorem test_witness_images :
    let page := (Snapshot.pages ⟨0, [], [], []⟩).getD 0 []
    let s := { service with image := [(0, page)] }
    readyB service .l0 (.writeImagePage 78 (zeroBytes 224)) = true ∧ (zeroBytes 224).length = 224
    ∧ (zeroBytes 223).length ≠ 224 ∧ readyB service .l0 (.writeImagePage 79 (zeroBytes 224)) = true
    ∧ readyB (lifting .requested) .l0 .applyImage = true ∧ ((lifting .requested).liftRec .one).state ≠ .idle
    ∧ readyB s .l0 .applyImage = true ∧ (∀ c ∈ bothCranes, (s.liftRec c).state = .idle) ∧ s.ballast.transfers = []
    ∧ s.frames = [] ∧ (match readImage s.ship s.image with | .ok _ => true | .error _ => false) = true
    ∧ (match readImage s.ship [] with | .ok _ => false | .error _ => true) = true := by decide +kernel

/-- Request Lift: a single request of the head, a lead request with the greatest share, and each refusal. -/
theorem test_witness_request_lift :
    let a : RequestLiftArgs := ⟨1, 1, tip, none, none⟩
    let b : RequestLiftArgs := ⟨1, 1, tip, none, some ⟨2, 59999⟩⟩
    let c : RequestLiftArgs := ⟨1, 1, tip, none, some ⟨2, 60000⟩⟩
    let absent := { service with ship := { testShip with cranes := [(1, ⟨0, 0, tip, tip⟩), (2, ⟨1, 0, tip, tip⟩)] } }
    let strict := { service with settings := { defaultSettings with severity := { defaultSeverities with c13 := .stop } } }
    readyB service .l1 (.requestLift a) = true ∧ liftValuesOk testShip .one a = true
    ∧ liftValuesOk testShip .one b = true ∧ liftValuesOk testShip .one { a with dir := 3 } = false
    ∧ service.craneAbsent .one = false ∧ service.craneAbsent .two = false ∧ absent.craneAbsent .one = true
    ∧ readyB absent .l1 (.requestLift a) = true ∧ liftValuesOk absent.ship .one a = true
    ∧ (service.liftRec .one).state = .idle ∧ ((lifting .cleared).liftRec .one).state ≠ .idle
    ∧ findLot service.cond.lots 1 = some (0, lot 1 .planned false none) ∧ findLot service.cond.lots 600 = none
    ∧ dirOf 1 = some .load ∧ liftable (lot 1 .planned false none) .load = true
    ∧ liftable (lot 3 .aboard false none) .load = false ∧ (59999 : Nat) < 60000 ∧ liftValuesOk testShip .one c = true
    ∧ deviates service 1 = false ∧ deviates service 3 = true ∧ liftable (lot 3 .aboard false none) .discharge = true
    ∧ (strict.settings.severity.get .c13).atLeast strict.settings.gateThreshold = true
    ∧ ((defaultSeverities.get .c13).atLeast defaultSettings.gateThreshold) = false
    ∧ service.gate.queue = [] ∧ readyB strict .l1 (.requestLift { a with lot := 3, dir := 2 }) = true := by
  decide +kernel

theorem test_witness_partner :
    let a : RequestLiftArgs := ⟨4, 1, tip, none, some ⟨1, 30000⟩⟩
    readyB pairing .l2 (.requestLift a) = true ∧ liftValuesOk testShip .two a = true
    ∧ pairing.craneAbsent .two = false ∧ pairing.craneAbsent .one = false ∧ (pairing.liftRec .two).state = .idle
    ∧ findLot pairing.cond.lots 4 = some (3, lot 4 (.lifting .planned .load true false) false none)
    ∧ dirOf a.dir = some .load ∧ a.tandem = some ⟨1, 30000⟩
    ∧ partnerMatches (pairing.liftRec .one) .two 4 .load = true
    ∧ partnerMatches (pairing.liftRec .one) .two 4 .discharge = false
    ∧ (pairing.liftRec .one).share.getD 0 + 30000 = 60000
    ∧ (pairing.liftRec .one).share.getD 0 + 29999 ≠ 60000 := by decide +kernel

/-- Timers one decisecond short of their period, and at it. -/
theorem test_witness_timers :
    let at_ := fun (t : Nat) (s : State) => s.onRec .one (fun r => { r with timer := some (BitVec.ofNat 32 (50000 - t)) })
    readyB (lifting .requested) .l1 .cancelLift = true
    ∧ ((lifting .requested).liftRec .one).state.cancellable = true
    ∧ readyB (lifting .hoisted) .l1 .cancelLift = true ∧ ((lifting .hoisted).liftRec .one).state.cancellable = false
    ∧ timerDue (at_ 600 pairing) .one .pairing 600 = true ∧ timerDue (at_ 599 pairing) .one .pairing 600 = false
    ∧ timerDue (at_ 1200 (lifting .requested)) .one .requested 1200 = true
    ∧ timerDue (at_ 1199 (lifting .requested)) .one .requested 1200 = false
    ∧ timerDue (at_ 3000 (lifting .cleared)) .one .cleared 3000 = true
    ∧ timerDue (at_ 2999 (lifting .cleared)) .one .cleared 3000 = false
    ∧ (lifting .cleared).gate.slot = some ⟨.one, none⟩ ∧ liftOf (lifting .cleared) .one = ⟨.one, none⟩
    ∧ service.gate.slot = none ∧ defaultSettings.pairingTimeout = 600 := by decide +kernel

/-- The hook stale period is 30 ds, the tank stale period 100 ds. -/
theorem test_witness_staleness :
    let granted := transfer (.granted none (some 40000) 49900 0 false)
    let seen := fun (t : Nat) => (lifting .cleared).onRec .one (fun r =>
      { r with lastReport := some (BitVec.ofNat 32 (50000 - t)) })
    craneStaleNow (seen 30) .one = true ∧ (seen 30).gate.stale.get .one = false ∧ craneStaleNow (seen 29) .one = false
    ∧ tankStaleNow { granted with time := 50050 } 4 = true ∧ (granted.tankRow 4).stale = false
    ∧ tankStaleNow { granted with time := 50049 } 4 = false ∧ tankStaleNow granted 7 = false := by decide +kernel

theorem test_witness_hook_reports :
    let absent := { service with ship := { testShip with cranes := [(1, ⟨0, 0, tip, tip⟩)] } }
    readyB service .l1 (.hookReport 5000000 tip) = true ∧ service.craneAbsent .one = false
    ∧ absent.craneAbsent .one = true ∧ readyB absent .l1 (.hookReport 0 tip) = true
    ∧ plausible Config.maxHookLoad tip = true ∧ plausible (Config.maxHookLoad + 1) tip = false
    ∧ (service.liftRec .one).state ∈ [LiftState.idle, .pairing, .requested, .setDown] := by decide +kernel

/-- Load-on at the bound of 54,000 kg and one below it, with counters short of the confirmation count and at it; the
tandem lift with the other crane not confirmed and confirmed. -/
theorem test_witness_load_on :
    let s := lifting .cleared
    let d := (tandem .cleared).onRec .one (LiftRecord.counterAt 2)
    readyB s .l1 (.hookReport 54000 tip) = true ∧ plausible 54000 tip = true ∧ (s.liftRec .one).state = .cleared
    ∧ (s.liftRec .one).role = some .single ∧ (s.liftRec .one).lot = some ⟨4, 3⟩
    ∧ tget s.cond.lots 3 = some (lot 4 (.lifting .planned .load true false) false none)
    ∧ (s.liftRec .one).confirmed = none ∧ 1 ≤ s.settings.confirmCount ∧ 900 * 60000 ≤ 54000 * 1000
    ∧ ¬ 900 * 60000 ≤ 53999 * 1000 ∧ s.settings.confirmCount = 3
    ∧ readyB d .l1 (.hookReport 27000 tip) = true ∧ (d.liftRec .one).state = .cleared
    ∧ (d.liftRec .two).state = .cleared ∧ (d.liftRec .one).role = some .lead ∧ (d.liftRec .two).role = some .partner
    ∧ d.craneAbsent .one = false ∧ (d.liftRec .one).lot = some ⟨4, 3⟩ ∧ (tget d.cond.lots 3).isSome = true
    ∧ plausible 27000 tip = true ∧ (d.liftRec .one).confirmed = none ∧ s.craneAbsent .one = false
    ∧ (d.liftRec .one).other = some .two ∧ (d.liftRec .two).other = some .one ∧ (d.liftRec .one).share = some 30000
    ∧ d.settings.onFraction * 30000 ≤ 27000 * 1000 ∧ d.settings.confirmCount ≤ (d.liftRec .one).counter + 1
    ∧ (d.liftRec .two).confirmed = none
    ∧ ((d.onRec .two (fun r => { r with confirmed := some 31000 })).liftRec .two).confirmed = some 31000 := by
  decide +kernel

/-- The partner's reports of a tandem lift: one short, the first confirmation, and the second. -/
theorem test_witness_tandem_load_on :
    let d := fun n first => ((tandem .cleared).onRec .two (LiftRecord.counterAt n)).onRec .one
      (fun r => { r with confirmed := first })
    let ready := fun s => readyB s .l2 (.hookReport 27000 tip)
    ready (d 1 none) = true ∧ ready (d 2 none) = true ∧ ready (d 2 (some 31000)) = true
    ∧ (d 2 none).craneAbsent .two = false ∧ plausible 27000 tip = true
    ∧ ((d 2 none).liftRec .two).state = .cleared ∧ ((d 2 none).liftRec .one).state = .cleared
    ∧ ((d 2 none).liftRec .one).role = some .lead ∧ ((d 2 none).liftRec .two).role = some .partner
    ∧ ((d 2 none).liftRec .two).share = some 30000 ∧ ((d 2 none).liftRec .one).lot = some ⟨4, 3⟩
    ∧ (tget (d 2 none).cond.lots 3).isSome = true ∧ ((d 2 none).liftRec .two).confirmed = none
    ∧ ((d 2 (some 31000)).liftRec .one).confirmed = some 31000
    ∧ (d 2 none).settings.onFraction * 30000 ≤ 27000 * 1000 ∧ (d 2 none).settings.confirmCount = 3
    ∧ ((d 1 none).liftRec .two).counter = 1 ∧ ((d 2 none).liftRec .two).counter = 2 := by decide +kernel

/-- Load-off of a tandem lift of share 30,000 kg: at 3,000 kg and above it, the first mark and the second, HOISTED and
LOWERING. -/
theorem test_witness_tandem_load_off :
    let d := fun st off => ((tandem st).onRec .one (fun r =>
      { r with offConfirmed := off, landing := some (.aboard place) })).onRec .two (LiftRecord.counterAt 2)
    let meets := fun (s : State) (st : LiftState) => readyB s .l2 (.hookReport 3000 tip) && !s.craneAbsent .two
      && decide ((s.liftRec .two).state = st) && decide ((s.liftRec .one).state = st)
      && decide ((s.liftRec .one).role = some .lead) && decide ((s.liftRec .two).role = some .partner)
      && decide ((s.liftRec .two).share = some 30000) && decide ((s.liftRec .one).lot = some ⟨4, 3⟩)
      && decide ((s.liftRec .one).dir = some .load) && (tget s.cond.lots 3).isSome
      && !(s.liftRec .two).offConfirmed && decide ((s.liftRec .one).landing = some (.aboard place))
    meets (d .hoisted false) .hoisted = true ∧ meets (d .hoisted true) .hoisted = true
    ∧ meets (d .lowering false) .lowering = true ∧ meets (d .lowering true) .lowering = true
    ∧ ((d .hoisted true).liftRec .one).offConfirmed = true ∧ plausible 3000 tip = true
    ∧ 3000 * 1000 ≤ defaultSettings.offFraction * 30000 ∧ ¬ 3001 * 1000 ≤ defaultSettings.offFraction * 30000
    ∧ ((d .hoisted true).liftRec .two).counter + 1 = defaultSettings.confirmCount := by decide +kernel

theorem test_witness_load_off :
    let s := (lifting .hoisted).setLots [(3, lot 4 (.lifting .planned .load true false) false (some 61800))]
    let t := (lifting .lowering).onRec .one (fun r => { r with landing := some (.aboard place) })
    readyB s .l1 (.hookReport 6180 tip) = true ∧ s.craneAbsent .one = false ∧ plausible 6180 tip = true
    ∧ (s.liftRec .one).state = .hoisted ∧ (s.liftRec .one).role = some .single ∧ (s.liftRec .one).lot = some ⟨4, 3⟩
    ∧ (s.liftRec .one).dir = some .load ∧ (tget s.cond.lots 3).isSome = true
    ∧ (s.liftRec .one).offConfirmed = false ∧ 6180 * 1000 ≤ s.settings.offFraction * 61800
    ∧ ¬ 6181 * 1000 ≤ s.settings.offFraction * 61800
    ∧ readyB t .l1 (.hookReport 0 tip) = true ∧ (t.liftRec .one).state = .lowering
    ∧ (t.liftRec .one).landing = some (.aboard place) ∧ (tget t.cond.lots 3).isSome = true
    ∧ t.craneAbsent .one = false ∧ plausible 0 tip = true ∧ (t.liftRec .one).role = some .single
    ∧ (t.liftRec .one).lot = some ⟨4, 3⟩ ∧ (t.liftRec .one).dir = some .load ∧ (t.liftRec .one).offConfirmed = false
    ∧ ((t.onRec .one (LiftRecord.counterAt 2)).liftRec .one).counter = 2 ∧ t.settings.confirmCount ≤ 2 + 1 := by decide +kernel

theorem test_witness_landing :
    readyB (lifting .hoisted) .l1 (.landingReport ⟨true, some place⟩) = true
    ∧ landingOk testShip ⟨true, some place⟩ = true ∧ landingOk testShip ⟨false, none⟩ = true
    ∧ landingOk testShip ⟨true, none⟩ = false ∧ ((lifting .hoisted).liftRec .one).state = .hoisted
    ∧ ((lifting .hoisted).liftRec .one).role = some .single
    ∧ ((lifting .setDown).liftRec .one).state = .setDown ∧ ((lifting .setDown).liftRec .one).role = some .single
    ∧ readyB (lifting .setDown) .l1 (.landingReport ⟨false, none⟩) = true
    ∧ ((tandem .hoisted).liftRec .two).role = some .partner ∧ ((tandem .hoisted).liftRec .two).state = .hoisted
    ∧ readyB (tandem .hoisted) .l2 (.landingReport ⟨false, none⟩) = true
    ∧ (service.liftRec .one).state ≠ .hoisted ∧ (service.liftRec .one).state ≠ .setDown
    ∧ (lifting .setDown).gate.slot = some ⟨.one, none⟩
    ∧ readyB (tandem .hoisted) .l1 (.landingReport ⟨true, some place⟩) = true
    ∧ ((tandem .hoisted).liftRec .one).role = some .lead ∧ ((tandem .hoisted).liftRec .one).state = .hoisted
    ∧ readyB (tandem .setDown) .l1 (.landingReport ⟨false, none⟩) = true
    ∧ ((tandem .setDown).liftRec .one).state = .setDown ∧ ((tandem .setDown).liftRec .one).lot = some ⟨4, 3⟩
    ∧ ((tandem .setDown).liftRec .one).dir = some .load ∧ (tget (tandem .setDown).cond.lots 3).isSome = true := by
  decide +kernel

/-- A reading at the capacity mass of 256,250 kg and one above it. -/
theorem test_witness_tank_reports :
    let p := w [1, 4, 0, 3, 0xE8, 0xFA, 4, 1]
    readyB service .l3 (.tankReport p) = true ∧ readingsOf p = some [⟨4, 256250, 1025⟩]
    ∧ readingsOf (w [0, 4, 0, 3, 0xE8, 0xFA, 4, 1]) = none ∧ densityOk 1025 = true ∧ densityOk 2500 = false
    ∧ (let two := w [2, 4, 0, 0, 0, 9, 4, 1, 4, 0, 0, 0, 8, 4, 1]
      readyB service .l3 (.tankReport two) = true ∧ readingsOf two = some [⟨4, 9, 1025⟩, ⟨4, 8, 1025⟩]
      ∧ ((run (.tankReport .l3 0 two) service).tankRow 4).contents = 8)
    ∧ tget testShip.tanks 5 = none ∧ (tget testShip.tanks 4).isSome = true ∧ grantedFor service 4 = none
    ∧ ¬ 250000 * 1025 / 1000 < 256250 ∧ 250000 * 1025 / 1000 < 256251 := by decide +kernel

/-- The overrun bound of 60,000 kg at 20 ‰ is 61,200 kg. -/
theorem test_witness_measured :
    let s := transfer (.granted none (some 40000) 49900 0 false)
    (s.tankRow 4).transfer = some 12
    ∧ tget s.ballast.transfers 12 = some ⟨.sea, .tank 4, 60000, .granted none (some 40000) 49900 0 false⟩
    ∧ ¬ 60000 * (1000 + s.settings.overrunTol) < 61200 * 1000 ∧ 60000 * (1000 + s.settings.overrunTol) < 61201 * 1000
    ∧ readyB s .l3 (.tankReport (w [1, 4, 0, 1, 0x8B, 0x51, 4, 1])) = true
    ∧ readingsOf (w [1, 4, 0, 1, 0x8B, 0x51, 4, 1]) = some [⟨4, 101201, 1025⟩] ∧ densityOk 1025 = true
    ∧ (tget testShip.tanks 4).isSome = true := by
  decide +kernel

/-- R168: 101,201 kg in tank 4, which began at 40,000 kg, is 61,201 kg moved, the first amount past the bound. -/
theorem test_measured_report :
    let s := transfer (.granted none (some 40000) 49900 0 false)
    let t := run (.tankReport .l3 0 (w [1, 4, 0, 1, 0x8B, 0x51, 4, 1])) s
    (tget t.ballast.transfers 12).map Transfer.phase = some (.granted none (some 40000) 49900 61201 true)
    ∧ t.links.l3.notices.getLsbD Event.transfer.bit = true ∧ t.links.l0.notices.getLsbD Event.transfer.bit = true := by
  decide +kernel

/-- Request Transfer: the free capacity of tank 4 is 216,250 kg; a table of three and of four. -/
theorem test_witness_request_transfer :
    let four := service.setTransfers ((List.range 4).map (fun k =>
      (k + 1, ⟨.sea, .tank 7, 1, .requested .none 49000⟩)))
    readyB service .l3 (.requestTransfer 255 4 216250) = true ∧ endOf 255 = some .sea ∧ endOf 4 = some (.tank 4)
    ∧ endOf 48 = none ∧ endOf 47 = some (.tank 47) ∧ End.sea ≠ End.tank 4
    ∧ Transfer.tankEnds ⟨.sea, .tank 4, 1, .requested .none 0⟩ = [4] ∧ tget testShip.tanks 47 = none
    ∧ (service.tankRow 4).source = .gauged ∧ (service.tankRow 4).transfer = none ∧ (service.tankRow 7).source ≠ .gauged
    ∧ amountsOk service .sea (.tank 4) 216250 = true ∧ amountsOk service .sea (.tank 4) 216251 = false
    ∧ service.ballast.transfers.length < 4 ∧ 4 ≤ four.ballast.transfers.length
    ∧ readyB four .l3 (.requestTransfer 255 4 1) = true ∧ amountsOk four .sea (.tank 4) 1 = true := by decide +kernel

theorem test_witness_transfers_end :
    let q := transfer (.requested .stale 48800)
    let g := transfer (.granted none (some 40000) 49900 7 false)
    tget q.ballast.transfers 12 = some ⟨.sea, .tank 4, 60000, .requested .stale 48800⟩ ∧ q.powered = true
    ∧ q.settings.requestTimeout ≤ age q.time 48800 ∧ age q.time 48801 < q.settings.requestTimeout
    ∧ readyB q .l3 (.cancelTransfer 12) = true ∧ readyB q .l3 (.endTransfer 12) = true
    ∧ tget g.ballast.transfers 13 = none ∧ readyB g .l3 (.endTransfer 13) = true
    ∧ tget g.ballast.transfers 12 = some ⟨.sea, .tank 4, 60000, .granted none (some 40000) 49900 7 false⟩
    ∧ GateEntry.transfer 12 ∉ g.gate.queue ∧ readyB g .l3 (.endTransfer 12) = true
    ∧ readyB g .l3 (.cancelTransfer 12) = true := by decide +kernel

theorem test_witness_evaluation :
    correctBuoyancy [1, 2] 1025 5 = some [2, 3] ∧ 2 ≤ caseXs.length
    ∧ [300000, 450000, 550000, 600000, 600000, 580000, 520000, 400000].length = caseXs.length - 1
    ∧ sumBy (fun i => if i.isLightship then (i.mass : Int) else 0) caseItems = 4000000
    ∧ (∀ i ∈ caseItems, itemSection caseXs i < caseXs.length - 1)
    ∧ (hydroRows caseShip).getLast?.map HydroRow.disp = some 4600000
    ∧ (4600000 : Int) < (evaluate caseShip 1000 0 false caseItems).wStd.val
    ∧ (evaluate caseShip 1025 0 false caseItems).trim.cls = .valid := by decide +kernel

theorem test_witness_publications :
    (passing .plan).powered = true ∧ (passing .plan).eval.unit
      = .pass ⟨.plan, 0, caseItems, 1025, .harbour, defaultHarbour, false, []⟩
    ∧ (passing .actual).eval.unit = .pass ⟨.actual, 0, caseItems, 1025, .harbour, defaultHarbour, false, []⟩
    ∧ service.eval.unit = .idle ∧ service.monitor.suspension = none
    ∧ ([⟨.c1, 0, .low, 284, 300⟩, ⟨.c2, 0, .high, 262, 175⟩] : List Violation).Pairwise
      (fun a b => a.samePair b = false)
    ∧ service.monitor.first = none ∧ (65534 : Nat) < 65535 ∧ service.monitor.stopCount ≤ 65535 := by decide +kernel

/-- R117: two newly appearing STOP violations fill FIRST and NEXT in order. -/
theorem test_publication_records :
    let events : List Violation := [⟨.c12, 1, .event, 31, 30⟩, ⟨.c16, 12, .high, 61201, 60000⟩]
    let stops := { defaultSeverities with
      c2 := .caution, c7 := .caution, c8 := .caution, c11 := .caution, c12 := .stop, c16 := .stop }
    let s := { service with
      settings := { defaultSettings with severity := stops }
      eval := { service.eval with unit := .pass ⟨.actual, 0, caseItems, 1025, .harbour, defaultHarbour, false, events⟩ } }
    let t := run .publication s
    t.monitor.first.map (fun r => r.viol.cls) = some .c12 ∧ t.monitor.next.map (fun r => r.viol.cls) = some .c16
    ∧ t.monitor.stopCount = 2 ∧ t.links.l3.notices.getLsbD Event.record.bit = true := by decide +kernel

/-- A lift prediction that grants, one stopped by the window; the re-check of a clearance; discarded predictions. -/
theorem test_witness_predictions :
    let fresh := (lifting .requested).onRec .one (fun r => { r with lastReport := some 50000 })
    let opened := { fresh with gate := { fresh.gate with window := true } }
    (predicting (.lift .one) .hook opened).powered = true
    ∧ liftStop opened (liftOf opened .one) false = none ∧ liftStop fresh (liftOf fresh .one) false = some .window
    ∧ (opened.liftRec .one).state = .requested ∧ GateEntry.lift (liftOf opened .one) ∈ opened.gate.queue
    ∧ (lifting .cleared).gate.slot = some ⟨.one, none⟩ ∧ ((lifting .cleared).liftRec .one).state = .cleared
    ∧ ((lifting .cleared).liftRec .one).lot = some ⟨4, 3⟩ ∧ (tget (lifting .cleared).cond.lots 3).isSome = true
    ∧ (opened.liftRec .one).lot = some ⟨4, 3⟩ ∧ (tget opened.cond.lots 3).isSome = true
    ∧ Phase.landed ≠ .hook
    ∧ ({ opened with eval := { opened.eval with actual := { opened.eval.actual with gen := 1 } } } : State).eval.actual.gen
      ≠ 0#32 := by decide +kernel

/-- R123: a smaller excess is an improvement, a greater one, an equal one alone and a new STOP pair are not corrective,
and an UNORDERED pair that stays is unchanged. -/
theorem test_corrective :
    let m := { defaultSeverities with c1 := .stop, c2 := .stop, c3 := .stop }
    let heel := fun (o : VOutcome) (v l : Int) => (⟨.c2, 0, o, v, l⟩ : Violation)
    corrective m [heel .high 262 175] [heel .low (-261) (-175)] = true
    ∧ corrective m [heel .high 262 175] [heel .high 262 175] = false
    ∧ corrective m [heel .high 262 175] [heel .high 263 175] = false
    ∧ corrective m [heel .high 262 175] [] = true ∧ corrective m [] [] = false
    ∧ corrective m [heel .high 262 175] [⟨.c1, 0, .low, 1, 300⟩] = false
    ∧ corrective m [heel .high 262 175, ⟨.c3, 0, .unordered, -1, 0⟩] [⟨.c3, 0, .unordered, -9, 0⟩] = true := by
  decide +kernel

theorem test_witness_transfer_prediction :
    let s := (transfer (.requested .none 49000)).setQueue [.transfer 12]
    let held := { s with monitor := { s.monitor with suspension := some ⟨.commanded, 7⟩ } }
    tget s.ballast.transfers 12 = some ⟨.sea, .tank 4, 60000, .requested .none 49000⟩
    ∧ GateEntry.transfer 12 ∈ s.gate.queue ∧ s.powered = true ∧ tankFresh s 4 = true
    ∧ tankFresh { s with time := 50050 } 4 = false ∧ s.suspended = false ∧ held.suspended = true
    ∧ blocking s.settings [] = none ∧ blocking s.settings [⟨.c1, 0, .low, 284, 300⟩] = some .c1 := by decide +kernel

end Sys2Proof.Tests
end

section
/-! What the bodies of the station requests leave of the mode, the stored sets, the working ship data and the settings:
for all but a few requests, all of it. -/

namespace Sys2Proof.Machine

/-! ### What the stores' invariant reads -/

/-- The part of a state that `storesSound` reads: the mode, the stored sets, the working ship data and settings. -/
def State.stores (s : State) : Mode × Nvm × ShipData × Settings := (s.mode, s.nvm, s.ship, s.settings)

theorem storesSound_of_stores {s t : State} (h : t.stores = s.stores) : storesSound t = storesSound s := by
  simp only [State.stores, Prod.mk.injEq] at h
  obtain ⟨hm, hn, hd, hw⟩ := h
  simp only [storesSound, hm, hn, hd, hw]

@[simp] theorem onLink_stores (l : Link) (f : LinkUnit → LinkUnit) (s : State) : (s.onLink l f).stores = s.stores := rfl
@[simp] theorem latch_stores (e : Event) (l : Link) (s : State) : (latch e l s).stores = s.stores := rfl
@[simp] theorem latchOn_stores (e : Event) (ls : List Link) (s : State) : (latchOn e ls s).stores = s.stores := by
  simp [State.stores]
@[simp] theorem latchLift_stores (cs : List CraneId) (s : State) : (latchLift cs s).stores = s.stores := by
  simp [State.stores]
@[simp] theorem latchTransfer_stores (s : State) : (latchTransfer s).stores = s.stores := by simp [State.stores]
@[simp] theorem settle_stores (s : State) : (settle s).stores = s.stores := by simp [State.stores]
@[simp] theorem onRec_stores (c : CraneId) (f : LiftRecord → LiftRecord) (s : State) :
    (s.onRec c f).stores = s.stores := rfl
@[simp] theorem onRecs_stores (cs : List CraneId) (f : LiftRecord → LiftRecord) (s : State) :
    (s.onRecs cs f).stores = s.stores := by simp [State.stores]
@[simp] theorem setStale_stores (c : CraneId) (b : Bool) (s : State) : (s.setStale c b).stores = s.stores := rfl
@[simp] theorem clearStale_stores (cs : List CraneId) (s : State) : (clearStale cs s).stores = s.stores := by
  simp [State.stores]
@[simp] theorem setQueue_stores (q : List GateEntry) (s : State) : (s.setQueue q).stores = s.stores := rfl
@[simp] theorem setLots_stores (t : Table Lot) (s : State) : (s.setLots t).stores = s.stores := rfl
@[simp] theorem setSeq_stores (q : List SeqEntry) (s : State) : (s.setSeq q).stores = s.stores := rfl
@[simp] theorem setTankRow_stores (t : Nat) (r : TankRow) (s : State) : (s.setTankRow t r).stores = s.stores := rfl
@[simp] theorem setHook_stores (c : CraneId) (h : HookItem) (s : State) : (s.setHook c h).stores = s.stores := rfl
@[simp] theorem setTransfers_stores (t : Table Transfer) (s : State) : (s.setTransfers t).stores = s.stores := rfl
@[simp] theorem onLiftLot_stores (r : LiftRef) (f : Lot → Lot) (s : State) : (s.onLiftLot r f).stores = s.stores := by
  simp [State.stores]
@[simp] theorem withdrawDemand_stores (k : DemandKey) (s : State) : (withdrawDemand k s).stores = s.stores := rfl
@[simp] theorem postDemand_stores (k : DemandKey) (s : State) : (postDemand k s).stores = s.stores := by
  simp [State.stores]
@[simp] theorem advanceActual_stores (s : State) : (advanceActual s).stores = s.stores := rfl
@[simp] theorem advanceTrial_stores (s : State) : (advanceTrial s).stores = s.stores := rfl
@[simp] theorem advancePlan_stores (s : State) : (advancePlan s).stores = s.stores := by simp [State.stores]
@[simp] theorem advance_stores (a p : Bool) (s : State) : (advance a p s).stores = s.stores := by simp [State.stores]
@[simp] theorem advanceAllContexts_stores (s : State) : (advanceAllContexts s).stores = s.stores := rfl
@[simp] theorem decisionRound_stores (s : State) : (decisionRound s).stores = s.stores := by simp [State.stores]
@[simp] theorem releaseLift_stores (r : LiftRef) (k : EndKind) (s : State) :
    (releaseLift r k s).stores = s.stores := by simp [State.stores]
@[simp] theorem completeLift_stores (r : LiftRef) (s : State) : (completeLift r s).stores = s.stores := by
  simp [State.stores]
@[simp] theorem withdrawClearance_stores (r : LiftRef) (p : Pending) (s : State) :
    (withdrawClearance r p s).stores = s.stores := by simp [State.stores]
@[simp] theorem enterSuspension_stores (c : SuspendCause) (s : State) : (enterSuspension c s).stores = s.stores := by
  simp [State.stores]
@[simp] theorem endSuspension_stores (s : State) : (endSuspension s).stores = s.stores := by simp [State.stores]
@[simp] theorem grantLift_stores (r : LiftRef) (s : State) : (grantLift r s).stores = s.stores := by
  simp [State.stores]
@[simp] theorem removeTransfer_stores (id : Nat) (t : Transfer) (k : EndKind) (s : State) :
    (removeTransfer id t k s).stores = s.stores := by simp [State.stores]
@[simp] theorem grantTransfer_stores (id : Nat) (t : Transfer) (s : State) :
    (grantTransfer id t s).stores = s.stores := by simp [State.stores]
@[simp] theorem setTransferReason_stores (id : Nat) (p : Pending) (s : State) :
    (setTransferReason id p s).stores = s.stores := by simp [State.stores]

/-! ### The answers -/

@[simp] theorem refuse_state (st : Status) (s : State) : (refuse st s).1 = s := rfl
@[simp] theorem doneWith_state (s : State) : (doneWith s).1 = s := rfl
@[simp] theorem doneWith2_state (n : Nat) (s : State) : (doneWith2 n s).1 = s := rfl

/-! ### Ship data, settings and lines that are read -/

@[simp] theorem bodyReadShipData_stores (b i : Nat) (s : State) : (bodyReadShipData b i s).1.stores = s.stores := by
  unfold bodyReadShipData
  repeat' split
  all_goals rfl

@[simp] theorem bodyReadSetting_stores (n : Nat) (s : State) : (bodyReadSetting n s).1.stores = s.stores := by
  unfold bodyReadSetting
  repeat' split
  all_goals rfl

@[simp] theorem bodyClearLineStatus_stores (n : Nat) (s : State) : (bodyClearLineStatus n s).1.stores = s.stores := by
  unfold bodyClearLineStatus
  repeat' split
  all_goals rfl

/-! ### Lots, sequence, tanks -/

theorem namedLot_stores {id : Nat} {s : State} {f : Nat → Lot → State × Answer}
    (h : ∀ n k, (f n k).1.stores = s.stores) : (namedLot id s f).1.stores = s.stores := by
  unfold namedLot
  split
  · rfl
  · split
    · rfl
    · exact h _ _

@[simp] theorem discardLot_stores (n id : Nat) (d : Direction) (s : State) :
    (discardLot n id d s).stores = s.stores := rfl

@[simp] theorem bodyPlanLot_stores (a : PlanLotArgs) (s : State) : (bodyPlanLot a s).1.stores = s.stores := by
  unfold bodyPlanLot
  repeat' split
  all_goals simp

@[simp] theorem bodyUnplanLot_stores (id : Nat) (s : State) : (bodyUnplanLot id s).1.stores = s.stores :=
  namedLot_stores fun n k => by split <;> simp

@[simp] theorem bodyPlaceLot_stores (a : PlaceLotArgs) (s : State) : (bodyPlaceLot a s).1.stores = s.stores := by
  unfold bodyPlaceLot
  repeat' split
  all_goals simp

@[simp] theorem bodyRemoveLot_stores (id : Nat) (s : State) : (bodyRemoveLot id s).1.stores = s.stores :=
  namedLot_stores fun n k => by split <;> simp

@[simp] theorem bodyMarkDischarge_stores (id : Nat) (s : State) : (bodyMarkDischarge id s).1.stores = s.stores :=
  namedLot_stores fun n k => by
    repeat' split
    all_goals simp

@[simp] theorem bodyUnmarkDischarge_stores (id : Nat) (s : State) : (bodyUnmarkDischarge id s).1.stores = s.stores :=
  namedLot_stores fun n k => by
    repeat' split
    all_goals simp

@[simp] theorem bodyAcceptWeight_stores (id : Nat) (s : State) : (bodyAcceptWeight id s).1.stores = s.stores :=
  namedLot_stores fun n k => by
    repeat' split
    all_goals simp

@[simp] theorem bodyReadLot_stores (id : Nat) (s : State) : (bodyReadLot id s).1.stores = s.stores := by
  unfold bodyReadLot
  repeat' split
  all_goals simp

@[simp] theorem bodyQuerySlot_stores (n : Nat) (s : State) : (bodyQuerySlot n s).1.stores = s.stores := by
  unfold bodyQuerySlot
  repeat' split
  all_goals simp

@[simp] theorem bodyInsertInSequence_stores (n d p : Nat) (s : State) :
    (bodyInsertInSequence n d p s).1.stores = s.stores := by
  unfold bodyInsertInSequence
  repeat' split
  all_goals simp

@[simp] theorem bodyRemoveFromSequence_stores (n : Nat) (s : State) :
    (bodyRemoveFromSequence n s).1.stores = s.stores := by
  unfold bodyRemoveFromSequence
  repeat' split
  all_goals simp

@[simp] theorem bodyReadSequence_stores (n : Nat) (s : State) : (bodyReadSequence n s).1.stores = s.stores := by
  unfold bodyReadSequence
  repeat' split
  all_goals simp

@[simp] theorem bodySetTankManual_stores (t c d : Nat) (s : State) :
    (bodySetTankManual t c d s).1.stores = s.stores := by
  unfold bodySetTankManual
  repeat' split
  all_goals simp

@[simp] theorem bodySetTankTarget_stores (t : Nat) (g : Option Target) (s : State) :
    (bodySetTankTarget t g s).1.stores = s.stores := by
  unfold bodySetTankTarget
  repeat' split
  all_goals simp

/-! ### The trial stack -/

@[simp] theorem stackFault_stores (b : List Byte) (k : Nat) (s : State) : (stackFault b k s).1.stores = s.stores := rfl
@[simp] theorem stackDone_state (s : State) : (stackDone s).1 = s := rfl
@[simp] theorem emptyTrial_stores (s : State) : (emptyTrial s).stores = s.stores := rfl
@[simp] theorem changeStack_stores (f : List (List Move)) (s : State) : (changeStack f s).stores = s.stores := by
  unfold changeStack
  dsimp only
  split <;> rfl

@[simp] theorem bodyOpenFrame_stores (s : State) : (bodyOpenFrame s).1.stores = s.stores := by
  unfold bodyOpenFrame
  repeat' split
  all_goals simp

@[simp] theorem bodyAddMoves_stores (p : List Byte) (s : State) : (bodyAddMoves p s).1.stores = s.stores := by
  unfold bodyAddMoves
  dsimp only
  repeat' split
  all_goals simp

@[simp] theorem bodyDropFrame_stores (s : State) : (bodyDropFrame s).1.stores = s.stores := by
  unfold bodyDropFrame
  repeat' split
  all_goals simp

theorem foldIntoPlan_stores (ms : List Move) (s : State) : (foldIntoPlan ms s).1.stores = s.stores := by
  unfold foldIntoPlan
  split
  · rfl
  · simp only [stackDone_state, changeStack_stores]
    split <;> rfl

@[simp] theorem bodyFoldFrame_stores (s : State) : (bodyFoldFrame s).1.stores = s.stores := by
  unfold bodyFoldFrame
  split
  · rfl
  · exact foldIntoPlan_stores _ s
  · simp

/-! ### Readouts and suspension -/

@[simp] theorem clearSticky_stores (x : Ctx) (s : State) : (clearSticky x s).stores = s.stores := rfl

@[simp] theorem bodyReadResults_stores (l : Link) (x p n c : Nat) (s : State) :
    (bodyReadResults l x p n c s).1.stores = s.stores := by
  unfold bodyReadResults
  repeat' split
  all_goals simp

@[simp] theorem bodyReadViolations_stores (x p : Nat) (s : State) : (bodyReadViolations x p s).1.stores = s.stores := by
  unfold bodyReadViolations
  repeat' split
  all_goals simp

@[simp] theorem bodyReadRecords_stores (s : State) : (bodyReadRecords s).1.stores = s.stores := rfl
@[simp] theorem bodyAcknowledgeRecords_stores (s : State) : (bodyAcknowledgeRecords s).1.stores = s.stores := rfl

@[simp] theorem bodySuspendWork_stores (s : State) : (bodySuspendWork s).1.stores = s.stores := by
  unfold bodySuspendWork
  repeat' split
  all_goals simp

@[simp] theorem bodyResumeWork_stores (s : State) : (bodyResumeWork s).1.stores = s.stores := by
  unfold bodyResumeWork
  repeat' split
  all_goals simp

/-! ### Snapshots and images -/

@[simp] theorem startSnapshot_stores (s : State) : (startSnapshot s).stores = s.stores := rfl
@[simp] theorem applyImage_stores (c : ImageContents) (s : State) : (applyImage c s).stores = s.stores := rfl

@[simp] theorem bodyOpenSnapshot_stores (s : State) : (bodyOpenSnapshot s).1.stores = s.stores := by
  unfold bodyOpenSnapshot
  repeat' split
  all_goals simp

@[simp] theorem bodyReadSnapshotPage_stores (p : Nat) (s : State) : (bodyReadSnapshotPage p s).1.stores = s.stores := by
  unfold bodyReadSnapshotPage
  repeat' split
  all_goals simp

@[simp] theorem bodyCloseSnapshot_stores (s : State) : (bodyCloseSnapshot s).1.stores = s.stores := by
  unfold bodyCloseSnapshot
  repeat' split
  all_goals rfl

@[simp] theorem bodyWriteImagePage_stores (p : Nat) (d : List Byte) (s : State) :
    (bodyWriteImagePage p d s).1.stores = s.stores := by
  unfold bodyWriteImagePage
  repeat' split
  all_goals rfl

@[simp] theorem bodyApplyImage_stores (s : State) : (bodyApplyImage s).1.stores = s.stores := by
  unfold bodyApplyImage
  repeat' split
  all_goals simp

/-! ### Lifts -/

theorem acceptLift_stores (c : CraneId) (a : RequestLiftArgs) (d : Direction) (n : Nat) (k : Lot) (s : State) :
    (acceptLift c a d n k s).1.stores = s.stores := by
  unfold acceptLift
  dsimp only
  split <;> simp

theorem judgeLift_stores (c : CraneId) (a : RequestLiftArgs) (d : Direction) (n : Nat) (k : Lot) (s : State) :
    (judgeLift c a d n k s).1.stores = s.stores := by
  unfold judgeLift
  repeat' split
  all_goals simp [acceptLift_stores]

theorem joinLift_stores (c : CraneId) (a : RequestLiftArgs) (t : TandemArgs) (d : Direction) (n : Nat) (k : Lot)
    (s : State) : (joinLift c a t d n k s).1.stores = s.stores := by
  unfold joinLift
  dsimp only
  repeat' split
  all_goals simp

@[simp] theorem bodyRequestLift_stores (l : Link) (a : RequestLiftArgs) (s : State) :
    (bodyRequestLift l a s).1.stores = s.stores := by
  unfold bodyRequestLift
  dsimp only
  repeat' split
  all_goals simp [judgeLift_stores, joinLift_stores]

@[simp] theorem bodyCancelLift_stores (l : Link) (s : State) : (bodyCancelLift l s).1.stores = s.stores := by
  unfold bodyCancelLift
  dsimp only
  repeat' split
  all_goals simp

@[simp] theorem moveHook_stores (c : CraneId) (n : Nat) (p : Pos) (s : State) :
    (moveHook c n p s).stores = s.stores := rfl

theorem hoist_stores (r : LiftRef) (m : Nat) (s : State) : (hoist r m s).stores = s.stores := by simp [hoist]

theorem confirmOn_stores (c : CraneId) (n : Nat) (s : State) : (confirmOn c n s).stores = s.stores := by
  unfold confirmOn
  repeat' split
  all_goals simp [hoist_stores]

theorem testLoadOn_stores (c : CraneId) (n : Nat) (s : State) : (testLoadOn c n s).stores = s.stores := by
  unfold testLoadOn
  dsimp only
  repeat' split
  all_goals simp [confirmOn_stores]

theorem liftOff_stores (r : LiftRef) (s : State) : (liftOff r s).stores = s.stores := by
  unfold liftOff
  dsimp only
  split <;> simp

theorem confirmOff_stores (c : CraneId) (s : State) : (confirmOff c s).stores = s.stores := by
  unfold confirmOff
  repeat' split
  all_goals simp [liftOff_stores]

theorem testLoadOff_stores (c : CraneId) (n : Nat) (s : State) : (testLoadOff c n s).stores = s.stores := by
  unfold testLoadOff
  dsimp only
  repeat' split
  all_goals simp [confirmOff_stores]

@[simp] theorem bodyReadLiftStatus_stores (s : State) : (bodyReadLiftStatus s).1.stores = s.stores := rfl

@[simp] theorem bodyHookReport_stores (l : Link) (n : Nat) (p : Pos) (s : State) :
    (bodyHookReport l n p s).1.stores = s.stores := by
  have happly : ∀ c t, (applyReport c n t).stores = t.stores := by
    intro c t
    unfold applyReport
    split
    · exact testLoadOn_stores _ _ _
    · exact testLoadOff_stores _ _ _
    · exact testLoadOff_stores _ _ _
    · rfl
  unfold bodyHookReport
  dsimp only
  repeat' split
  · rfl
  · rfl
  · simp [acceptReport, happly]

@[simp] theorem bodyLandingReport_stores (l : Link) (a : LandingArgs) (s : State) :
    (bodyLandingReport l a s).1.stores = s.stores := by
  unfold bodyLandingReport
  dsimp only
  repeat' split
  all_goals simp [beginLowering]

/-! ### Transfers -/

theorem measure_stores (k : Nat) (s : State) : (measure k s).stores = s.stores := by
  unfold measure
  split
  · rfl
  · split
    · rfl
    · dsimp only
      split <;> simp

theorem takeReading_stores (d : ShipData) (r : Reading) (s : State) : (takeReading d r s).stores = s.stores := by
  unfold takeReading
  split <;> simp [measure_stores]

theorem takeReadings_stores (rs : List Reading) (s : State) : (takeReadings rs s).stores = s.stores := by
  unfold takeReadings
  induction rs generalizing s with
  | nil => rfl
  | cons r rs ih => exact (ih _).trans (takeReading_stores _ r s)

@[simp] theorem bodyTankReport_stores (p : List Byte) (s : State) : (bodyTankReport p s).1.stores = s.stores := by
  unfold bodyTankReport
  dsimp only
  repeat' split
  all_goals simp [takeReadings_stores]

theorem setTankTransfers_stores (v : Option Nat) (ks : List Nat) (s : State) :
    (ks.foldl (setTankTransfer v) s).stores = s.stores := by
  induction ks generalizing s with
  | nil => rfl
  | cons k ks ih => exact ih _

theorem acceptTransfer_stores (a b : End) (n : Nat) (s : State) : (acceptTransfer a b n s).1.stores = s.stores := by
  simp only [acceptTransfer, decisionRound_stores, setQueue_stores, setTankTransfers_stores]
  rfl

@[simp] theorem bodyRequestTransfer_stores (a b n : Nat) (s : State) :
    (bodyRequestTransfer a b n s).1.stores = s.stores := by
  unfold bodyRequestTransfer
  dsimp only
  repeat' split
  all_goals simp [acceptTransfer_stores]

@[simp] theorem bodyEndTransfer_stores (n : Nat) (s : State) : (bodyEndTransfer n s).1.stores = s.stores := by
  unfold bodyEndTransfer
  repeat' split
  all_goals simp [endGranted]

@[simp] theorem bodyCancelTransfer_stores (n : Nat) (s : State) : (bodyCancelTransfer n s).1.stores = s.stores := by
  unfold bodyCancelTransfer
  repeat' split
  all_goals simp [endGranted]

@[simp] theorem bodyReadTransfers_stores (n : Nat) (s : State) : (bodyReadTransfers n s).1.stores = s.stores := by
  unfold bodyReadTransfers
  repeat' split
  all_goals simp

@[simp] theorem bodySetNoticeMask_stores (l : Link) (e m : Nat) (s : State) :
    (bodySetNoticeMask l e m s).1.stores = s.stores := by
  unfold bodySetNoticeMask
  dsimp only
  repeat' split
  all_goals simp

@[simp] theorem bodyReadNotices_stores (l : Link) (s : State) : (bodyReadNotices l s).1.stores = s.stores := rfl

end Sys2Proof.Machine
end

section
/-! The setting items: a write of an item and a read of any, and the ranges that a clamped write keeps; and the ranges
of the ship data's fields. -/

namespace Sys2Proof.Machine

/-! ### Setting items -/

theorem severityMap_get_set (m : SeverityMap) (c d : CheckClass) (v : Severity) :
    (m.set c v).get d = if d = c then v else m.get d := by
  cases c <;> cases d <;> rfl

/-- 11.3: the item codes 0x11 to 0x20 name the classes 1 to 16. -/
theorem classOfItem_eq_some {code : Nat} {c : CheckClass} : classOfItem code = some c ↔ code = c.num + 16 := by
  constructor
  · intro h
    unfold classOfItem at h
    split at h
    · obtain ⟨hlt, hget⟩ := List.getElem?_eq_some_iff.mp h
      have hcode : code < 33 := by simp only [allClasses, List.length_cons, List.length_nil] at hlt; omega
      subst hget
      interval_cases code <;> rfl
    · cases h
  · rintro rfl
    cases c <;> rfl

/-- A write of one item leaves every other item as it was. -/
theorem settingGet_put_other (w : Settings) {code other : Nat} (v : Nat) (h : other ≠ code) :
    settingGet (settingPut w code v) other = settingGet w other := by
  unfold settingPut
  split
  case h_33 =>
    split
    · rename_i c hc
      unfold settingGet
      split
      case h_33 =>
        cases hd : classOfItem other with
        | none => rfl
        | some d =>
          have hne : d ≠ c := by
            rintro rfl
            exact h ((classOfItem_eq_some.mp hd).trans (classOfItem_eq_some.mp hc).symm)
          simp [severityMap_get_set, hne]
      all_goals rfl
    · rfl
  all_goals
    unfold settingGet
    split <;> first | rfl | contradiction

theorem rank_of_severityOf {v : Nat} {x : Severity} (h : severityOf v = some x) : x.rank = v := by
  unfold severityOf at h
  split at h <;> cases h <;> rfl

theorem triggerCode_of_triggerOf {v : Nat} {x : Trigger} (h : triggerOf v = some x) : triggerCode x = v := by
  unfold triggerOf at h
  split at h <;> cases h <;> rfl

theorem lineModeCode_of_lineModeOf {v : Nat} {x : LineMode} (h : lineModeOf v = some x) : lineModeCode x = v := by
  unfold lineModeOf at h
  split at h <;> cases h <;> rfl

theorem beBool_of_boolOf {v : Nat} {x : Bool} (h : boolOf v = some x) : beBool x = v := by
  unfold boolOf at h
  split at h <;> cases h <;> rfl

/-- A write of a stored item with a value that names one of its values is read back. -/
theorem settingGet_put_self {w : Settings} {code v : Nat} (h : settingGet w code ≠ none) (hv : enumOk code v = true) :
    settingGet (settingPut w code v) code = some v := by
  unfold settingPut
  split
  case h_33 =>
    cases hc : classOfItem code with
    | none =>
      exact absurd (by simp [settingGet, hc]) h
    | some c =>
      obtain ⟨x, hx⟩ : ∃ x, severityOf v = some x := by simpa [enumOk, hc, Option.isSome_iff_exists] using hv
      simp [settingGet, hc, hx, severityMap_get_set, rank_of_severityOf hx]
  case h_12 =>
    obtain ⟨x, hx⟩ := Option.isSome_iff_exists.mp hv
    simp [settingGet, hx, triggerCode_of_triggerOf hx]
  case h_13 =>
    obtain ⟨x, hx⟩ := Option.isSome_iff_exists.mp hv
    simp [settingGet, hx, rank_of_severityOf hx]
  case' h_14 | h_15 =>
    obtain ⟨x, hx⟩ := Option.isSome_iff_exists.mp hv
    simp [settingGet, hx, lineModeCode_of_lineModeOf hx]
  case' h_16 | h_17 | h_18 | h_19 =>
    obtain ⟨x, hx⟩ := Option.isSome_iff_exists.mp hv
    simp [settingGet, hx, beBool_of_boolOf hx]
  all_goals rfl

/-- The stored items are those that have a working value. -/
theorem mem_storedItems {w : Settings} {code : Nat} : code ∈ storedItems ↔ settingGet w code ≠ none := by
  constructor
  · intro h
    unfold storedItems at h
    fin_cases h
    all_goals exact Option.some_ne_none _
  · intro h
    unfold settingGet at h
    split at h
    case h_33 =>
      obtain ⟨c, hc⟩ : ∃ c, classOfItem code = some c := by simpa [Option.ne_none_iff_exists'] using h
      rw [classOfItem_eq_some.mp hc]
      cases c <;> decide
    all_goals decide

/-! ### Ranges of the settings -/

/-- R12, R14: the value lies in the range of the item. -/
def InItemRange (p : Option Particulars) (wIn code v : Nat) : Prop :=
  (itemRange p wIn code).1 ≤ v ∧ v ≤ (itemRange p wIn code).2

/-- R14: every stored item holds a value of its range under the PARTICULARS `p`. -/
def SettingsWithin (p : Option Particulars) (w : Settings) : Prop :=
  ∀ code v, settingGet w code = some v → InItemRange p w.wIn code v

/-- R17: the check of the stored settings asks for the ranges without PARTICULARS. -/
theorem settingsInRange_iff {w : Settings} : settingsInRange w = true ↔ SettingsWithin none w := by
  unfold settingsInRange
  rw [List.all_eq_true]
  constructor
  · intro h code v hv
    have hc := h code (mem_storedItems.mpr (by rw [hv]; exact Option.some_ne_none v))
    simpa [hv, inRangeN, InItemRange] using hc
  · intro h code hc
    obtain ⟨v, hv⟩ := Option.ne_none_iff_exists'.mp (mem_storedItems (w := w).mp hc)
    simpa [hv, inRangeN, InItemRange] using h code v hv

/-- Only the range of W_out depends on W_in. -/
theorem itemRange_wIn (p : Option Particulars) {code : Nat} (a b : Nat) (h : code ≠ 0x35) :
    itemRange p a code = itemRange p b code := by
  unfold itemRange
  split
  case h_25 => exact absurd rfl h
  all_goals rfl

/-- A write of a value in range keeps the settings in range; W_in may not pass W_out (R14). -/
theorem settingsWithin_put {p : Option Particulars} {w : Settings} {code v : Nat} (hw : SettingsWithin p w)
    (hs : settingGet w code ≠ none) (hv : enumOk code v = true) (hr : InItemRange p w.wIn code v)
    (hIn : code = 0x34 → v ≤ w.wOut) : SettingsWithin p (settingPut w code v) := by
  intro other u hu
  by_cases ho : other = code
  · subst ho
    rw [settingGet_put_self hs hv] at hu
    cases hu
    by_cases h35 : other = 0x35
    · subst h35; exact hr
    · unfold InItemRange
      rw [itemRange_wIn p _ w.wIn h35]
      exact hr
  · rw [settingGet_put_other w v ho] at hu
    have hin := hw other u hu
    by_cases h35 : other = 0x35
    · subst h35
      by_cases h34 : code = 0x34
      · subst h34
        obtain rfl : w.wOut = u := Option.some.inj hu
        exact ⟨hIn rfl, hin.2⟩
      · have : (settingPut w code v).wIn = w.wIn := Option.some.inj (settingGet_put_other w v (Ne.symm h34))
        rw [this]
        exact hin
    · unfold InItemRange
      rw [itemRange_wIn p _ w.wIn h35]
      exact hin

theorem clampTo_mem {r : Nat × Nat} (h : r.1 ≤ r.2) (v : Nat) : r.1 ≤ clampTo r v ∧ clampTo r v ≤ r.2 := by
  unfold clampTo
  omega

theorem itemRange_le {p : Option Particulars} {wIn code : Nat} (h : wIn ≤ 30000) :
    (itemRange p wIn code).1 ≤ (itemRange p wIn code).2 := by
  unfold itemRange
  split
  case h_26 =>
    split
    · rename_i c _
      cases c <;> decide
    · decide
  case h_25 => exact h
  all_goals simp

theorem clampTo_of_mem {r : Nat × Nat} {v : Nat} (h1 : r.1 ≤ v) (h2 : v ≤ r.2) : clampTo r v = v := by
  unfold clampTo
  omega

theorem severityOf_isSome {v : Nat} : (severityOf v).isSome = true ↔ 1 ≤ v ∧ v ≤ 3 := by
  constructor
  · intro h
    unfold severityOf at h
    split at h <;> simp at h ⊢
  · rintro ⟨h1, h3⟩
    interval_cases v <;> rfl

theorem le_three_of_triggerOf {v : Nat} (h : (triggerOf v).isSome = true) : v ≤ 3 := by
  unfold triggerOf at h
  split at h <;> simp at h ⊢

theorem le_three_of_lineModeOf {v : Nat} (h : (lineModeOf v).isSome = true) : v ≤ 3 := by
  unfold lineModeOf at h
  split at h <;> simp at h ⊢

theorem le_three_of_boolOf {v : Nat} (h : (boolOf v).isSome = true) : v ≤ 3 := by
  unfold boolOf at h
  split at h <;> simp at h ⊢

/-- A severity clamped to a range that ends with STOP is a severity. -/
theorem severityOf_clampTo {lo v : Nat} (hlo : lo ≤ 3) (h : (severityOf v).isSome = true) :
    (severityOf (clampTo (lo, 3) v)).isSome = true := by
  obtain ⟨h1, h3⟩ := severityOf_isSome.mp h
  exact severityOf_isSome.mpr (by simp only [clampTo]; omega)

theorem itemRange_class (p : Option Particulars) (wIn : Nat) {code : Nat} {c : CheckClass}
    (h : classOfItem code = some c) : itemRange p wIn code = ((floorOf c).rank, 3) := by
  rw [classOfItem_eq_some.mp h]
  cases c <;> rfl

/-- A value that names one of an enumerated item's values still names one when it is clamped. -/
theorem enumOk_clampTo {p : Option Particulars} {wIn code v : Nat} (h : enumOk code v = true) :
    enumOk code (clampTo (itemRange p wIn code) v) = true := by
  unfold enumOk at h
  split at h
  case h_1 => rw [clampTo_of_mem (r := itemRange p wIn 0x21) (Nat.zero_le v) (le_three_of_triggerOf h)]; exact h
  case h_2 => exact severityOf_clampTo (lo := 2) (by decide) h
  case h_3 => rw [clampTo_of_mem (r := itemRange p wIn 0x23) (Nat.zero_le v) (le_three_of_lineModeOf h)]; exact h
  case h_4 => rw [clampTo_of_mem (r := itemRange p wIn 0x24) (Nat.zero_le v) (le_three_of_lineModeOf h)]; exact h
  case h_5 => rw [clampTo_of_mem (r := itemRange p wIn 0x25) (Nat.zero_le v) (le_three_of_boolOf h)]; exact h
  case h_6 => rw [clampTo_of_mem (r := itemRange p wIn 0x26) (Nat.zero_le v) (le_three_of_boolOf h)]; exact h
  case h_7 => rw [clampTo_of_mem (r := itemRange p wIn 0x27) (Nat.zero_le v) (le_three_of_boolOf h)]; exact h
  case h_8 => rw [clampTo_of_mem (r := itemRange p wIn 0x28) (Nat.zero_le v) (le_three_of_boolOf h)]; exact h
  case h_9 =>
    cases hc : classOfItem code with
    | none => simp [enumOk, hc]
    | some c =>
      rw [itemRange_class p wIn hc]
      have := severityOf_clampTo (lo := (floorOf c).rank) (v := v) (by cases c <;> decide) (by simpa [hc] using h)
      simpa [enumOk, hc] using this

/-! ### Writing an item (R13, R14) -/

/-- R14: a W_in above W_out takes W_out with it; any other item takes its clamped value alone. -/
theorem writeItem_settings (p : Option Particulars) (w : Settings) (code v : Nat) :
    (writeItem p w code v).1 =
      if code = 0x34 ∧ w.wOut < clampTo (itemRange p w.wIn code) v then
        settingPut (settingPut w 0x35 (clampTo (itemRange p w.wIn code) v)) code (clampTo (itemRange p w.wIn code) v)
      else settingPut w code (clampTo (itemRange p w.wIn code) v) := by
  unfold writeItem
  by_cases h : code = 0x34
  · subst h
    dsimp only
    by_cases hlt : w.wOut < clampTo (itemRange p w.wIn 0x34) v
    · rw [if_pos ⟨rfl, hlt⟩, if_pos ⟨rfl, hlt⟩]; rfl
    · rw [if_neg (fun h => hlt h.2), if_neg (fun h => hlt h.2)]
  · simp [h]

theorem settingsWithin_wIn {p : Option Particulars} {w : Settings} (h : SettingsWithin p w) :
    w.wIn ≤ 30000 ∧ w.wIn ≤ w.wOut ∧ w.wOut ≤ 30000 :=
  ⟨(h 0x34 _ rfl).2, h 0x35 _ rfl⟩

/-- A write clamps to the PARTICULARS `p`, and keeps the settings in the ranges of any `q` that are as wide. -/
theorem settingsWithin_writeItem {p q : Option Particulars} {w : Settings} {code v : Nat} (hw : SettingsWithin q w)
    (hs : settingGet w code ≠ none) (hv : enumOk code v = true)
    (hpq : ∀ u, InItemRange p w.wIn code u → InItemRange q w.wIn code u) :
    SettingsWithin q (writeItem p w code v).1 := by
  obtain ⟨hIn, _, hOut⟩ := settingsWithin_wIn hw
  have hr := clampTo_mem (itemRange_le (p := p) (code := code) hIn) v
  have hc := enumOk_clampTo (p := p) (wIn := w.wIn) hv
  rw [writeItem_settings]
  split
  · rename_i h
    obtain ⟨rfl, hlt⟩ := h
    have hOut' : InItemRange q w.wIn 0x35 (clampTo (itemRange p w.wIn 0x34) v) := ⟨by change w.wIn ≤ _; omega, hr.2⟩
    exact settingsWithin_put (settingsWithin_put hw (Option.some_ne_none _) rfl hOut' (by simp))
      (Option.some_ne_none _) hc hr (fun _ => Nat.le_refl _)
  · rename_i h
    exact settingsWithin_put hw hs hc (hpq _ hr) (fun h34 => Nat.not_lt.mp fun hlt => h ⟨h34, hlt⟩)

/-! ### The maxima of the PARTICULARS (R14) -/

/-- The maxima of the PARTICULARS, if any, fit the field of a maximum. -/
def MaximaFit (p : Option Particulars) : Prop :=
  ∀ e, p = some e → e.maxDraft ≤ Config.maxField ∧ e.maxDisp ≤ Config.maxField

/-- The PARTICULARS narrow the ranges of the four maxima. -/
theorem inItemRange_none {p : Option Particulars} {wIn code v : Nat} (hp : MaximaFit p)
    (h : InItemRange p wIn code v) : InItemRange none wIn code v := by
  cases p with
  | none => exact h
  | some e =>
    obtain ⟨hd, hs⟩ := hp e rfl
    unfold InItemRange itemRange at h ⊢
    split at h
    case h_8 | h_9 => exact ⟨h.1, Nat.le_trans h.2 hd⟩
    case h_10 | h_11 => exact ⟨h.1, Nat.le_trans h.2 hs⟩
    all_goals exact h

/-- R14: settings in range that the clamp to the PARTICULARS leaves alone are those in the ranges it narrows. -/
theorem settingsWithin_iff {p : Option Particulars} {w : Settings} (hp : MaximaFit p) :
    SettingsWithin p w ↔ SettingsWithin none w ∧ clampMaxima p w = w := by
  constructor
  · intro h
    refine ⟨fun code v hv => inItemRange_none hp (h code v hv), ?_⟩
    cases p with
    | none => rfl
    | some e =>
      have h8 : w.harbour.draftMax ≤ e.maxDraft := (h 0x08 _ rfl).2
      have h9 : w.lift.draftMax ≤ e.maxDraft := (h 0x09 _ rfl).2
      have hA : w.harbour.dispMax ≤ e.maxDisp := (h 0x0A _ rfl).2
      have hB : w.lift.dispMax ≤ e.maxDisp := (h 0x0B _ rfl).2
      simp [clampMaxima, clampLimit, Nat.min_eq_left h8, Nat.min_eq_left h9, Nat.min_eq_left hA, Nat.min_eq_left hB]
  · rintro ⟨h, hc⟩ code v hv
    cases p with
    | none => exact h code v hv
    | some e =>
      have hin := h code v hv
      rw [← hc] at hv
      unfold InItemRange itemRange at hin ⊢
      split at hin
      case h_8 | h_9 | h_10 | h_11 => cases hv; exact ⟨Nat.zero_le _, Nat.min_le_right _ _⟩
      all_goals exact hin

theorem clampMaxima_clampMaxima (p : Option Particulars) (w : Settings) :
    clampMaxima p (clampMaxima p w) = clampMaxima p w := by
  cases p <;> simp [clampMaxima, clampLimit]

theorem settingsWithin_clampMaxima {p : Option Particulars} {w : Settings} (hp : MaximaFit p)
    (h : SettingsWithin none w) : SettingsWithin p (clampMaxima p w) := by
  rw [settingsWithin_iff hp]
  refine ⟨?_, clampMaxima_clampMaxima p w⟩
  cases p with
  | none => exact h
  | some e =>
    have hmax : ∀ {code v}, InItemRange none w.wIn code v → ∀ m, (itemRange none w.wIn code).1 = 0 →
        InItemRange none w.wIn code (min v m) :=
      fun hv m h0 => ⟨by omega, Nat.le_trans (Nat.min_le_left _ _) hv.2⟩
    have h8 := hmax (h 0x08 _ rfl) e.maxDraft rfl
    have h9 := hmax (h 0x09 _ rfl) e.maxDraft rfl
    have hA := hmax (h 0x0A _ rfl) e.maxDisp rfl
    have hB := hmax (h 0x0B _ rfl) e.maxDisp rfl
    have w1 := settingsWithin_put h (code := 0x08) (Option.some_ne_none _) rfl h8 (by simp)
    have w2 := settingsWithin_put w1 (code := 0x09) (Option.some_ne_none _) rfl h9 (by simp)
    have w3 := settingsWithin_put w2 (code := 0x0A) (Option.some_ne_none _) rfl hA (by simp)
    exact settingsWithin_put w3 (code := 0x0B) (Option.some_ne_none _) rfl hB (by simp)

/-! ### The alarm lines' settings (R128) -/

@[simp] theorem lineModeOf_lineModeCode (m : LineMode) : lineModeOf (lineModeCode m) = some m := by cases m <;> rfl

@[simp] theorem boolOf_beBool (b : Bool) : boolOf (beBool b) = some b := by cases b <;> rfl

/-- R128: a control of an alarm line is a write of the line's mode and of its level. -/
theorem setLine_eq_put (line : Nat) (m : LineMode) (level : Bool) (w : Settings) :
    setLine line m level w =
      if line = 0 then
        settingPut (settingPut w 0x23 (lineModeCode m)) 0x25 (beBool (if m = .manual then level else w.cautionLevel))
      else
        settingPut (settingPut w 0x24 (lineModeCode m)) 0x26 (beBool (if m = .manual then level else w.stopLevel)) := by
  unfold setLine
  split <;> simp [settingPut]

theorem settingsWithin_setLine {p : Option Particulars} {w : Settings} (line : Nat) (m : LineMode) (level : Bool)
    (h : SettingsWithin p w) : SettingsWithin p (setLine line m level w) := by
  have hm : lineModeCode m ≤ 3 := by cases m <;> decide
  have hb : ∀ b : Bool, beBool b ≤ 3 := by decide
  rw [setLine_eq_put]
  split
  · have h1 := settingsWithin_put h (code := 0x23) (Option.some_ne_none _) (by simp [enumOk])
      ⟨Nat.zero_le _, hm⟩ (by simp)
    exact settingsWithin_put h1 (Option.some_ne_none _) (by simp [enumOk]) ⟨Nat.zero_le _, hb _⟩ (by simp)
  · have h1 := settingsWithin_put h (code := 0x24) (Option.some_ne_none _) (by simp [enumOk])
      ⟨Nat.zero_le _, hm⟩ (by simp)
    exact settingsWithin_put h1 (Option.some_ne_none _) (by simp [enumOk]) ⟨Nat.zero_le _, hb _⟩ (by simp)

/-! ### The ship data's fields (R2) -/

theorem rowsInRange_tput {α : Type} {block n : Nat} {mk : α → ShipEntry} {t : Table α} {a : α}
    (h : rowsInRange block mk t = true) (hn : indexOk block n = true) (ha : entryOk (mk a) = true) :
    rowsInRange block mk (tput t n a) = true := by
  unfold rowsInRange at h ⊢
  rw [List.all_eq_true] at h ⊢
  intro p hp
  rcases mem_tput hp with rfl | hp
  · simp [hn, ha]
  · exact h p hp

theorem rowsInRange_filter {α : Type} {block : Nat} {mk : α → ShipEntry} {t : Table α} (f : Nat × α → Bool)
    (h : rowsInRange block mk t = true) : rowsInRange block mk (t.filter f) = true := by
  unfold rowsInRange at h ⊢
  rw [List.all_eq_true] at h ⊢
  exact fun p hp => h p (List.mem_of_mem_filter hp)

theorem fieldsInRange_putEntry {d : ShipData} {block index : Nat} {e : List Byte} {x : ShipEntry}
    (h : fieldsInRange d = true) (hi : indexOk block index = true) (hx : entryOf block e = some x)
    (ho : entryOk x = true) : fieldsInRange (putEntry d index x) = true := by
  simp only [fieldsInRange, Bool.and_eq_true] at h
  obtain ⟨⟨⟨⟨⟨⟨⟨⟨hp, hs⟩, hl⟩, hh⟩, hb⟩, ht⟩, ha⟩, hc⟩, hg⟩ := h
  unfold entryOf at hx
  split at hx <;> cases hx
  all_goals
    simp only [fieldsInRange, putEntry, Bool.and_eq_true, Option.all_some]
    simp only [hp, hs, hl, hh, hb, ht, ha, hc, hg, ho, rowsInRange_tput, hi, and_self]

theorem fieldsInRange_dropEntry {d : ShipData} (block index : Nat)
    (h : fieldsInRange d = true) : fieldsInRange (dropEntry d block index) = true := by
  have hf := h
  simp only [fieldsInRange, Bool.and_eq_true] at hf
  obtain ⟨⟨⟨⟨⟨⟨⟨⟨hp, hs⟩, hl⟩, hh⟩, hb⟩, ht⟩, ha⟩, hc⟩, hg⟩ := hf
  unfold dropEntry
  split
  case h_10 => exact h
  all_goals
    simp only [fieldsInRange, tdrop, Bool.and_eq_true, Option.all_none]
    simp only [hp, hs, hl, hh, hb, ht, ha, hc, hg, rowsInRange_filter, and_self]

theorem fieldsInRange_trimStrength {d : ShipData} (h : fieldsInRange d = true) :
    fieldsInRange (trimStrength d) = true := by
  simp only [fieldsInRange, Bool.and_eq_true] at h ⊢
  exact ⟨h.1, rowsInRange_filter _ h.2⟩

theorem maximaFit_of_fieldsInRange {d : ShipData} (h : fieldsInRange d = true) : MaximaFit d.particulars := by
  intro e he
  simp only [fieldsInRange, Bool.and_eq_true] at h
  obtain ⟨⟨⟨⟨⟨⟨⟨⟨hp, _⟩, _⟩, _⟩, _⟩, _⟩, _⟩, _⟩, _⟩ := h
  rw [he] at hp
  simp only [Option.all_some, entryOk, inRangeN, Bool.and_eq_true, decide_eq_true_eq] at hp
  obtain ⟨⟨_, _, hd⟩, _, hs⟩ := hp
  exact ⟨Nat.le_trans hd (by decide), Nat.le_trans hs (by decide)⟩

end Sys2Proof.Machine
end

section
/-! The stores' invariant: what the events and the requests leave of the stores, and that every command keeps them
sound. -/

namespace Sys2Proof.Machine

/-! ### The events -/

@[simp] theorem craneGoesStale_stores (c : CraneId) (s : State) : (craneGoesStale c s).stores = s.stores := by
  simp [craneGoesStale]

@[simp] theorem tankGoesStale_stores (k : Nat) (s : State) : (tankGoesStale k s).stores = s.stores := by
  simp [tankGoesStale]

theorem timeoutLift_stores (c : CraneId) (s : State) : (timeoutLift c s).stores = s.stores := by simp [timeoutLift]

theorem timeoutTransfer_stores (k : Nat) (s : State) : (timeoutTransfer k s).stores = s.stores := by
  unfold timeoutTransfer
  split <;> simp

theorem completeSnapshot_stores (s : State) : (completeSnapshot s).stores = s.stores := by
  unfold completeSnapshot
  split <;> rfl

theorem fillRecord_stores (g : Count32) (s : State) (v : Violation) : (fillRecord g s v).stores = s.stores := by
  unfold fillRecord
  dsimp only
  split
  · exact latchOn_stores _ _ _
  · rfl

theorem fillRecords_stores (g : Count32) (vs : List Violation) (s : State) :
    (fillRecords g vs s).stores = s.stores := by
  unfold fillRecords
  generalize vs.filter _ = us
  induction us generalizing s with
  | nil => rfl
  | cons v us ih => exact (ih _).trans (fillRecord_stores g s v)

theorem noteViolations_stores (a b : List Violation) (s : State) : (noteViolations a b s).stores = s.stores := by
  unfold noteViolations
  dsimp only
  repeat' split
  all_goals simp

theorem autoSuspend_stores (s : State) : (autoSuspend s).stores = s.stores := by
  unfold autoSuspend
  repeat' split
  all_goals simp

theorem monitorActual_stores (p : Pass) (vs : List Violation) (s : State) :
    (monitorActual p vs s).stores = s.stores := by
  simp only [monitorActual, autoSuspend_stores, fillRecords_stores, noteViolations_stores]
  rfl

theorem recheckClearance_stores (s : State) : (recheckClearance s).stores = s.stores := by
  unfold recheckClearance
  repeat' split
  all_goals simp

theorem gateActual_stores (r : ResultSet) (s : State) : (gateActual r s).stores = s.stores := by
  simp only [gateActual, decisionRound_stores, recheckClearance_stores]
  rfl

theorem noteResults_stores (x : Ctx) (s : State) : (noteResults x s).stores = s.stores := by
  unfold noteResults
  split <;> simp

theorem publish_stores (p : Pass) (s : State) : (publish p s).stores = s.stores := by
  unfold publish
  dsimp only
  split
  · simp only [noteResults_stores, gateActual_stores, monitorActual_stores]
    rfl
  · simp only [noteResults_stores]
    rfl

theorem completeHookPass_stores (s : State) : (completeHookPass s).stores = s.stores := by
  unfold completeHookPass
  split <;> rfl

theorem deliverLift_stores (r : LiftRef) (b : Bool) (w : Option CheckClass) (s : State) :
    (deliverLift r b w s).stores = s.stores := by
  unfold deliverLift
  repeat' split
  all_goals simp

theorem deliverRecheck_stores (b : Bool) (w : Option CheckClass) (s : State) :
    (deliverRecheck b w s).stores = s.stores := by
  unfold deliverRecheck
  repeat' split
  all_goals simp

theorem deliverTransfer_stores (id : Nat) (b : Bool) (vs : List Violation) (s : State) :
    (deliverTransfer id b vs s).stores = s.stores := by
  unfold deliverTransfer
  repeat' split
  all_goals simp

theorem completePrediction_stores (s : State) : (completePrediction s).stores = s.stores := by
  unfold completePrediction
  split
  · rfl
  · dsimp only
    split
    · unfold deliver
      split
      · exact deliverRecheck_stores _ _ _
      · exact deliverLift_stores _ _ _ _
      · exact deliverTransfer_stores _ _ _ _
    · rfl

/-! ### The requests -/

/-- The requests whose bodies may write what the stores' invariant reads. -/
def touchesStores : Request → Bool
  | .enterConfiguration => true
  | .writeShipData _ _ _ => true
  | .commitShipData => true
  | .writeSetting _ _ => true
  | .storeSettings => true
  | .controlLine _ _ _ => true
  | .restart => true
  | _ => false

theorem bodyOf_stores (l : Link) {r : Request} (h : touchesStores r = false) (s : State) :
    (bodyOf l r s).1.stores = s.stores := by
  cases r <;> simp only [touchesStores, reduceCtorEq] at h
  all_goals simp [bodyOf]

/-! ### The invariant -/

/-- `storesSound`, as the statements that it holds together. -/
structure StoresSound (s : State) : Prop where
  settings : SettingsWithin none s.settings
  ship : fieldsInRange s.ship = true
  stored : s.nvm.ship.marker = true → fieldsInRange s.nvm.ship.contents = true
  service : s.mode = .service → SettingsWithin s.ship.particulars s.settings

theorem storesSound_iff {s : State} : storesSound s = true ↔ StoresSound s := by
  constructor
  · intro h
    simp only [storesSound, Bool.and_eq_true, Bool.or_eq_true, Bool.not_eq_true', decide_eq_true_eq,
      decide_eq_false_iff_not] at h
    obtain ⟨⟨⟨hw, hd⟩, hn⟩, hm⟩ := h
    have hw := settingsInRange_iff.mp hw
    exact ⟨hw, hd, fun hk => hn.resolve_left (by simp [hk]),
      fun hs => (settingsWithin_iff (maximaFit_of_fieldsInRange hd)).mpr ⟨hw, hm.resolve_left (fun hne => hne hs)⟩⟩
  · rintro ⟨hw, hd, hn, hm⟩
    simp only [storesSound, Bool.and_eq_true, Bool.or_eq_true, Bool.not_eq_true', decide_eq_true_eq,
      decide_eq_false_iff_not]
    refine ⟨⟨⟨settingsInRange_iff.mpr hw, hd⟩, ?_⟩, ?_⟩
    · cases hk : s.nvm.ship.marker with
      | false => exact .inl rfl
      | true => exact .inr (hn hk)
    · by_cases hs : s.mode = .service
      · exact .inr ((settingsWithin_iff (maximaFit_of_fieldsInRange hd)).mp (hm hs)).2
      · exact .inl hs

theorem StoresSound.congr {s t : State} (h : StoresSound s) (e : t.stores = s.stores) : StoresSound t := by
  rw [← storesSound_iff] at h ⊢
  rw [storesSound_of_stores e, h]

/-- Outside SERVICE the maxima of the PARTICULARS bind nothing (R14). -/
theorem StoresSound.outside {s t : State} (h : StoresSound s) (hm : t.mode ≠ .service)
    (hn : t.nvm = s.nvm) (hd : t.ship = s.ship) (hw : t.settings = s.settings) : StoresSound t :=
  ⟨hw ▸ h.settings, hd ▸ h.ship, hn ▸ h.stored, fun hs => absurd hs hm⟩

theorem storesSound_calm : Calm StoresSound :=
  ⟨fun _ _ _ h => h.congr (onLink_stores _ _ _), fun _ h => h.congr (settle_stores _)⟩

/-! ### Power and the modes -/

/-- R6: an interrupted store leaves its marker clear, or stands as it was. -/
theorem storesSound_interruptStore {s : State} (h : StoresSound s) : StoresSound (interruptStore s) := by
  unfold interruptStore
  split
  · exact ⟨h.settings, h.ship, fun hk => absurd hk (by simp), h.service⟩
  · split
    · exact ⟨h.settings, h.ship, h.stored, h.service⟩
    · exact h

theorem settingsWithin_default : SettingsWithin none defaultSettings :=
  settingsInRange_iff.mp (by decide)

theorem storesSound_powerOn {s : State} (h : StoresSound s) : StoresSound (powerOnState s) :=
  ⟨settingsWithin_default, rfl, (storesSound_interruptStore h).stored, fun hm => Mode.noConfusion hm⟩

theorem storesSound_restartEngine {s : State} (h : StoresSound s) : StoresSound (restartEngine s) := by
  have hi := storesSound_interruptStore h
  unfold restartEngine
  exact StoresSound.congr (s := restartState (interruptStore s))
    ⟨hi.settings, hi.ship, hi.stored, fun hm => absurd hm (by simp [restartState, State.reset])⟩ (latchOn_stores _ _ _)

theorem storesSound_powerLoss {s x : State} (h : StoresSound s) (hx : execPowerLoss s = .next x) : StoresSound x := by
  rcases event_cases hx with ⟨_, rfl⟩ | ⟨_, rfl⟩
  · exact h
  · exact (storesSound_interruptStore h).congr rfl

/-- R14: SERVICE is entered with the settings clamped to the PARTICULARS. -/
theorem storesSound_enterService {s : State} (hw : SettingsWithin none s.settings) (hd : fieldsInRange s.ship = true)
    (hn : s.nvm.ship.marker = true → fieldsInRange s.nvm.ship.contents = true) : StoresSound (enterService s) := by
  have hs : (abandonSnapshot s).stores = s.stores := by unfold abandonSnapshot; split <;> rfl
  simp only [State.stores, Prod.mk.injEq] at hs
  obtain ⟨_, en, ed, ew⟩ := hs
  have hp := maximaFit_of_fieldsInRange hd
  have hc := settingsWithin_clampMaxima hp hw
  have he : (enterService s).stores = (.service, s.nvm, s.ship, clampMaxima s.ship.particulars s.settings) := by
    unfold enterService changeMode
    rw [latchOn_stores]
    simp [State.stores, clearedCondition, en, ed, ew]
  simp only [State.stores, Prod.mk.injEq] at he
  obtain ⟨_, en, ed, ew⟩ := he
  exact ⟨ew ▸ ((settingsWithin_iff hp).mp hc).1, ed ▸ hd, en ▸ hn, fun _ => by rw [ew, ed]; exact hc⟩

/-- R17: the working settings are the stored ones when they are valid, and the defaults otherwise. -/
theorem loadSettings_settings (s : State) :
    (loadSettings s).settings =
      if s.nvm.settings.marker && settingsInRange s.nvm.settings.contents then s.nvm.settings.contents
      else defaultSettings := by
  unfold loadSettings
  split <;> rfl

theorem storesSound_endInitializing {s : State} (h : StoresSound s) : StoresSound (endInitializing s) := by
  have hw : SettingsWithin none (loadSettings s).settings := by
    rw [loadSettings_settings]
    split
    · rename_i hv
      exact settingsInRange_iff.mp (Bool.and_eq_true_iff.mp hv).2
    · exact settingsWithin_default
  have hnvm : (loadSettings s).nvm = s.nvm := by unfold loadSettings; split <;> rfl
  have hd : fieldsInRange (loadShipData (loadSettings s)).ship = true := by
    unfold loadShipData
    dsimp only
    rw [hnvm]
    split
    · exact h.stored ‹_›
    · rfl
  have hn : (loadShipData (loadSettings s)).nvm.ship.marker = true →
      fieldsInRange (loadShipData (loadSettings s)).nvm.ship.contents = true := by
    change (loadSettings s).nvm.ship.marker = true → _
    rw [show (loadShipData (loadSettings s)).nvm = s.nvm from hnvm, hnvm]
    exact h.stored
  unfold endInitializing
  dsimp only
  split
  · exact storesSound_enterService hw hd hn
  · have hu : StoresSound { loadShipData (loadSettings s) with mode := .unconfigured } :=
      ⟨hw, hd, hn, fun hm => Mode.noConfusion hm⟩
    exact hu.congr (latchOn_stores _ _ _)

theorem endPendingLifts_stores (cs : List CraneId) (s : State) : (cs.foldl endPendingLift s).stores = s.stores := by
  induction cs generalizing s with
  | nil => rfl
  | cons c cs ih =>
    refine (ih _).trans ?_
    unfold endPendingLift
    split <;> simp

theorem endPendingTransfers_stores (ts : Table Transfer) (s : State) :
    (ts.foldl endPendingTransfer s).stores = s.stores := by
  induction ts generalizing s with
  | nil => rfl
  | cons p ts ih => exact (ih _).trans (removeTransfer_stores _ _ _ s)

/-- R9: the entry into CONFIGURATION writes the mode alone of what the stores' invariant reads. -/
theorem leaveService_stores (s : State) : (leaveService s).stores = (.configuration, s.nvm, s.ship, s.settings) := by
  have hl : ∀ t : State, (liftSuspension t).stores = t.stores := by
    intro t
    unfold liftSuspension
    split <;> simp
  have hchange : ∀ t : State, (changeMode .configuration (shutResults t)).stores
      = (.configuration, t.nvm, t.ship, t.settings) := fun t => latchOn_stores _ _ _
  have hstand : ∀ t : State, t.stores = s.stores →
      (Mode.configuration, t.nvm, t.ship, t.settings) = (.configuration, s.nvm, s.ship, s.settings) := by
    intro t ht
    simp only [State.stores, Prod.mk.injEq] at ht ⊢
    exact ⟨trivial, ht.2⟩
  unfold leaveService
  dsimp only
  rw [hchange]
  exact hstand _ (by rw [hl, endPendingTransfers_stores, endPendingLifts_stores])

theorem storesSound_enterConfiguration {s : State} (h : StoresSound s) :
    StoresSound (bodyEnterConfiguration s).1 := by
  have hconf : ∀ t : State, t.stores = (.configuration, s.nvm, s.ship, s.settings) → StoresSound t := by
    intro t ht
    simp only [State.stores, Prod.mk.injEq] at ht
    obtain ⟨hm, hn, hd, hw⟩ := ht
    exact h.outside (by rw [hm]; decide) hn hd hw
  unfold bodyEnterConfiguration
  split
  · split
    · exact h
    · exact hconf _ (leaveService_stores s)
  · exact hconf _ (latchOn_stores _ _ _)
  · exact h

/-! ### Ship data and settings -/

theorem storesSound_writeShipData {s : State} (block index : Nat) (e : List Byte) (h : StoresSound s)
    (hm : s.mode ≠ .service) : StoresSound (bodyWriteShipData block index e s).1 := by
  have hship : ∀ d, fieldsInRange d = true → StoresSound { s with ship := d } :=
    fun d hd => ⟨h.settings, hd, h.stored, fun hs => absurd hs hm⟩
  unfold bodyWriteShipData
  split
  · exact h
  split
  · exact h
  rename_i hi
  split
  · split
    · exact h
    · exact hship _ (fieldsInRange_dropEntry block index h.ship)
  split
  · exact h
  rename_i x hx
  split
  · exact h
  rename_i hok
  split
  · exact h
  · exact hship _ (fieldsInRange_putEntry h.ship (by simpa using hi) hx (by simpa using hok))

theorem storesSound_commitShipData {s : State} (h : StoresSound s) : StoresSound (bodyCommitShipData s).1 := by
  unfold bodyCommitShipData
  repeat' split
  · exact h
  · exact h
  · exact ⟨h.settings, h.ship, fun hk => Bool.noConfusion hk, h.service⟩

theorem storesSound_completeCommit {s : State} (h : StoresSound s) : StoresSound (completeCommit s) := by
  have hd := fieldsInRange_trimStrength h.ship
  exact storesSound_enterService (s := State.onLink .l0 (LinkUnit.fill .commit (Reply.bare .done)) _)
    h.settings hd (fun _ => hd)

theorem storesSound_storeSettings {s : State} (h : StoresSound s) : StoresSound (bodyStoreSettings s).1 := by
  unfold bodyStoreSettings
  split
  · exact h
  · exact ⟨h.settings, h.ship, h.stored, h.service⟩

theorem storesSound_completeStore {s : State} (h : StoresSound s) : StoresSound (completeStore s) :=
  ⟨h.settings, h.ship, h.stored, h.service⟩

theorem storesSound_controlLine {s : State} (line mode level : Nat) (h : StoresSound s) :
    StoresSound (bodyControlLine line mode level s).1 := by
  unfold bodyControlLine
  split
  · exact h
  split
  · exact h
  · exact ⟨settingsWithin_setLine _ _ _ h.settings, h.ship, h.stored,
      fun hm => settingsWithin_setLine _ _ _ (h.service hm)⟩

theorem rejudgeCranes_stores (s : State) : (rejudgeCranes s).stores = s.stores := by
  have hc : ∀ (t : State) c, (rejudgeCrane t c).stores = t.stores := by
    intro t c
    unfold rejudgeCrane
    repeat' split
    all_goals simp
  exact (hc _ _).trans (hc _ _)

theorem rejudgeTanks_stores (s : State) : (rejudgeTanks s).stores = s.stores := by
  unfold rejudgeTanks
  generalize s.cond.tanks.map Prod.fst = ks
  induction ks generalizing s with
  | nil => rfl
  | cons k ks ih =>
    refine (ih _).trans ?_
    unfold rejudgeTank
    repeat' split
    all_goals simp

/-- R149, R160: the settings written, and the staleness judged again for a stale period that changed (log 7). -/
def rejudgedUnder (new : Settings) (s : State) : State :=
  let s' := { s with settings := new }
  let s' := if new.hookStale = s.settings.hookStale then s' else rejudgeCranes s'
  if new.tankStale = s.settings.tankStale then s' else rejudgeTanks s'

/-- R13: a write of an item is a judgement under the settings written, and an advance for what that changed. -/
theorem applySetting_eq (code v : Nat) (s : State) :
    applySetting code v s =
      let new := (writeItem s.ship.particulars s.settings code v).1
      if s.mode = .service ∧ decide (new.seaDensity ≠ s.settings.seaDensity ∨ new.harbour ≠ s.settings.harbour
          ∨ new.lift ≠ s.settings.lift) = true then advanceAllContexts (rejudgedUnder new s)
      else if taintChanged s (rejudgedUnder new s) then advanceActual (rejudgedUnder new s) else rejudgedUnder new s :=
  rfl

theorem rejudgedUnder_stores (new : Settings) (s : State) :
    (rejudgedUnder new s).stores = (s.mode, s.nvm, s.ship, new) := by
  have hc : (if new.hookStale = s.settings.hookStale then { s with settings := new }
      else rejudgeCranes { s with settings := new }).stores = (s.mode, s.nvm, s.ship, new) := by
    split
    · rfl
    · exact rejudgeCranes_stores _
  unfold rejudgedUnder
  dsimp only
  split
  · exact hc
  · rw [rejudgeTanks_stores, hc]

/-- R13: a write of an item writes the settings alone of what the stores' invariant reads. -/
theorem applySetting_stores (code v : Nat) (s : State) :
    (applySetting code v s).stores = (s.mode, s.nvm, s.ship, (writeItem s.ship.particulars s.settings code v).1) := by
  rw [applySetting_eq]
  dsimp only
  repeat' split
  all_goals simp [rejudgedUnder_stores]

/-- A working item that is not read-only is a stored one. -/
theorem settingGet_of_itemValue {s : State} {code : Nat} (h : itemValue s code ≠ none)
    (hr : itemReadOnly code = false) : settingGet s.settings code ≠ none := by
  unfold itemValue at h
  split at h
  case h_4 => exact h
  all_goals exact absurd hr (by decide)

theorem storesSound_writeSetting {s : State} (item v : Nat) (h : StoresSound s) :
    StoresSound (bodyWriteSetting item v s).1 := by
  unfold bodyWriteSetting
  split
  · exact h
  rename_i hitem
  split
  · exact h
  rename_i hro
  split
  · exact h
  rename_i henum
  split
  · exact h
  have hs := settingGet_of_itemValue (by simpa using hitem) (by simpa using hro)
  have henum : enumOk item v = true := by simpa using henum
  have e := applySetting_stores item v s
  simp only [State.stores, Prod.mk.injEq] at e
  obtain ⟨em, en, ed, ew⟩ := e
  refine ⟨?_, ?_, ?_, fun hm => ?_⟩
  · rw [ew]
    exact settingsWithin_writeItem h.settings hs henum fun _ => inItemRange_none (maximaFit_of_fieldsInRange h.ship)
  · rw [ed]; exact h.ship
  · rw [en]; exact h.stored
  · rw [ew, ed]
    exact settingsWithin_writeItem (h.service (em ▸ hm)) hs henum fun _ hu => hu

/-! ### Every step -/

/-- A body keeps the stores sound when its request is admitted in the mode. -/
theorem storesSound_body (l : Link) (r : Request) {s : State} (hm : modeOk s.mode l r = true) (h : StoresSound s) :
    StoresSound (bodyOf l r s).1 := by
  by_cases ht : touchesStores r = false
  · exact h.congr (bodyOf_stores l ht s)
  · cases r <;> simp only [touchesStores, not_true_eq_false] at ht
    case enterConfiguration => exact storesSound_enterConfiguration h
    case writeShipData b i e =>
      exact storesSound_writeShipData b i e h (by intro hs; rw [hs] at hm; cases hm)
    case commitShipData => exact storesSound_commitShipData h
    case writeSetting i v => exact storesSound_writeSetting i v h
    case storeSettings => exact storesSound_storeSettings h
    case controlLine a m v => exact storesSound_controlLine a m v h
    case restart => exact storesSound_restartEngine h

theorem storesSound_exec {i : Instr} {s x : State} (h : StoresSound s) (hx : exec i s = .next x) : StoresSound x := by
  have hP := storesSound_calm
  have hdue : ∀ {due : State → Bool} {f : State → State}, (∀ s, StoresSound s → StoresSound (f s)) →
      dueEvent due f s = .next x → StoresSound x := by
    intro due f hf hx
    rcases dueEvent_cases hx with rfl | ⟨_, _, rfl⟩
    · exact h
    · exact hP.close _ (hf _ h)
  have hkeep : ∀ {due : State → Bool} {f : State → State}, (∀ s, (f s).stores = s.stores) →
      dueEvent due f s = .next x → StoresSound x := fun hf hx => hdue (fun s hs => hs.congr (hf s)) hx
  have hev : ∀ {f : State → State}, (∀ s, StoresSound s → StoresSound (f s)) → event f s = .next x →
      StoresSound x := by
    intro f hf hx
    rcases event_cases hx with ⟨_, rfl⟩ | ⟨_, rfl⟩
    · exact h
    · exact hf _ h
  rcases hr : i.request with _ | ⟨l, t, r⟩
  · cases i <;> simp only [Instr.request, reduceCtorEq] at hr <;> simp only [exec] at hx
    case powerOn => cases hx; exact storesSound_powerOn h
    case restartLine =>
      refine hev (fun s hs => ?_) hx
      split
      · exact (storesSound_restartEngine (hs.congr (t := { s with restartArmed := false }) rfl)).congr rfl
      · exact hs
    case endOfInitializing => exact hdue (fun _ => storesSound_endInitializing) hx
    case timebaseAdvance => exact hev (f := fun s => { s with time := s.time + 1 }) (fun s hs => hs.congr rfl) hx
    case commitCompletion => exact hdue (fun _ => storesSound_completeCommit) hx
    case storeSettingsCompletion => exact hdue (fun _ => storesSound_completeStore) hx
    case openSnapshotCompletion => exact hkeep completeSnapshot_stores hx
    case pairingTimeout c => exact hkeep (timeoutLift_stores c) hx
    case requestTimeout c => exact hkeep (timeoutLift_stores c) hx
    case clearanceLapse => exact hkeep (fun s => timeoutLift_stores _ s) hx
    case craneBecomesStale c =>
      exact hkeep (f := fun s => advanceActual (craneGoesStale c s)) (craneGoesStale_stores c) hx
    case tankBecomesStale k => exact hkeep (f := fun s => advanceActual (tankGoesStale k s)) (tankGoesStale_stores k) hx
    case transferRequestTimeout k => exact hkeep (timeoutTransfer_stores k) hx
    case publication =>
      refine hkeep (fun s => ?_) hx
      split
      · exact publish_stores _ s
      · rfl
    case hookPassComplete => exact hkeep completeHookPass_stores hx
    case predictionCompletion => exact hkeep completePrediction_stores hx
    case frameReceived l cs => exact hev (fun s hs => hP.link _ _ _ hs) hx
    case characterGapTimeout l => exact hev (fun s hs => hP.link _ _ _ hs) hx
    case lineBreak l => exact hev (fun s hs => hP.link _ _ _ hs) hx
    case takeFrame l =>
      rcases takeFrame_cases (by exact hx) with rfl | ⟨f, rest, _, _, _, rfl⟩
      · exact h
      · rcases takenAs_cases l f.kind f.tag (Request.decode f.kind f.payload) (bodyOf l)
          (s.onLink l (fun u => { u with inbound := rest })) with ⟨st, e⟩ | ⟨r, _, _, hm, e⟩
        · rw [e]; exact finish_calm hP _ _ (hP.link _ _ _ (hP.link _ _ _ h))
        · rw [e]; exact finish_calm hP _ _ (storesSound_body l r hm (hP.link _ _ _ (hP.link _ _ _ h)))
    case frameDeparture l => exact hev (fun s hs => hP.link _ _ _ hs) hx
    case powerLoss => exact storesSound_powerLoss h hx
    case receiveLineReturnToIdle l => cases hx; exact hP.link _ _ _ h
    case restartInputReturnToRest => cases hx; exact h.congr rfl
  · rw [exec_request hr] at hx
    rcases command_cases hx with rfl | ⟨_, f, rfl⟩ | ⟨_, _, _, st, rfl⟩ | ⟨_, _, _, _, hm, rfl⟩
    · exact h
    · exact hP.link _ _ _ h
    · exact finish_calm hP _ _ (hP.link _ _ _ h)
    · exact finish_calm hP _ _ (storesSound_body l r hm (hP.link _ _ _ h))

/-- Settles O6: by a case split over the commands.  Only the bodies of `touchesStores`, the ends of INITIALIZING and of
a commit, and the interruptions write what the invariant reads, and each writes values of the ranges. -/
theorem storesStaySound : Obligations.StoresStaySound := by
  intro s t h hx
  rw [storesSound_iff] at h ⊢
  unfold step at hx
  split at hx
  · cases hx; exact h
  · rename_i c rest _
    exact storesSound_exec (s := { s with pending := rest }) (h.congr rfl) hx

end Sys2Proof.Machine

end

section
/-! Power, the timebase, the state after reset, and the commands that only read the stores and the stowage. -/

namespace Sys2Proof.Machine

/-! ### The state after reset -/

theorem gateSound_reset : GateSound State.reset where
  holder := fun _ h => nomatch h
  others := fun c h => by cases c <;> cases h
  entries := fun _ h => nomatch h
  queued := fun c h => by cases c <;> cases h
  once := fun _ => Nat.zero_le 1
  pairing := fun c h => by cases c <;> cases h
  suspended := fun h => nomatch h

theorem currencySound_reset : currencySound State.reset := ⟨fun _ => rfl, fun h => nomatch h⟩

theorem linesDriven_reset : linesDriven State.reset := fun _ => ⟨rfl, rfl, fun c => by cases c <;> rfl⟩

/-- Settles O3: the fields are those of the definition, and each invariant is checked on the one state. -/
theorem resetState : Obligations.ResetState := by
  constructor
  · refine ⟨rfl, rfl, fun x => by cases x <;> exact ⟨rfl, rfl, rfl⟩, rfl, rfl, rfl, rfl, rfl, rfl, rfl,
      fun c => by cases c <;> rfl, rfl, rfl, rfl, rfl, rfl, rfl, rfl, rfl, rfl, rfl, rfl, rfl,
      fun l => by cases l <;> exact ⟨rfl, rfl, rfl, rfl, rfl⟩⟩
  · exact ⟨by decide, by decide, by decide, by decide, by decide, by decide, linesDriven_reset, by decide,
      gateSound_reset, currencySound_reset⟩

/-! ### Power (R6, R11) -/

/-- R6: a commit in flight is what an interruption stops. -/
theorem interruptStore_committing {s : State} (h : s.committing = true) :
    (interruptStore s).nvm.ship.marker = false ∧ (interruptStore s).nvm.settings = s.nvm.settings
      ∧ (interruptStore s).committing = false := by
  simp [interruptStore, h]

/-- R6: a store of settings in flight is what an interruption stops when no commit is. -/
theorem interruptStore_storing {s : State} (hc : s.committing = false) (hs : s.storing = true) :
    (interruptStore s).nvm.settings.marker = false ∧ (interruptStore s).nvm.ship = s.nvm.ship
      ∧ (interruptStore s).committing = false ∧ (interruptStore s).storing = false := by
  simp [interruptStore, hc, hs]

theorem interruptStore_idle {s : State} (hc : s.committing = false) (hs : s.storing = false) :
    interruptStore s = s := by
  simp [interruptStore, hc, hs]

/-- An interruption writes the non-volatile memory, its counter of free values and the marks of the store in flight. -/
theorem interruptStore_form (s : State) :
    interruptStore s = { s with
      committing := (interruptStore s).committing, storing := (interruptStore s).storing
      nvm := (interruptStore s).nvm, freeCount := (interruptStore s).freeCount } := by
  unfold interruptStore
  repeat' split
  all_goals rfl

@[simp] theorem interruptStore_pending (s : State) : (interruptStore s).pending = s.pending := by
  rw [interruptStore_form]

theorem event_unpowered {f : State → State} {s : State} (h : s.powered = false) : event f s = .next s := by
  simp [event, h]

theorem event_powered {f : State → State} {s : State} (h : s.powered = true) : event f s = .next (f s) := by
  simp [event, h]

/-- Log 4: what an engine without power does. -/
theorem exec_unpowered {i : Instr} {s : State} (h : s.powered = false) (hon : i ≠ .powerOn)
    (hrest : i ≠ .restartInputReturnToRest) (hidle : ∀ l, i ≠ .receiveLineReturnToIdle l) : exec i s = .next s := by
  rcases hr : i.request with _ | ⟨l, t, r⟩
  · cases i <;> simp only [Instr.request, reduceCtorEq] at hr
    case powerOn => exact absurd rfl hon
    case restartInputReturnToRest => exact absurd rfl hrest
    case receiveLineReturnToIdle l => exact absurd rfl (hidle l)
    all_goals simp [exec, execRestartLine, execEndOfInitializing, execTimebaseAdvance, execCommitCompletion,
      execStoreSettingsCompletion, execOpenSnapshotCompletion, execPairingTimeout, execRequestTimeout,
      execClearanceLapse, execCraneBecomesStale, execTankBecomesStale, execTransferRequestTimeout, execPublication,
      execHookPassComplete, execPredictionCompletion, execFrameReceived, execCharacterGapTimeout, execLineBreak,
      execTakeFrame, execFrameDeparture, execPowerLoss, dueEvent, event_unpowered h]
  · rw [exec_request hr]
    simp [command, h]

theorem exec_timebaseAdvance {s : State} (h : s.powered = true) :
    exec .timebaseAdvance s = .next { s with time := s.time + 1 } :=
  event_powered (f := fun s => { s with time := s.time + 1 }) h

/-- R6, R194: a loss of power interrupts a store in flight and leaves the lines at rest. -/
theorem exec_powerLoss {s : State} (h : s.powered = true) :
    exec .powerLoss s = .next
      { interruptStore s with
        powered := false
        monitor :=
          { (interruptStore s).monitor with
            caution := { (interruptStore s).monitor.caution with asserted := false }
            stop := { (interruptStore s).monitor.stop with asserted := false } }
        gate := { (interruptStore s).gate with inhibit := ⟨true, true⟩ } } := by
  simp [exec, execPowerLoss, event_powered h]

/-- R6, R11: power-on by whether a commit, a store of settings or neither is in flight. -/
theorem powerOn_completes (s : State) : ∃ t, exec .powerOn s = .next t
    ∧ t = { State.reset with nvm := t.nvm, freeCount := t.freeCount, pending := s.pending }
    ∧ (s.committing = false → s.storing = false → t.nvm = s.nvm ∧ t.freeCount = s.freeCount)
    ∧ (s.committing = true → t.nvm.ship.marker = false ∧ t.nvm.settings = s.nvm.settings)
    ∧ (s.committing = false → s.storing = true → t.nvm.settings.marker = false ∧ t.nvm.ship = s.nvm.ship) := by
  refine ⟨powerOnState s, rfl, by simp [powerOnState], fun hc hs => ?_, fun hc => ?_, fun hc hs => ?_⟩
  · simp [powerOnState, interruptStore_idle hc hs]
  · obtain ⟨hm, hw, _⟩ := interruptStore_committing hc
    exact ⟨hm, hw⟩
  · obtain ⟨hm, hd, _⟩ := interruptStore_storing hc hs
    exact ⟨hm, hd⟩

theorem interruptStore_commit_over (s : State) : (interruptStore s).committing = false := by
  unfold interruptStore
  split
  · rfl
  · rename_i h
    split <;> simpa using h

/-- Settles O2, by the cases of an interruption (`interruptStore`) and, without power, over the commands. -/
theorem powerAndTimebase : Obligations.PowerAndTimebase := by
  refine ⟨powerOn_completes, fun s hp => ⟨_, exec_powerLoss hp, rfl, rfl, rfl, rfl, ?_, ?_, ?_, ?_⟩,
    fun i s => exec_unpowered, fun s hp => ⟨exec_timebaseAdvance hp, fun ht => ?_⟩⟩
  · exact interruptStore_commit_over s
  · intro hc hs
    dsimp only
    rw [interruptStore_idle hc hs]
  · exact fun hc => (interruptStore_committing hc).1
  · intro hc hs
    obtain ⟨hm, _, _, hst⟩ := interruptStore_storing hc hs
    exact ⟨hm, hst⟩
  · have hwrap : s.time + 1 = 0#32 := by rw [ht]; rfl
    rw [exec_timebaseAdvance hp, hwrap]

/-! ### Reads (R3, R15, R29, R30, R34) -/

@[simp] theorem itemValue_onLink (l : Link) (f : LinkUnit → LinkUnit) (s : State) (item : Nat) :
    itemValue (s.onLink l f) item = itemValue s item := rfl

theorem shipDataRead_completes {s : State} {l : Link} {tag : Byte} {block index : Nat}
    (h : Ready s l (.readShipData block index)) :
    (∀ x, indexOk block index = true → getEntry s.ship block index = some x →
      Answers (.readShipData l tag block index) l (.readShipData block index) tag
        ⟨.done, encU 1 block ++ encU 1 index ++ x.bytes⟩ s)
    ∧ (indexOk block index = true → getEntry s.ship block index = none →
      Refuses (.readShipData l tag block index) l (.readShipData block index) tag .notFound s)
    ∧ (indexOk block index = false →
      Refuses (.readShipData l tag block index) l (.readShipData block index) tag .badValue s) := by
  refine ⟨fun x hi hx => ?_, fun hi hx => ?_, fun hi => ?_⟩
  all_goals exact command_quiet h (by simp [bodyReadShipData, refuse, *])

theorem settingRead_completes {s : State} {l : Link} {tag : Byte} {item : Nat} (h : Ready s l (.readSetting item)) :
    (∀ v, itemValue s item = some v →
      Answers (.readSetting l tag item) l (.readSetting item) tag ⟨.done, encU 1 item ++ encU 4 v⟩ s)
    ∧ (itemValue s item = none → Refuses (.readSetting l tag item) l (.readSetting item) tag .notFound s) := by
  refine ⟨fun v hv => ?_, fun hv => ?_⟩
  all_goals exact command_quiet h (by simp [bodyReadSetting, refuse, *])

theorem lotRead_completes {s : State} {l : Link} {tag : Byte} {n : Nat} (h : Ready s l (.readLot n)) :
    (∀ slot k, findLot s.cond.lots n = some (slot, k) →
      Answers (.readLot l tag n) l (.readLot n) tag ⟨.done, lotImage k ++ encU 2 slot⟩ s)
    ∧ (findLot s.cond.lots n = none → Refuses (.readLot l tag n) l (.readLot n) tag .notFound s) := by
  refine ⟨fun slot k hk => ?_, fun hk => ?_⟩
  all_goals exact command_quiet h (by simp [bodyReadLot, refuse, *])

theorem slotQuery_completes {s : State} {l : Link} {tag : Byte} {n : Nat} (h : Ready s l (.querySlot n)) :
    (511 < n → Refuses (.querySlot l tag n) l (.querySlot n) tag .badValue s)
    ∧ (n ≤ 511 → tget s.cond.lots n = none →
      Answers (.querySlot l tag n) l (.querySlot n) tag ⟨.done, encU 1 0⟩ s)
    ∧ (∀ k, n ≤ 511 → tget s.cond.lots n = some k →
      Answers (.querySlot l tag n) l (.querySlot n) tag
        ⟨.done, encU 1 k.state.code ++ encU 2 k.id ++ flagsByte [k.modified, k.discrepancy]⟩ s) := by
  refine ⟨fun hn => ?_, fun hn hk => ?_, fun k hn hk => ?_⟩
  · exact command_quiet h (by simp [bodyQuerySlot, refuse, hn])
  · exact command_quiet h (by simp [bodyQuerySlot, Nat.not_lt.mpr hn, hk])
  · exact command_quiet h (by simp [bodyQuerySlot, Nat.not_lt.mpr hn, hk])

theorem sequenceRead_completes {s : State} {l : Link} {tag : Byte} {n : Nat} (h : Ready s l (.readSequence n)) :
    (1 ≤ n → s.cond.seq.length ≤ 56 * n → Refuses (.readSequence l tag n) l (.readSequence n) tag .badValue s)
    ∧ ((n = 0 ∨ 56 * n < s.cond.seq.length) →
      Answers (.readSequence l tag n) l (.readSequence n) tag ⟨.done, sequencePage n s.cond⟩ s) := by
  refine ⟨fun h1 hn => ?_, fun hn => ?_⟩
  · exact command_quiet h (by simp [bodyReadSequence, refuse, h1, hn])
  · have hpage : ¬ (1 ≤ n ∧ s.cond.seq.length ≤ 56 * n) := by omega
    exact command_quiet h (if_neg hpage)

/-- Settles O23: each body answers and changes nothing, so its command leaves the state with the reply queued. -/
theorem storeAndStowageReadsComplete : Obligations.StoreAndStowageReadsComplete :=
  ⟨fun _ _ _ => ⟨fun _ _ => shipDataRead_completes, fun _ => settingRead_completes⟩,
    fun _ _ _ _ => ⟨lotRead_completes, slotQuery_completes, sequenceRead_completes⟩⟩

end Sys2Proof.Machine
end

section
/-! The commands that write the ship data and begin or complete a store. -/

namespace Sys2Proof.Machine

/-! ### Write Ship Data (R2) -/

/-- R2: the body on a state whose links alone differ, by the checks in their order. -/
theorem writeShipData_quiet {s : State} {l : Link} {tag : Byte} {block index : Nat} {e : List Byte}
    {st : Status}
    (h : Ready s l (.writeShipData block index e))
    (hb : ∀ t, t.committing = s.committing → bodyWriteShipData block index e t = refuse st t) :
    Refuses (.writeShipData l tag block index e) l (.writeShipData block index e) tag st s :=
  command_quiet h (hb _ rfl)

/-- R2: an entry in range is written, or made unwritten. -/
theorem writeShipData_writes {s : State} {l : Link} {tag : Byte} {block index : Nat} {e : List Byte}
    {d : ShipData}
    (h : Ready s l (.writeShipData block index e))
    (hb : ∀ t, t.committing = s.committing → t.ship = s.ship →
      bodyWriteShipData block index e t = doneWith { t with ship := d }) :
    Completes (.writeShipData l tag block index e) l s { s with ship := d }
      (replyFrame (Reply.bare .done) 0x02#8 tag) :=
  command_reply h (hb _ rfl rfl) (holds_reserve h.none l _ _)
    (congrArg (fun t : State => ({ t with ship := d } : State)) (standing_onLink (standing_reserve _ _ _)))

/-- Settles O24: each clause is one branch of the body's checks. -/
theorem writeShipDataCompletes : Obligations.WriteShipDataCompletes := by
  intro s l tag block index e r i h
  refine ⟨fun hf => ?_, fun hf hi => ?_, fun hf hi => ⟨fun he hc => ?_, fun he hc => ?_,
    fun x he hx => ⟨fun ho => ?_, fun ho hc => ?_, fun ho hc => ?_⟩⟩⟩
  · exact writeShipData_quiet h fun t ht => by simp [bodyWriteShipData, hf]
  · exact writeShipData_quiet h fun t ht => by simp [bodyWriteShipData, hf, hi]
  · subst he
    exact writeShipData_writes h fun t ht hd => by simp [bodyWriteShipData, hf, hi, ht, hd, hc]
  · subst he
    exact writeShipData_quiet h fun t ht => by simp [bodyWriteShipData, hf, hi, ht, hc]
  · exact writeShipData_quiet h fun t ht => by simp [bodyWriteShipData, hf, hi, he, hx, ho]
  · exact writeShipData_writes h fun t ht hd => by simp [bodyWriteShipData, hf, hi, ht, hd, he, hx, ho, hc]
  · exact writeShipData_quiet h fun t ht => by simp [bodyWriteShipData, hf, hi, ht, he, hx, ho, hc]

end Sys2Proof.Machine
end

section
/-! The entry into SERVICE, from INITIALIZING and by a commit, and the stores that begin and complete. -/

namespace Sys2Proof.Machine

/-! ### What latching does to a link -/

/-- R182: latching an event on some links sets its bit on those. -/
theorem latchOn_notices (e : Event) (ls : List Link) (s : State) (l : Link) :
    ((latchOn e ls s).links.get l).notices = (s.links.get l).notices ||| (if l ∈ ls then e.flag else 0#16) := by
  induction ls generalizing s with
  | nil => simp [latchOn]
  | cons m ls ih =>
    have hm : ((latch e m s).links.get l).notices
        = (s.links.get l).notices ||| (if l = m then e.flag else 0#16) := by
      rw [latch, onLink_get]
      split
      · exact latch_unit_notices e _
      · simp
    calc ((latchOn e (m :: ls) s).links.get l).notices
        = ((latch e m s).links.get l).notices ||| (if l ∈ ls then e.flag else 0#16) := ih _
      _ = (s.links.get l).notices ||| (if l ∈ m :: ls then e.flag else 0#16) := by
        rw [hm, BitVec.or_assoc]
        by_cases h : l = m
        · subst h
          by_cases h : l ∈ ls <;> simp [h]
        · simp [h]

theorem mem_noticeDue {p : OutPlace} {u : LinkUnit} (h : p ∈ u.outbound) : p ∈ u.noticeDue.outbound := by
  unfold LinkUnit.noticeDue
  repeat' split
  · exact h
  · exact List.mem_append_left _ h
  · exact h

theorem mem_latch_unit {p : OutPlace} {e : Event} {u : LinkUnit} (h : p ∈ u.outbound) : p ∈ (u.latch e).outbound := by
  unfold LinkUnit.latch
  split
  · exact h
  · dsimp only
    split
    · exact mem_noticeDue (u := { u with notices := u.notices ||| e.flag }) h
    · exact h

/-- Latching removes no place from a queue. -/
theorem mem_latchOn {p : OutPlace} {e : Event} {ls : List Link} {l : Link} {s : State}
    (h : p ∈ (s.links.get l).outbound) : p ∈ ((latchOn e ls s).links.get l).outbound := by
  induction ls generalizing s with
  | nil => exact h
  | cons m ls ih =>
    refine ih (s := latch e m s) ?_
    rw [latch, onLink_get]
    split
    · exact mem_latch_unit h
    · exact h

/-! ### What the close of a step leaves of a context -/

theorem standing_ctx (s : State) (x : Ctx) : s.standing.ctx x = (s.ctx x).standing := by cases x <;> rfl

theorem settle_ctx (s : State) (x : Ctx) : ((settle s).ctx x).standing = (s.ctx x).standing := by
  rw [← standing_ctx, settle_standing, standing_ctx]

@[simp] theorem settle_ctx_set (s : State) (x : Ctx) : ((settle s).ctx x).set = (s.ctx x).set := by
  have h := congrArg CtxState.set (settle_ctx s x)
  exact h

@[simp] theorem settle_ctx_sticky (s : State) (x : Ctx) : ((settle s).ctx x).sticky = (s.ctx x).sticky := by
  have h := congrArg CtxState.sticky (settle_ctx s x)
  exact h

@[simp] theorem settle_ctx_gen (s : State) (x : Ctx) : ((settle s).ctx x).gen = (s.ctx x).gen := by
  have h := congrArg CtxState.gen (settle_ctx s x)
  exact h

@[simp] theorem settle_listOf (s : State) (x : Ctx) : listOf (settle s) x = listOf s x := by
  cases x <;> simp [listOf]

@[simp] theorem settle_liftRec (s : State) (c : CraneId) : (settle s).liftRec c = s.liftRec c := by
  simp [State.liftRec]

@[simp] theorem settle_notices (s : State) (l : Link) :
    ((settle s).links.get l).notices = (s.links.get l).notices := by
  have h := congrArg LinkUnit.notices (standing_startTx s.mode (s.links.get l))
  rw [settle_get]
  exact h

/-! ### Entering SERVICE (R10) -/

/-- R42: an abandoned Open Snapshot writes its mark and the outbound queue of L0. -/
theorem abandonSnapshot_form (s : State) :
    abandonSnapshot s = { s with snapshotOp := none, links := (abandonSnapshot s).links } := by
  cases h : s.snapshotOp with
  | some q => simp only [abandonSnapshot, h]; rfl
  | none => simp only [abandonSnapshot, h]; rw [← h]

@[simp] theorem abandonSnapshot_ship (s : State) : (abandonSnapshot s).ship = s.ship := by
  rw [abandonSnapshot_form]

@[simp] theorem abandonSnapshot_settings (s : State) : (abandonSnapshot s).settings = s.settings := by
  rw [abandonSnapshot_form]

@[simp] theorem abandonSnapshot_nvm (s : State) : (abandonSnapshot s).nvm = s.nvm := by
  rw [abandonSnapshot_form]

@[simp] theorem abandonSnapshot_origin (s : State) : (abandonSnapshot s).origin = s.origin := by
  rw [abandonSnapshot_form]

@[simp] theorem abandonSnapshot_committing (s : State) : (abandonSnapshot s).committing = s.committing := by
  rw [abandonSnapshot_form]

@[simp] theorem abandonSnapshot_eval (s : State) : (abandonSnapshot s).eval = s.eval := by
  rw [abandonSnapshot_form]

@[simp] theorem abandonSnapshot_monitor (s : State) : (abandonSnapshot s).monitor = s.monitor := by
  rw [abandonSnapshot_form]

@[simp] theorem abandonSnapshot_gate (s : State) : (abandonSnapshot s).gate = s.gate := by
  rw [abandonSnapshot_form]

@[simp] theorem abandonSnapshot_ballast (s : State) : (abandonSnapshot s).ballast = s.ballast := by
  rw [abandonSnapshot_form]

@[simp] theorem abandonSnapshot_time (s : State) : (abandonSnapshot s).time = s.time := by
  rw [abandonSnapshot_form]

@[simp] theorem abandonSnapshot_snapshotOp (s : State) : (abandonSnapshot s).snapshotOp = none := by
  rw [abandonSnapshot_form]

@[simp] theorem abandonSnapshot_notices (s : State) (l : Link) :
    ((abandonSnapshot s).links.get l).notices = (s.links.get l).notices := by
  unfold abandonSnapshot
  split
  · rw [onLink_get]
    split <;> rfl
  · rfl

/-- A reply that waits is not the place of an Open Snapshot, so an abandoned one leaves it. -/
theorem mem_onReserved_reply {a : Awaits} {g : Byte → Byte → OutPlace} {f : Frame} {q : List OutPlace}
    (h : OutPlace.reply f ∈ q) : OutPlace.reply f ∈ onReserved a g q := by
  induction q with
  | nil => exact h
  | cons p q ih =>
    cases p <;> simp only [onReserved, List.mem_cons, reduceCtorEq, false_or] at h ⊢
    case reserved b k t =>
      split
      · exact List.mem_cons_of_mem _ h
      · exact List.mem_cons_of_mem _ (ih h)
    all_goals tauto

theorem mem_abandonSnapshot {f : Frame} {l : Link} {s : State} (h : OutPlace.reply f ∈ (s.links.get l).outbound) :
    OutPlace.reply f ∈ ((abandonSnapshot s).links.get l).outbound := by
  unfold abandonSnapshot
  split
  · rw [onLink_get]
    split
    · exact mem_onReserved_reply h
    · exact h
  · exact h

theorem mem_allLinks (l : Link) : l ∈ allLinks := by cases l <;> decide

/-- R10, R82: every context is cleared, and ACTUAL and PLAN advance; the stack is empty, so TRIAL does not. -/
theorem enterService_ctx (s : State) (x : Ctx) :
    (enterService s).ctx x = if x = .trial then (s.ctx x).emptied else (s.ctx x).emptied.advance := by
  cases x <;>
    simp [State.ctx, enterService, changeMode, advance, advanceActual, advancePlan, clearedCondition]

/-- R10: what the entry into SERVICE and the close of its step leave. -/
theorem enteredService (s : State) : EnteredService s (settle (enterService s)) s.ship s.settings where
  mode := by simp [enterService, changeMode]
  data := by simp [enterService, changeMode, clearedCondition]
  settings := by simp [enterService, changeMode, clearedCondition]
  cond := by simp [enterService, changeMode, clearedCondition]
  buffers := by simp [enterService, changeMode, clearedCondition]
  sets x := by cases x <;> simp [enterService_ctx, CtxState.emptied, CtxState.advance]
  gens :=
    have gen (x : Ctx) := (settle_ctx_gen (enterService s) x).trans (congrArg CtxState.gen (enterService_ctx s x))
    ⟨gen .actual, gen .plan, gen .trial⟩
  lists x := by cases x <;> simp [listOf, enterService, changeMode, clearedCondition]
  suspension := by simp [enterService, changeMode, clearedCondition]
  records := by simp [enterService, changeMode, clearedCondition]
  cranes c := by cases c <;> simp [State.liftRec, PerCrane.get, enterService, changeMode, clearedCondition,
    LiftRecord.serviced]
  gate := by simp [enterService, changeMode, clearedCondition]
  transfers := by simp [enterService, changeMode, clearedCondition]
  notices l := by simp [enterService, changeMode, latchOn_notices, clearedCondition, mem_allLinks]
  time := by simp [enterService, changeMode, clearedCondition]

/-- An entry into SERVICE reads of the state before it the notices, the contexts' generations, the records, the lift
gate, the ending log and the count. -/
theorem EnteredService.congr {s s' t : State} {d : ShipData} {w : Settings} (h : EnteredService s t d w)
    (hn : ∀ l, (s.links.get l).notices = (s'.links.get l).notices) (he : s.eval = s'.eval)
    (hm : s.monitor = s'.monitor) (hg : s.gate = s'.gate) (hb : s.ballast = s'.ballast) (ht : s.time = s'.time) :
    EnteredService s' t d w :=
  { h with
    gens := he ▸ h.gens
    records := hm ▸ h.records
    cranes := fun c => by
      have hc : s.liftRec c = s'.liftRec c := congrArg (fun g : Gate => g.recs.get c) hg
      exact hc ▸ h.cranes c
    transfers := hb ▸ h.transfers
    notices := fun l => hn l ▸ h.notices l
    time := ht ▸ h.time }

theorem enterService_mem {f : Frame} {l : Link} {s : State} (h : OutPlace.reply f ∈ (s.links.get l).outbound) :
    (settle (enterService s)).sends l f := by
  refine sends_settle (Or.inl (mem_latchOn ?_))
  simpa [clearedCondition] using mem_abandonSnapshot h

/-! ### The end of INITIALIZING (R7, R10, R17) -/

/-- R17: the settings in force after INITIALIZING, and their origin. -/
theorem loadSettings_form (s : State) :
    loadSettings s = { s with
      settings := if s.nvm.settings.marker && settingsInRange s.nvm.settings.contents then s.nvm.settings.contents
        else defaultSettings
      origin := if s.nvm.settings.marker && settingsInRange s.nvm.settings.contents then .stored else .defaults } := by
  unfold loadSettings
  split <;> rfl

/-- Settles O21: by the validity of the stored set (`enteredService`), and by the mode where the event is not due. -/
theorem endOfInitializingCompletes : Obligations.EndOfInitializingCompletes := by
  intro s hp w d
  have due (hm : s.mode = .initializing) : exec .endOfInitializing s = .next (settle (endInitializing s)) :=
    dueEvent_due (due := fun s => decide (s.mode = .initializing)) hp (decide_eq_true hm)
  refine ⟨fun hm hv => ⟨_, due hm, ?_, ?_⟩, fun hm hv => ⟨_, due hm, ?_⟩,
    fun hm => dueEvent_not (due := fun s => decide (s.mode = .initializing)) (decide_eq_false hm)⟩
  · simp only [endInitializing, hv, if_true]
    have h := enteredService (loadShipData (loadSettings s))
    rw [loadSettings_form] at h ⊢
    exact h.congr (fun _ => rfl) rfl rfl rfl rfl rfl
  · simp [endInitializing, hv, enterService, changeMode, clearedCondition, loadShipData, loadSettings_form]
  · simp [endInitializing, hv, changeMode, loadShipData, loadSettings_form, d, w]

/-! ### Commits of ship data and stores of settings (R4, R5, R6, R16) -/

/-- R180: the first place kept for an operation takes its reply. -/
theorem keptPlace_fill {a : Awaits} {k tag : Byte} {r : Reply} {s : State} (h : KeptPlace a k tag s) :
    OutPlace.reply (replyFrame r k tag) ∈ (s.links.l0.fill a r).outbound := by
  obtain ⟨p, q, hq, hp⟩ := h
  simp [LinkUnit.fill, hq, onReserved_append hp, onReserved]

theorem commitShipData_begins {s : State} {l : Link} {tag : Byte} (h : Ready s l .commitShipData) :
    (s.committing = false → s.storing = false → commitCheck s.ship = none →
      Begins (.commitShipData l tag) l .commitShipData tag .commit s
        { s with committing := true, nvm := { s.nvm with ship := { s.nvm.ship with marker := false } } })
    ∧ (∀ f, s.committing = false → s.storing = false → commitCheck s.ship = some f →
      Answers (.commitShipData l tag) l .commitShipData tag ⟨.badImage, encU 1 f.1 ++ encU 1 f.2⟩ s)
    ∧ (s.committing = true ∨ s.storing = true →
      Refuses (.commitShipData l tag) l .commitShipData tag .busy s) := by
  refine ⟨fun hc hs hk => ?_, fun f hc hs hk => ?_, fun hb => ?_⟩
  · exact command_inFlight h (s1 := startCommit (s.onLink l (LinkUnit.reserve _ tag)))
      (by simp [bodyCommitShipData, hc, hs, hk]) (holds_reserve h.none l _ _)
      (congrArg startCommit (standing_onLink (standing_reserve _ _ _)))
  · exact command_quiet h (by simp [bodyCommitShipData, hc, hs, hk])
  · exact command_quiet h (by simp [bodyCommitShipData, hb, refuse])

theorem storeSettings_begins {s : State} {l : Link} {tag : Byte} (h : Ready s l .storeSettings) :
    (s.committing = false → s.storing = false →
      Begins (.storeSettings l tag) l .storeSettings tag .store s
        { s with storing := true, nvm := { s.nvm with settings := { s.nvm.settings with marker := false } } })
    ∧ (s.committing = true ∨ s.storing = true → Refuses (.storeSettings l tag) l .storeSettings tag .busy s) := by
  refine ⟨fun hc hs => ?_, fun hb => ?_⟩
  · exact command_inFlight h (if_neg (by simp [hc, hs])) (holds_reserve h.none l _ _)
      (congrArg (fun t : State =>
        ({ t with storing := true, nvm := { t.nvm with settings := { t.nvm.settings with marker := false } } } : State))
        (standing_onLink (standing_reserve _ _ _)))
  · exact command_quiet h (by simp [bodyStoreSettings, hb.symm, refuse])

theorem commitCompletion_completes {s : State} (hp : s.powered = true) (hc : s.committing = true) :
    ∃ t, exec .commitCompletion s = .next t ∧ EnteredService s t (trimStrength s.ship) s.settings
      ∧ t.committing = false ∧ t.nvm = { s.nvm with ship := ⟨true, trimStrength s.ship⟩ } ∧ t.origin = s.origin
      ∧ (∀ k tag, KeptPlace .commit k tag s → t.sends .l0 (replyFrame (Reply.bare .done) k tag)) := by
  refine ⟨settle (completeCommit s), dueEvent_due hp hc, ?_, ?_, ?_, ?_, fun k tag hk => ?_⟩
  · refine (enteredService _).congr (fun l => ?_) rfl rfl rfl rfl rfl
    rw [onLink_get]
    split <;> rfl
  · simp [completeCommit, enterService, changeMode, clearedCondition]
  · simp [completeCommit, enterService, changeMode, clearedCondition]
  · simp [completeCommit, enterService, changeMode, clearedCondition]
  · refine enterService_mem ?_
    rw [onLink_get_self]
    exact keptPlace_fill hk

theorem storeSettingsCompletion_completes {s : State} (hp : s.powered = true) (hs : s.storing = true) :
    ∃ t, exec .storeSettingsCompletion s = .next t
      ∧ t.standing =
        ({ s with storing := false, nvm := { s.nvm with settings := ⟨true, s.settings⟩ } } : State).standing
      ∧ (∀ k tag, KeptPlace .store k tag s → t.sends .l0 (replyFrame (Reply.bare .done) k tag)) := by
  refine ⟨settle (completeStore s), dueEvent_due hp hs, ?_, fun k tag hk => ?_⟩
  · rw [settle_standing]
    exact standing_onLink (standing_fill _ _ _)
  · refine sends_settle (Or.inl ?_)
    rw [completeStore, onLink_get_self]
    exact keptPlace_fill hk

/-- Settles O25: a begin by `command_inFlight`, a completion by the entry into SERVICE or the fill of the place kept. -/
theorem storesBeginAndComplete : Obligations.StoresBeginAndComplete :=
  ⟨fun _ _ _ => ⟨commitShipData_begins, storeSettings_begins⟩,
    fun _ hp => ⟨commitCompletion_completes hp, dueEvent_not⟩,
    fun _ hp => ⟨storeSettingsCompletion_completes hp, dueEvent_not⟩⟩

end Sys2Proof.Machine
end

section
/-! The RESTART line and the Restart command. -/

namespace Sys2Proof.Machine

/-! ### RESTART (R7, R11, R174, R183) -/

/-- R7, R183: the notice frame that a link at RESTART begins to send, and the link that sends it. -/
def restartedLink (l : Link) (u : LinkUnit) : LinkUnit :=
  { LinkUnit.reset l with
    lineLow := u.lineLow, notices := Event.mode.flag
    outbound := [.sending { kind := 0xFF#8, tag := 0#8, payload := [0#8, 1#8, 0#8] }] }

/-- R7, R174, R183: MODE is latched on a link at its RESTART value, whose mask lets it through, and the notice frame
begins. -/
theorem restarted_latch_startTx (l : Link) (u : LinkUnit) :
    ((u.restarted l).latch .mode).startTx .initializing = restartedLink l u := by
  have hmask : (defaultMask l).getLsbD Event.mode.bit = true := by cases l <;> decide
  have hframe : beBytes 2 Event.mode.flag.toNat ++ beBytes 1 Mode.initializing.code = [0#8, 1#8, 0#8] := by decide
  simp [LinkUnit.latch, LinkUnit.restarted, LinkUnit.reset, LinkUnit.noticeDue, LinkUnit.hasFree, LinkUnit.startTx,
    restartedLink, hmask, OutPlace.isSending, beginSending, LinkUnit.noticeFrame, hframe]

theorem restartEngine_form (s : State) :
    restartEngine s = { restartState (interruptStore s) with links := (restartEngine s).links } := latchOn_form _ _ _

theorem restartEngine_get (s : State) (l : Link) :
    ((restartEngine s).links.get l).startTx .initializing = restartedLink l (s.links.get l) := by
  have hl : (interruptStore s).links = s.links := by rw [interruptStore_form]
  rw [← restarted_latch_startTx, ← hl]
  cases l <;> rfl

/-- In INITIALIZING the arbiter chooses nothing and every line is at rest, so the close of a RESTART begins the notice
frames and does nothing else. -/
theorem settle_restartEngine (s : State) : settle (restartEngine s) = startAllTx (restartEngine s) := by
  rw [restartEngine_form]
  rfl

theorem startAllTx_form (s : State) : startAllTx s = { s with links := (startAllTx s).links } := rfl

/-- R6: of the stored ship data an interruption changes that of a commit in flight alone, whose marker it leaves
clear. -/
theorem interruptStore_ship (s : State) :
    (interruptStore s).nvm.ship.marker = (s.nvm.ship.marker && !s.committing)
      ∧ (s.committing = false → (interruptStore s).nvm.ship = s.nvm.ship) := by
  cases hc : s.committing <;> cases hs : s.storing <;> simp [interruptStore, hc, hs]

/-- R6: of the stored settings it changes those of a store in flight alone. -/
theorem interruptStore_settings (s : State) :
    (s.storing = false ∨ s.committing = true → (interruptStore s).nvm.settings = s.nvm.settings)
      ∧ (s.storing = true → s.committing = false → (interruptStore s).nvm.settings.marker = false) := by
  cases hc : s.committing <;> cases hs : s.storing <;> simp [interruptStore, hc, hs]

/-- R11: what RESTART leaves, once every link has begun its notice frame. -/
theorem restarted (s : State) : Restarted s (startAllTx (restartEngine s)) := by
  have links (l : Link) : (startAllTx (restartEngine s)).links.get l = restartedLink l (s.links.get l) := by
    rw [startAllTx_get, ← restartEngine_get, restartEngine_form]
    rfl
  rw [startAllTx_form, restartEngine_form] at links ⊢
  generalize (startAllTx _).links = ls at links ⊢
  have form := interruptStore_form s
  exact {
    mode := rfl
    time := rfl
    cond := by rw [form]; rfl
    buffers := ⟨rfl, rfl, rfl, rfl⟩
    stores := ⟨rfl, rfl⟩
    eval := rfl
    monitor := by rw [form]; rfl
    gate := rfl
    ballast := rfl
    kept := by rw [form]; exact ⟨rfl, rfl, rfl⟩
    markers := interruptStore_ship s
    settingsMarker := interruptStore_settings s
    links := links }

@[simp] theorem restartEngine_armed (s : State) : (restartEngine s).restartArmed = s.restartArmed := by
  rw [restartEngine_form, interruptStore_form]
  rfl

@[simp] theorem restartEngine_pending (s : State) : (restartEngine s).pending = s.pending := by
  rw [restartEngine_form, interruptStore_form]
  rfl

@[simp] theorem restartEngine_powered (s : State) : (restartEngine s).powered = true := by
  rw [restartEngine_form]
  rfl

/-- RESTART reads nothing of the input's latch and, of the links, the levels of the receive lines alone. -/
theorem Restarted.congr {s t : State} {b : Bool} {ls : Links}
    (h : Restarted { s with restartArmed := b, links := ls } t)
    (hl : ∀ l, (ls.get l).lineLow = (s.links.get l).lineLow) : Restarted s t :=
  { h with links := fun l => hl l ▸ h.links l }

theorem exec_restartLine_armed {s : State} (hp : s.powered = true) (ha : s.restartArmed = true) :
    exec .restartLine s = .next (startAllTx (restartEngine { s with restartArmed := false })) := by
  simp [exec, execRestartLine, event_powered hp, ha]

theorem exec_restartLine_spent {s : State} (ha : s.restartArmed = false) : exec .restartLine s = .next s := by
  cases hp : s.powered
  · exact event_unpowered hp
  · simp [exec, execRestartLine, event_powered hp, ha]

theorem exec_restart {s : State} {l : Link} {tag : Byte} (h : Ready s l .restart) :
    exec (.restart l tag) s =
      .next (startAllTx (restartEngine (s.onLink l (LinkUnit.reserve Request.restart.kind tag)))) := by
  rw [← settle_restartEngine]
  exact command_ready h

/-- Settles O20: the line and the command leave the same state (`restarted`). -/
theorem restartCompletes : Obligations.RestartCompletes := by
  refine fun s => ⟨fun hp ha => ⟨_, exec_restartLine_armed hp ha, ?_, ?_, ?_, ?_⟩, exec_restartLine_spent,
    fun l tag h => ⟨_, exec_restart h, ?_, ?_, ?_, ?_⟩, rfl⟩
  · exact (restarted _).congr (b := false) (ls := s.links) fun _ => rfl
  · simp
  · simp
  · simp
  · refine (restarted (s.onLink l _)).congr (b := s.restartArmed) fun k => ?_
    rw [links_get_set]
    split
    · subst k; rfl
    · rfl
  · simp
  · simp
  · simp

end Sys2Proof.Machine
end

section
/-! Write Setting: what the item written brings at once, and the command's cases. -/

namespace Sys2Proof.Machine

/-! ### Staleness judged again (R149, R160; log 7) -/

/-- R149: a crane judged again takes the staleness that its age gives it; a latch may be set on its links. -/
theorem rejudgeCrane_form (s : State) (c : CraneId) : ∃ ls,
    rejudgeCrane s c = { s with
      gate := { s.gate with stale := s.gate.stale.set c (craneStaleNow s c) }, links := ls } := by
  cases hn : craneStaleNow s c with
  | false => exact ⟨s.links, by simp [rejudgeCrane, hn]; rfl⟩
  | true =>
    cases hs : s.gate.stale.get c with
    | false =>
      have e : rejudgeCrane s c = craneGoesStale c s := by simp [rejudgeCrane, hn, hs]
      exact ⟨_, e.trans (latchOn_form _ _ _)⟩
    | true =>
      have hset : s.gate.stale.set c true = s.gate.stale := by rw [← hs]; cases c <;> rfl
      exact ⟨s.links, by simp [rejudgeCrane, hn, hs, hset]⟩

theorem rejudgeCrane_holds {k t : Byte} {l : Link} {s : State} {c : CraneId} (h : (s.links.get l).holds k t) :
    ((rejudgeCrane s c).links.get l).holds k t := by
  unfold rejudgeCrane
  split
  · split
    · exact h
    · exact holds_latchOn h
  · exact h

theorem rejudgeCranes_form (s : State) : ∃ ls,
    rejudgeCranes s = { s with
      gate := { s.gate with stale := ⟨craneStaleNow s .one, craneStaleNow s .two⟩ }, links := ls } := by
  obtain ⟨l₁, h₁⟩ := rejudgeCrane_form s .one
  obtain ⟨l₂, h₂⟩ := rejudgeCrane_form (rejudgeCrane s .one) .two
  refine ⟨l₂, h₂.trans ?_⟩
  rw [h₁]
  rfl

theorem rejudgeCranes_holds {k t : Byte} {l : Link} {s : State} (h : (s.links.get l).holds k t) :
    ((rejudgeCranes s).links.get l).holds k t :=
  rejudgeCrane_holds (rejudgeCrane_holds h)

/-- A tank's row with another mark of staleness is judged alike. -/
theorem tankStaleNow_congr {s s' : State} {k : Nat} {b : Bool} (hr : s'.tankRow k = { s.tankRow k with stale := b })
    (hb : s'.ballast = s.ballast) (ht : s'.time = s.time) (hw : s'.settings = s.settings) :
    tankStaleNow s' k = tankStaleNow s k := by
  simp [tankStaleNow, grantedFor, tankFresh, hr, hb, ht, hw]

theorem tankRow_of_tget {s : State} {k : Nat} {r : TankRow} (h : tget s.cond.tanks k = some r) : s.tankRow k = r := by
  simp [State.tankRow, h]

/-- R160: a tank that holds a row and is judged again changes the row's mark alone; a latch may be set on its links. -/
theorem rejudgeTank_form {s : State} {k : Nat} {r : TankRow} (h : tget s.cond.tanks k = some r) : ∃ ts ls,
    rejudgeTank s k = { s with cond := { s.cond with tanks := ts }, links := ls }
      ∧ ∀ m, tget ts m = if m = k then some { r with stale := tankStaleNow s k } else tget s.cond.tanks m := by
  have hr := tankRow_of_tget h
  by_cases heq : r.stale = tankStaleNow s k
  · refine ⟨s.cond.tanks, s.links, ?_, fun m => ?_⟩
    · cases hn : tankStaleNow s k <;> simp [rejudgeTank, hn, hr, heq]
    · split
      · subst m
        rw [h, ← heq]
      · rfl
  · refine ⟨tput s.cond.tanks k { r with stale := tankStaleNow s k }, (rejudgeTank s k).links, ?_,
      fun m => tget_tput _ _ _ _⟩
    cases hn : tankStaleNow s k with
    | true =>
      have hs : r.stale = false := by simpa [hn] using heq
      have e : rejudgeTank s k = tankGoesStale k s := by simp [rejudgeTank, hn, hr, hs]
      rw [e, tankGoesStale, hr]
      exact latchOn_form _ _ _
    | false =>
      have hs : r.stale = true := by simpa [hn] using heq
      simp [rejudgeTank, hn, hr, hs]
      rfl

theorem rejudgeTank_holds {k t : Byte} {l : Link} {s : State} {n : Nat} (h : (s.links.get l).holds k t) :
    ((rejudgeTank s n).links.get l).holds k t := by
  unfold rejudgeTank
  split
  · split
    · exact h
    · exact holds_latchOn h
  · split <;> exact h

/-- R160: the rows named, which the table holds, are judged again, and no other is. -/
theorem rejudgeTanks_fold {ks : List Nat} {s : State} (h : ∀ k ∈ ks, tget s.cond.tanks k ≠ none) : ∃ ts ls,
    ks.foldl rejudgeTank s = { s with cond := { s.cond with tanks := ts }, links := ls }
      ∧ ∀ m, tget ts m =
        (tget s.cond.tanks m).map (fun r => if m ∈ ks then { r with stale := tankStaleNow s m } else r) := by
  induction ks generalizing s with
  | nil => exact ⟨s.cond.tanks, s.links, rfl, fun m => by simp⟩
  | cons k ks ih =>
    obtain ⟨r, hr⟩ := Option.ne_none_iff_exists'.mp (h k List.mem_cons_self)
    obtain ⟨ts, ls, e, hget⟩ := rejudgeTank_form hr
    have hrow (m : Nat) : ∃ b, (rejudgeTank s k).tankRow m = { s.tankRow m with stale := b } := by
      by_cases hm : m = k
      · subst m
        exact ⟨tankStaleNow s k, by simp [State.tankRow, e, hget, hr]⟩
      · exact ⟨(s.tankRow m).stale, by simp [State.tankRow, e, hget, hm]⟩
    have hnow (m : Nat) : tankStaleNow (rejudgeTank s k) m = tankStaleNow s m := by
      obtain ⟨b, hb⟩ := hrow m
      exact tankStaleNow_congr hb (by rw [e]) (by rw [e]) (by rw [e])
    have hheld : ∀ j ∈ ks, tget (rejudgeTank s k).cond.tanks j ≠ none := by
      intro j hj
      rw [e]
      dsimp only
      rw [hget]
      split
      · exact Option.some_ne_none _
      · exact h j (List.mem_cons_of_mem _ hj)
    obtain ⟨ts', ls', e', hget'⟩ := ih hheld
    refine ⟨ts', ls', e'.trans (by rw [e]), fun m => ?_⟩
    rw [hget', e]
    dsimp only
    rw [← e, hnow, hget]
    by_cases hm : m = k
    · subst m
      by_cases hks : k ∈ ks <;> simp [hr, hks]
    · simp [hm]

theorem tget_ne_none_of_mem {α : Type} {t : Table α} {k : Nat} (h : k ∈ t.map Prod.fst) : tget t k ≠ none := by
  induction t with
  | nil => cases h
  | cons p t ih =>
    by_cases hk : p.1 = k
    · simp [tget, hk]
    · have hne : k ≠ p.1 := fun e => hk e.symm
      simpa [tget, hk] using ih (by simpa [hne] using h)

theorem mem_of_tget {α : Type} {t : Table α} {k : Nat} {a : α} (h : tget t k = some a) : k ∈ t.map Prod.fst :=
  List.mem_map_of_mem (f := Prod.fst) (tget_mem h)

/-- R160: every tank that holds a row is judged again. -/
theorem rejudgeTanks_form (s : State) : ∃ ts ls,
    rejudgeTanks s = { s with cond := { s.cond with tanks := ts }, links := ls }
      ∧ ∀ m, tget ts m = (tget s.cond.tanks m).map (fun r => { r with stale := tankStaleNow s m }) := by
  obtain ⟨ts, ls, e, hget⟩ := rejudgeTanks_fold (s := s) fun _ => tget_ne_none_of_mem
  refine ⟨ts, ls, e, fun m => ?_⟩
  rw [hget]
  cases hr : tget s.cond.tanks m with
  | none => rfl
  | some r => simp only [Option.map_some, if_pos (mem_of_tget hr)]

theorem rejudgeTanks_holds {k t : Byte} {l : Link} {s : State} (h : (s.links.get l).holds k t) :
    ((rejudgeTanks s).links.get l).holds k t := by
  unfold rejudgeTanks
  generalize s.cond.tanks.map Prod.fst = ks
  induction ks generalizing s with
  | nil => exact h
  | cons n ks ih => exact ih (rejudgeTank_holds h)

/-- After the judgement a row's mark is the one its age gives, in the state that the judgement left. -/
theorem rejudgeTanks_staleNow {s : State} {k : Nat} {row : TankRow}
    (h : tget (rejudgeTanks s).cond.tanks k = some row) : row.stale = tankStaleNow (rejudgeTanks s) k := by
  obtain ⟨ts, ls, e, hget⟩ := rejudgeTanks_form s
  have hrow := tankRow_of_tget h
  rw [e] at h
  dsimp only at h
  rw [hget, Option.map_eq_some_iff] at h
  obtain ⟨r, hr, rfl⟩ := h
  refine (tankStaleNow_congr (b := tankStaleNow s k) ?_ (by rw [e]) (by rw [e]) (by rw [e])).symm
  rw [hrow, tankRow_of_tget hr]

/-! ### What the item written changes (R13, R14) -/

theorem writeItem_get_self {p : Option Particulars} {w : Settings} {code v : Nat} (hs : settingGet w code ≠ none)
    (hv : enumOk code v = true) :
    settingGet (writeItem p w code v).1 code = some (clampTo (itemRange p w.wIn code) v) := by
  have hc := enumOk_clampTo (p := p) (wIn := w.wIn) hv
  rw [writeItem_settings]
  split
  · rename_i h
    obtain ⟨rfl, _⟩ := h
    exact settingGet_put_self (Option.some_ne_none _) hc
  · exact settingGet_put_self hs hc

theorem writeItem_get_other {p : Option Particulars} {w : Settings} {code v other : Nat} (ho : other ≠ code)
    (hOut : other ≠ 0x35 ∨ code ≠ 0x34) : settingGet (writeItem p w code v).1 other = settingGet w other := by
  rw [writeItem_settings]
  split
  · rename_i h
    rw [settingGet_put_other _ _ ho, settingGet_put_other _ _ (hOut.resolve_right fun hne => hne h.1)]
  · exact settingGet_put_other _ _ ho

/-- R14: W_out rises with a W_in above it. -/
theorem writeItem_wOut (p : Option Particulars) (w : Settings) (v : Nat) :
    (writeItem p w 0x34 v).1.wOut = max w.wOut (clampTo (itemRange p w.wIn 0x34) v) := by
  rw [writeItem_settings]
  split
  · rename_i h
    exact (Nat.max_eq_right (Nat.le_of_lt h.2)).symm
  · rename_i h
    exact (Nat.max_eq_left (Nat.not_lt.mp fun hlt => h ⟨rfl, hlt⟩)).symm

/-- R13: a bound acted when it changed the value carried, or W_out. -/
theorem writeItem_clamped (p : Option Particulars) (w : Settings) (code v : Nat) :
    (writeItem p w code v).2 = true ↔ ¬ (clampTo (itemRange p w.wIn code) v = v
      ∧ ¬ (code = 0x34 ∧ w.wOut < clampTo (itemRange p w.wIn code) v)) := by
  unfold writeItem
  by_cases h : code = 0x34
  · subst h
    by_cases hlt : w.wOut < clampTo (itemRange p w.wIn 0x34) v
    · simp [settingPut, hlt]
    · simp [settingPut, hlt]
  · simp [h]

theorem limitSet_eq {a b : LimitSet} (h : ∀ k < 5, limitGet a k = limitGet b k) : a = b := by
  have h₀ : a.gmMin = b.gmMin := h 0 (by decide)
  have h₁ : a.heelMax = b.heelMax := h 1 (by decide)
  have h₂ : a.trimMax = b.trimMax := h 2 (by decide)
  have h₃ : a.draftMax = b.draftMax := h 3 (by decide)
  have h₄ : a.dispMax = b.dispMax := h 4 (by decide)
  cases a
  cases b
  simp_all

/-- The density of the sea and the limit sets are the items up to 0x0B. -/
theorem limits_eq {a b : Settings} (h : ∀ k ≤ 0x0B, settingGet a k = settingGet b k) :
    a.seaDensity = b.seaDensity ∧ a.harbour = b.harbour ∧ a.lift = b.lift := by
  refine ⟨Option.some.inj (h 0x01 (by decide)), limitSet_eq fun k hk => ?_, limitSet_eq fun k hk => ?_⟩
  · have harbour (w : Settings) : settingGet w (2 * k + 2) = some (limitGet w.harbour k) := by
      interval_cases k <;> rfl
    exact Option.some.inj (by rw [← harbour, ← harbour, h _ (by omega)])
  · have lift (w : Settings) : settingGet w (2 * k + 3) = some (limitGet w.lift k) := by
      interval_cases k <;> rfl
    exact Option.some.inj (by rw [← lift, ← lift, h _ (by omega)])

theorem settingPut_limits (w : Settings) {code : Nat} (v : Nat) (h : code ≤ 0x0B) :
    settingPut w code v = { w with
      seaDensity := (settingPut w code v).seaDensity, harbour := (settingPut w code v).harbour
      lift := (settingPut w code v).lift } := by
  interval_cases code <;> rfl

/-- R13: a write changes the density of the sea or a limit set when it changes an item up to 0x0B. -/
theorem writeItem_judged {p : Option Particulars} {w : Settings} {code v : Nat} :
    ((writeItem p w code v).1.seaDensity ≠ w.seaDensity ∨ (writeItem p w code v).1.harbour ≠ w.harbour
      ∨ (writeItem p w code v).1.lift ≠ w.lift) ↔ code ≤ 0x0B ∧ (writeItem p w code v).1 ≠ w := by
  by_cases hc : code ≤ 0x0B
  · have hne : code ≠ 0x34 := by omega
    have hput := settingPut_limits w (clampTo (itemRange p w.wIn code) v) hc
    rw [writeItem_settings, if_neg (fun h => hne h.1)]
    constructor
    · intro h
      refine ⟨hc, fun e => ?_⟩
      simp [e] at h
    · rintro ⟨_, h⟩
      by_contra hno
      simp only [not_or, not_not] at hno
      obtain ⟨h₁, h₂, h₃⟩ := hno
      exact h (by rw [hput, h₁, h₂, h₃])
  · have heq := limits_eq (a := (writeItem p w code v).1) (b := w) fun k hk =>
      writeItem_get_other (by omega) (.inl (by omega))
    obtain ⟨h₁, h₂, h₃⟩ := heq
    simp [h₁, h₂, h₃, hc]

/-! ### The write applied (R13, R149, R160) -/

theorem rejudgedUnder_calm {new : Settings} {s : State} (hc : new.hookStale = s.settings.hookStale)
    (ht : new.tankStale = s.settings.tankStale) : rejudgedUnder new s = { s with settings := new } := by
  simp [rejudgedUnder, hc, ht]

theorem rejudgedUnder_holds {k t : Byte} {l : Link} {new : Settings} {s : State} (h : (s.links.get l).holds k t) :
    ((rejudgedUnder new s).links.get l).holds k t := by
  have hc : ((if new.hookStale = s.settings.hookStale then { s with settings := new }
      else rejudgeCranes { s with settings := new }).links.get l).holds k t := by
    split
    · exact h
    · exact rejudgeCranes_holds h
  unfold rejudgedUnder
  dsimp only
  split
  · exact hc
  · exact rejudgeTanks_holds hc

theorem applySetting_holds {k t : Byte} {l : Link} {code v : Nat} {s : State} (h : (s.links.get l).holds k t) :
    ((applySetting code v s).links.get l).holds k t := by
  rw [applySetting_eq]
  dsimp only
  repeat' split
  all_goals exact rejudgedUnder_holds h

theorem applySetting_settings (code v : Nat) (s : State) :
    (applySetting code v s).settings = (writeItem s.ship.particulars s.settings code v).1 := by
  have h := congrArg (fun p => p.2.2.2) (applySetting_stores code v s)
  exact h

/-- An item past the limit sets advances ACTUAL at most, beside the staleness judged again. -/
theorem applySetting_past_limits {code : Nat} (v : Nat) (s : State) (h : ¬ code ≤ 0x0B) : ∃ e,
    applySetting code v s =
      { rejudgedUnder (writeItem s.ship.particulars s.settings code v).1 s with eval := e } := by
  have hj : ¬ _ := fun hj => h (writeItem_judged (p := s.ship.particulars) (w := s.settings) (v := v).mp hj).1
  rw [applySetting_eq]
  dsimp only
  rw [if_neg (fun hm => hj (of_decide_eq_true hm.2))]
  split
  · exact ⟨_, rfl⟩
  · exact ⟨_, rfl⟩

/-- R13: an item that is no stale period advances the three contexts for a limit that changed, and nothing otherwise. -/
theorem applySetting_no_period {code : Nat} (v : Nat) (s : State) (hc : code ≠ 0x2C) (ht : code ≠ 0x2D) :
    applySetting code v s =
      if s.mode = .service ∧ code ≤ 0x0B ∧ (writeItem s.ship.particulars s.settings code v).1 ≠ s.settings then
        advanceAllContexts { s with settings := (writeItem s.ship.particulars s.settings code v).1 }
      else { s with settings := (writeItem s.ship.particulars s.settings code v).1 } := by
  have period {other : Nat} (ho : other ≠ code) (h35 : other ≠ 0x35) :=
    writeItem_get_other (p := s.ship.particulars) (w := s.settings) (v := v) ho (.inl h35)
  have hcalm := rejudgedUnder_calm (Option.some.inj (period (other := 0x2C) hc.symm (by decide)))
    (Option.some.inj (period (other := 0x2D) ht.symm (by decide)))
  rw [applySetting_eq]
  dsimp only
  rw [hcalm]
  simp only [decide_eq_true_eq, writeItem_judged]
  split
  · rfl
  · simp [taintChanged]

theorem rejudgedUnder_cranes {new : Settings} {s : State} (hc : new.hookStale ≠ s.settings.hookStale)
    (ht : new.tankStale = s.settings.tankStale) : rejudgedUnder new s = rejudgeCranes { s with settings := new } := by
  simp [rejudgedUnder, hc, ht]

theorem rejudgedUnder_tanks {new : Settings} {s : State} (hc : new.hookStale = s.settings.hookStale)
    (ht : new.tankStale ≠ s.settings.tankStale) : rejudgedUnder new s = rejudgeTanks { s with settings := new } := by
  simp [rejudgedUnder, hc, ht]

/-- R149: a write of the crane's stale period judges every crane again. -/
theorem applySetting_hookStale (v : Nat) (s : State) :
    (applySetting 0x2C v s).cond = s.cond
      ∧ ((applySetting 0x2C v s).settings ≠ s.settings →
        ∀ k, (applySetting 0x2C v s).gate.stale.get k = craneStaleNow (applySetting 0x2C v s) k) := by
  obtain ⟨e, he⟩ := applySetting_past_limits (code := 0x2C) v s (by decide)
  have hnew := writeItem_settings s.ship.particulars s.settings 0x2C v
  rw [if_neg (fun h => absurd h.1 (by decide))] at hnew
  by_cases hc : (writeItem s.ship.particulars s.settings 0x2C v).1.hookStale = s.settings.hookStale
  · have hsame : (writeItem s.ship.particulars s.settings 0x2C v).1 = s.settings := by
      rw [hnew] at hc ⊢
      exact congrArg (fun n => { s.settings with hookStale := n }) hc
    exact ⟨by rw [he, rejudgedUnder_calm hc (by rw [hsame])],
      fun hne => absurd (by rw [applySetting_settings, hsame]) hne⟩
  · obtain ⟨ls, hls⟩ := rejudgeCranes_form
      { s with settings := (writeItem s.ship.particulars s.settings 0x2C v).1 }
    rw [he, rejudgedUnder_cranes hc (by rw [hnew]; rfl), hls]
    exact ⟨rfl, fun _ k => by cases k <;> rfl⟩

/-- R160: a write of the tank's stale period judges every tank again. -/
theorem applySetting_tankStale (v : Nat) (s : State) :
    ({ (applySetting 0x2D v s).cond with tanks := s.cond.tanks } : Condition) = s.cond
      ∧ ((applySetting 0x2D v s).settings ≠ s.settings →
        ∀ k row, tget (applySetting 0x2D v s).cond.tanks k = some row →
          row.stale = tankStaleNow (applySetting 0x2D v s) k) := by
  obtain ⟨e, he⟩ := applySetting_past_limits (code := 0x2D) v s (by decide)
  have hnew := writeItem_settings s.ship.particulars s.settings 0x2D v
  rw [if_neg (fun h => absurd h.1 (by decide))] at hnew
  by_cases ht : (writeItem s.ship.particulars s.settings 0x2D v).1.tankStale = s.settings.tankStale
  · have hsame : (writeItem s.ship.particulars s.settings 0x2D v).1 = s.settings := by
      rw [hnew] at ht ⊢
      exact congrArg (fun n => { s.settings with tankStale := n }) ht
    exact ⟨by rw [he, rejudgedUnder_calm (by rw [hsame]) ht],
      fun hne => absurd (by rw [applySetting_settings, hsame]) hne⟩
  · rw [he, rejudgedUnder_tanks (by rw [hnew]; rfl) ht]
    refine ⟨?_, fun _ k row h => rejudgeTanks_staleNow h⟩
    obtain ⟨ts, ls, hts, _⟩ := rejudgeTanks_form
      { s with settings := (writeItem s.ship.particulars s.settings 0x2D v).1 }
    rw [hts]

/-! ### The command -/

/-- R13: the command answers with the value that the item then holds. -/
theorem bodyWriteSetting_applies {s : State} {item v : Nat} (hi : itemValue s item ≠ none)
    (hr : itemReadOnly item = false) (he : enumOk item v = true) (hst : s.storing = false) :
    bodyWriteSetting item v s =
      (applySetting item v s,
        .reply ⟨if (writeItem s.ship.particulars s.settings item v).2 then .adjusted else .done,
          encU 1 item ++ encU 4 ((itemValue (applySetting item v s) item).getD 0)⟩) := by
  simp [bodyWriteSetting, hi, hr, he, hst]

theorem itemValue_of_settingGet {s : State} {code v : Nat} (h : settingGet s.settings code = some v) :
    itemValue s code = some v := by
  unfold itemValue
  split
  · cases h
  · cases h
  · cases h
  · exact h

/-- States that stand alike after the same write of settings, with or without the advance of the three contexts. -/
theorem standing_withSettings {s s' : State} (h : s.standing = s'.standing) (w : Settings) (p : Prop) [Decidable p] :
    (if p then advanceAllContexts { s with settings := w } else { s with settings := w }).standing
      = (if p then advanceAllContexts { s' with settings := w } else { s' with settings := w }).standing := by
  split
  · have e := congrArg (fun t : State => (advanceAllContexts { t with settings := w }).standing) h
    exact e
  · have e := congrArg (fun t : State => ({ t with settings := w } : State)) h
    exact e

/-- R13, R14: what a write that passes the checks leaves, and its reply. -/
theorem writeSetting_applies {s : State} {l : Link} {tag : Byte} {item v : Nat} (h : Ready s l (.writeSetting item v))
    (hg : settingGet s.settings item ≠ none) (hr : itemReadOnly item = false) (he : enumOk item v = true)
    (hst : s.storing = false) : ∃ t, exec (.writeSetting l tag item v) s = .next t
      ∧ t.standing = (applySetting item v (s.onLink l (LinkUnit.reserve 0x05#8 tag))).standing
      ∧ t.sends l (replyFrame
          ⟨if (writeItem s.ship.particulars s.settings item v).2 then .adjusted else .done,
            encU 1 item ++ encU 4 (clampTo (itemRange s.ship.particulars s.settings.wIn item) v)⟩ 0x05#8 tag) := by
  obtain ⟨u, hu⟩ := Option.ne_none_iff_exists'.mp hg
  have hi : itemValue s item ≠ none := by rw [itemValue_of_settingGet hu]; exact Option.some_ne_none u
  have hval : itemValue (applySetting item v (s.onLink l (LinkUnit.reserve 0x05#8 tag))) item
      = some (clampTo (itemRange s.ship.particulars s.settings.wIn item) v) :=
    itemValue_of_settingGet (by rw [applySetting_settings]; exact writeItem_get_self hg he)
  have hb := bodyWriteSetting_applies (s := s.onLink l (LinkUnit.reserve 0x05#8 tag)) hi hr he hst
  rw [hval] at hb
  exact command_reply h hb (applySetting_holds (holds_reserve h.none l _ _)) rfl

/-- Settles O26: the refusals by the order of the checks, the write by what `applySetting` leaves. -/
theorem writeSettingCompletes : Obligations.WriteSettingCompletes := by
  intro s l tag item v r i c h
  refine ⟨fun hn => ?_, fun hi hb => ?_, fun hg hr he => ⟨fun hst => ?_, fun hst => ?_⟩⟩
  · exact command_quiet h (by simp [bodyWriteSetting, hn, refuse])
  · refine command_quiet h ?_
    rcases hb with hb | hb
    · simp [bodyWriteSetting, hi, hb, refuse]
    · cases hro : itemReadOnly item <;> simp [bodyWriteSetting, hi, hb, hro, refuse]
  · obtain ⟨u, hu⟩ := Option.ne_none_iff_exists'.mp hg
    exact command_quiet h (by simp [bodyWriteSetting, itemValue_of_settingGet hu, hr, he, hst, refuse])
  · obtain ⟨t, hx, hs, hsends⟩ := writeSetting_applies (tag := tag) h hg hr he hst
    have hw : t.settings = (writeItem s.ship.particulars s.settings item v).1 :=
      (congrArg (fun t : State => t.settings) hs).trans (applySetting_settings _ _ _)
    refine ⟨t, hx, ?_, fun other ho hOut => ?_, fun h34 => ?_, ?_, fun hp => ?_, fun h2C => ?_, fun h2D => ?_⟩
    · rw [hw]
      exact writeItem_get_self hg he
    · rw [hw]
      exact writeItem_get_other ho hOut
    · subst h34
      rw [hw]
      exact writeItem_wOut _ _ _
    · simp only [writeItem_clamped, ite_not] at hsends
      exact hsends
    · rw [hs, applySetting_no_period v _ hp.1 hp.2, hw]
      exact standing_withSettings (standing_onLink (standing_reserve _ _ _)) _ _
    · subst h2C
      obtain ⟨hc, hstale⟩ := applySetting_hookStale v (s.onLink l (LinkUnit.reserve 0x05#8 tag))
      refine ⟨(congrArg (fun t : State => t.cond) hs).trans hc, fun hne k => ?_⟩
      have hk := hstale (by rw [applySetting_settings]; exact fun e => hne (hw.trans e)) k
      exact (congrArg (fun t : State => t.gate.stale.get k) hs).trans
        (hk.trans (congrArg (fun t : State => craneStaleNow t k) hs).symm)
    · subst h2D
      obtain ⟨hc, hstale⟩ := applySetting_tankStale v (s.onLink l (LinkUnit.reserve 0x05#8 tag))
      have hcond : t.cond = (applySetting 0x2D v (s.onLink l (LinkUnit.reserve 0x05#8 tag))).cond := by
        have e := congrArg (fun t : State => t.cond) hs
        exact e
      refine ⟨by rw [hcond]; exact hc, fun hne k row hrow => ?_⟩
      rw [hcond] at hrow
      have hk := hstale (by rw [applySetting_settings]; exact fun e => hne (hw.trans e)) k row hrow
      exact hk.trans (congrArg (fun t : State => tankStaleNow t k) hs).symm

end Sys2Proof.Machine
end

section
/-! Record images: a field of an image is read back as it was written, and with it ship data entries and lots. -/

namespace Sys2Proof.Machine

/-! ### Fields of an image (R187) -/

@[simp] theorem length_beBytes (w n : Nat) : (beBytes w n).length = w := by
  induction w with
  | zero => rfl
  | succ w ih => simp [beBytes, ih]

theorem foldl_beBytes (w n acc : Nat) :
    (beBytes w n).foldl (fun a b => a * 256 + b.toNat) acc = acc * 256 ^ w + n % 256 ^ w := by
  induction w generalizing acc with
  | zero => simp [beBytes, Nat.mod_one]
  | succ w ih =>
    rw [beBytes, List.foldl_cons, ih, Nat.pow_succ, Nat.mod_mul, BitVec.toNat_ofNat]
    ring

theorem beNat_beBytes (w n : Nat) : beNat (beBytes w n) = n % 256 ^ w := by
  rw [beNat, foldl_beBytes, Nat.zero_mul, Nat.zero_add]

@[simp] theorem length_encU (w n : Nat) : (encU w n).length = w := length_beBytes _ _

@[simp] theorem length_encS (w : Nat) (i : Int) : (encS w i).length = w := length_beBytes _ _

theorem beNat_encU {w n : Nat} (h : n < 256 ^ w) : beNat (encU w n) = n := by
  rw [encU, beNat_beBytes, Nat.min_eq_left (by omega), Nat.mod_eq_of_lt h]

/-- A value in the two's complement range of the field is read back as it was written. -/
theorem signedOf_beNat_encS {w : Nat} {i : Int} (hw : 0 < w) (hlo : -(256 ^ w : Int) ≤ 2 * i)
    (hhi : 2 * i < 256 ^ w) : signedOf w (beNat (encS w i)) = i := by
  obtain ⟨m, hm⟩ : ∃ m : Nat, 256 ^ w = 2 * m := ⟨128 * 256 ^ (w - 1), by
    obtain ⟨v, rfl⟩ := Nat.exists_eq_add_of_lt hw
    simp only [Nat.zero_add, Nat.add_sub_cancel, Nat.pow_succ]
    omega⟩
  have hM : (256 ^ w : Int) = 2 * m := by exact_mod_cast hm
  have hclamp : max (-((256 ^ w / 2 : Nat) : Int)) (min i ((256 ^ w / 2 : Nat) - 1)) = i := by omega
  have hmod : beNat (encS w i) = (i % (2 * m)).toNat := by
    have hnn := Int.emod_nonneg i (b := 2 * m) (by omega)
    have hlt := Int.emod_lt_of_pos i (b := 2 * m) (by omega)
    rw [encS, hclamp, beSigned, beNat_beBytes, Nat.mod_eq_of_lt (by push_cast; rw [hM]; omega)]
    push_cast
    rw [hM]
  rw [hmod, signedOf, hm]
  by_cases h : 0 ≤ i
  · rw [Int.emod_eq_of_lt h (by omega)]
    split <;> omega
  · have : i % (2 * m) = i + 2 * m := by
      rw [← Int.add_emod_right]
      exact Int.emod_eq_of_lt (by omega) (by omega)
    rw [this]
    split <;> push_cast <;> omega

/-! A field that lies past a part of the image is a field of the rest; at the head stands the first part. -/

theorem drop_past {a r : List Byte} {off : Nat} (h : a.length ≤ off) : (a ++ r).drop off = r.drop (off - a.length) := by
  rw [List.drop_append, List.drop_eq_nil_of_le h, List.nil_append]

theorem fieldU_past {a r : List Byte} {off v : Nat} (h : a.length ≤ off) :
    fieldU (a ++ r) off v = fieldU r (off - a.length) v := by
  rw [fieldU, drop_past h, fieldU]

theorem fieldS_past {a r : List Byte} {off v : Nat} (h : a.length ≤ off) :
    fieldS (a ++ r) off v = fieldS r (off - a.length) v := by
  rw [fieldS, fieldU_past h, fieldS]

theorem posAt_past {a r : List Byte} {off : Nat} (h : a.length ≤ off) :
    posAt (a ++ r) off = posAt r (off - a.length) := by
  have hle (k : Nat) : a.length ≤ off + k := Nat.le_add_right_of_le h
  rw [posAt, fieldS_past h, fieldS_past (hle 4), fieldS_past (hle 8), posAt, Nat.sub_add_comm h, Nat.sub_add_comm h]

theorem zeroAt_past {a r : List Byte} {off v : Nat} (h : a.length ≤ off) :
    zeroAt (a ++ r) off v = zeroAt r (off - a.length) v := by
  rw [zeroAt, drop_past h, zeroAt]

theorem fieldU_first {w n : Nat} (h : n < 256 ^ w) (r : List Byte) : fieldU (encU w n ++ r) 0 w = n := by
  rw [fieldU, List.drop_zero, List.take_append_of_le_length (by simp), List.take_of_length_le (by simp), beNat_encU h]

theorem fieldU_last {w n : Nat} (h : n < 256 ^ w) : fieldU (encU w n) 0 w = n := by
  rw [← List.append_nil (encU w n), fieldU_first h]

theorem fieldS_first {w : Nat} {i : Int} (hw : 0 < w) (hlo : -(256 ^ w : Int) ≤ 2 * i) (hhi : 2 * i < 256 ^ w)
    (r : List Byte) : fieldS (encS w i ++ r) 0 w = i := by
  rw [fieldS, fieldU, List.drop_zero, List.take_append_of_le_length (by simp), List.take_of_length_le (by simp),
    signedOf_beNat_encS hw hlo hhi]

@[simp] theorem length_posImage (p : Pos) : (posImage p).length = 12 := by simp [posImage]

/-- The ranges of a coordinate, as a field of four bytes holds them. -/
theorem fieldS4_first {i : Int} (hlo : -300000 ≤ i) (hhi : i ≤ 300000) (r : List Byte) :
    fieldS (encS 4 i ++ r) 0 4 = i :=
  fieldS_first (by decide) (by omega) (by omega) r

theorem posAt_first {p : Pos} (h : posOk p = true) (r : List Byte) : posAt (posImage p ++ r) 0 = p := by
  simp only [posOk, xOk, yOk, zOk, inRange, Bool.and_eq_true, decide_eq_true_eq] at h
  obtain ⟨⟨⟨hx, hx'⟩, hy, hy'⟩, hz, hz'⟩ := h
  have ex := fieldS4_first (i := p.x) (by omega) (by omega)
  have ey := fieldS4_first (i := p.y) (by omega) (by omega)
  have ez := fieldS4_first (i := p.z) (by omega) (by omega)
  simp [posAt, posImage, fieldS_past, ex, ey, ez]

theorem posAt_last {p : Pos} (h : posOk p = true) : posAt (posImage p) 0 = p := by
  rw [← List.append_nil (posImage p), posAt_first h]

/-! ### Runs of fields -/

theorem fieldsU4_past {a r : List Byte} {off n : Nat} (h : a.length ≤ off) :
    fieldsU4 (a ++ r) off n = fieldsU4 r (off - a.length) n :=
  List.map_congr_left fun i _ => by
    rw [fieldU_past (Nat.le_add_right_of_le h), Nat.sub_add_comm h]

theorem fieldsS4_past {a r : List Byte} {off n : Nat} (h : a.length ≤ off) :
    fieldsS4 (a ++ r) off n = fieldsS4 r (off - a.length) n :=
  List.map_congr_left fun i _ => by
    rw [fieldS_past (Nat.le_add_right_of_le h), Nat.sub_add_comm h]

theorem fieldsU4_succ (p : List Byte) (off n : Nat) :
    fieldsU4 p off (n + 1) = fieldU p off 4 :: fieldsU4 p (off + 4) n := by
  simp [fieldsU4, List.range_succ_eq_map, Nat.mul_add, Nat.add_assoc, Nat.add_comm]

theorem fieldsS4_succ (p : List Byte) (off n : Nat) :
    fieldsS4 p off (n + 1) = fieldS p off 4 :: fieldsS4 p (off + 4) n := by
  simp [fieldsS4, List.range_succ_eq_map, Nat.mul_add, Nat.add_assoc, Nat.add_comm]

theorem fieldsU4_run {xs : List Nat} (h : ∀ x ∈ xs, x < 256 ^ 4) :
    fieldsU4 (xs.map (encU 4)).flatten 0 xs.length = xs := by
  induction xs with
  | nil => rfl
  | cons x xs ih =>
    rw [List.length_cons, fieldsU4_succ, List.map_cons, List.flatten_cons, fieldU_first (h x List.mem_cons_self),
      fieldsU4_past (by simp)]
    simp [ih fun y hy => h y (List.mem_cons_of_mem _ hy)]

theorem fieldsS4_run {xs : List Int} (h : ∀ x ∈ xs, xOk x = true) :
    fieldsS4 (xs.map (encS 4)).flatten 0 xs.length = xs := by
  induction xs with
  | nil => rfl
  | cons x xs ih =>
    have hx := h x List.mem_cons_self
    simp only [xOk, inRange, Bool.and_eq_true, decide_eq_true_eq] at hx
    rw [List.length_cons, fieldsS4_succ, List.map_cons, List.flatten_cons,
      fieldS4_first (by omega) (by omega), fieldsS4_past (by simp)]
    simp [ih fun y hy => h y (List.mem_cons_of_mem _ hy)]

theorem length_flatten_encU (xs : List Nat) : (xs.map (encU 4)).flatten.length = 4 * xs.length := by
  induction xs with
  | nil => rfl
  | cons x xs ih => simp [ih]; omega

theorem length_flatten_encS (xs : List Int) : (xs.map (encS 4)).flatten.length = 4 * xs.length := by
  induction xs with
  | nil => rfl
  | cons x xs ih => simp [ih]; omega

/-! ### Ship data entries (R2, R3, R191) -/

/-- R191: the bytes that spell an entry of the block have its form and are taken back as the entry. -/
def ReadsBack (block : Nat) (x : ShipEntry) : Prop :=
  entryForm block x.bytes = true ∧ x.bytes ≠ [] ∧ entryOf block x.bytes = some x

theorem particulars_readsBack {e : Particulars} (h : entryOk (.particulars e) = true) :
    ReadsBack 1 (.particulars e) := by
  simp only [entryOk, inRangeN, Bool.and_eq_true, decide_eq_true_eq] at h
  obtain ⟨⟨⟨hl, hb⟩, hd⟩, hs⟩ := h
  have el := fieldU_first (w := 4) (n := e.lbp) (by omega)
  have eb := fieldU_first (w := 4) (n := e.halfBreadth) (by omega)
  have ed := fieldU_first (w := 4) (n := e.maxDraft) (by omega)
  have es := fieldU_last (w := 4) (n := e.maxDisp) (by omega)
  refine ⟨?_, ?_, ?_⟩
  · simp [entryForm, entryLen, ShipEntry.bytes]
  · exact List.ne_nil_of_length_pos (by simp [ShipEntry.bytes])
  · simp [entryOf, ShipEntry.bytes, fieldU_past, el, eb, ed, es]

theorem sections_readsBack {e : Sections} (h : entryOk (.sections e) = true) : ReadsBack 2 (.sections e) := by
  simp only [entryOk, inRangeN, Bool.and_eq_true, decide_eq_true_eq, List.all_eq_true] at h
  obtain ⟨hn, hx⟩ := h
  have en := fieldU_first (w := 1) (n := e.xs.length - 1) (by omega)
  have hlen : e.xs.length - 1 + 1 = e.xs.length := by omega
  refine ⟨?_, ?_, ?_⟩
  · simp [entryForm, entryLen, ShipEntry.bytes, length_flatten_encS, -List.length_flatten, en, hlen]
  · exact List.ne_nil_of_length_pos (by simp [ShipEntry.bytes])
  · simp [entryOf, ShipEntry.bytes, fieldsS4_past, en, hlen, fieldsS4_run hx]

theorem lightship_readsBack {e : Lightship} (h : entryOk (.lightship e) = true) : ReadsBack 3 (.lightship e) := by
  simp only [entryOk, inRangeN, Bool.and_eq_true, decide_eq_true_eq, List.all_eq_true] at h
  obtain ⟨⟨⟨hm, hp⟩, hn⟩, hx⟩ := h
  have em := fieldU_first (w := 4) (n := e.mass) (by omega)
  have en := fieldU_first (w := 1) (n := e.masses.length) (by omega)
  have ex := fieldsU4_run (xs := e.masses) fun x hin => by have := hx x hin; omega
  refine ⟨?_, ?_, ?_⟩
  · simp [entryForm, entryLen, ShipEntry.bytes, length_flatten_encU, -List.length_flatten, fieldU_past, en]
    omega
  · exact List.ne_nil_of_length_pos (by simp [ShipEntry.bytes])
  · simp [entryOf, ShipEntry.bytes, fieldU_past, posAt_past, posAt_first hp, fieldsU4_past, em, en, ex]

theorem hydro_readsBack {e : HydroRow} (h : entryOk (.hydro e) = true) : ReadsBack 4 (.hydro e) := by
  simp only [entryOk, xOk, inRange, inRangeN, Bool.and_eq_true, decide_eq_true_eq] at h
  obtain ⟨⟨⟨⟨⟨hd, hs⟩, hk⟩, hb, hb'⟩, hf, hf'⟩, hm⟩ := h
  have ed := fieldU_first (w := 4) (n := e.draft) (by omega)
  have es := fieldU_first (w := 4) (n := e.disp) (by omega)
  have ek := fieldU_first (w := 4) (n := e.km) (by omega)
  have eb := fieldS4_first (i := e.lcb) (by omega) (by omega)
  have ef := fieldS4_first (i := e.lcf) (by omega) (by omega)
  have em := fieldU_last (w := 4) (n := e.mtcm) (by omega)
  refine ⟨?_, ?_, ?_⟩
  · simp [entryForm, entryLen, ShipEntry.bytes]
  · exact List.ne_nil_of_length_pos (by simp [ShipEntry.bytes])
  · simp [entryOf, ShipEntry.bytes, fieldU_past, fieldS_past, ed, es, ek, eb, ef, em]

theorem buoyancy_readsBack {e : List Nat} (h : entryOk (.buoyancy e) = true) : ReadsBack 5 (.buoyancy e) := by
  simp only [entryOk, inRangeN, Bool.and_eq_true, decide_eq_true_eq, List.all_eq_true] at h
  obtain ⟨hn, hx⟩ := h
  have en := fieldU_first (w := 1) (n := e.length) (by omega)
  have ex := fieldsU4_run (xs := e) fun x hin => by have := hx x hin; omega
  refine ⟨?_, ?_, ?_⟩
  · simp [entryForm, entryLen, ShipEntry.bytes, length_flatten_encU, -List.length_flatten, en]
  · exact List.ne_nil_of_length_pos (by simp [ShipEntry.bytes])
  · simp [entryOf, ShipEntry.bytes, fieldsU4_past, en, ex]

theorem tank_readsBack {e : TankGeom} (h : entryOk (.tank e) = true) : ReadsBack 6 (.tank e) := by
  simp only [entryOk, xOk, yOk, zOk, inRange, inRangeN, Bool.and_eq_true, decide_eq_true_eq] at h
  obtain ⟨⟨⟨⟨⟨⟨hs, hc⟩, hx, hx'⟩, hy, hy'⟩, hz, hz'⟩, hh⟩, hi⟩ := h
  have es := fieldU_first (w := 1) (n := e.sec) (by omega)
  have ec := fieldU_first (w := 4) (n := e.capacity) (by omega)
  have ex := fieldS4_first (i := e.lcg) (by omega) (by omega)
  have ey := fieldS4_first (i := e.tcg) (by omega) (by omega)
  have ez := fieldS4_first (i := e.bottom) (by omega) (by omega)
  have eh := fieldU_first (w := 4) (n := e.height) (by omega)
  have ei := fieldU_last (w := 4) (n := e.inertia) (by omega)
  refine ⟨?_, ?_, ?_⟩
  · simp [entryForm, entryLen, ShipEntry.bytes]
  · exact List.ne_nil_of_length_pos (by simp [ShipEntry.bytes])
  · simp [entryOf, ShipEntry.bytes, fieldU_past, fieldS_past, es, ec, ex, ey, ez, eh, ei]

theorem area_readsBack {e : Area} (h : entryOk (.area e) = true) : ReadsBack 7 (.area e) := by
  simp only [entryOk, xOk, yOk, inRange, inRangeN, Bool.and_eq_true, decide_eq_true_eq] at h
  obtain ⟨⟨⟨⟨⟨⟨ha, ha'⟩, hb, hb'⟩, hc, hc'⟩, hd, hd'⟩, hm⟩, hp⟩ := h
  have ea := fieldS4_first (i := e.xMin) (by omega) (by omega)
  have eb := fieldS4_first (i := e.xMax) (by omega) (by omega)
  have ec := fieldS4_first (i := e.yMin) (by omega) (by omega)
  have ed := fieldS4_first (i := e.yMax) (by omega) (by omega)
  have em := fieldU_first (w := 4) (n := e.maxMass) (by omega)
  have ep := fieldU_last (w := 4) (n := e.maxPressure) (by omega)
  refine ⟨?_, ?_, ?_⟩
  · simp [entryForm, entryLen, ShipEntry.bytes]
  · exact List.ne_nil_of_length_pos (by simp [ShipEntry.bytes])
  · simp [entryOf, ShipEntry.bytes, fieldU_past, fieldS_past, ea, eb, ec, ed, em, ep]

theorem crane_readsBack {e : Crane} (h : entryOk (.crane e) = true) : ReadsBack 8 (.crane e) := by
  simp only [entryOk, inRangeN, Bool.and_eq_true, decide_eq_true_eq] at h
  obtain ⟨⟨⟨hf, hm⟩, hp⟩, hk⟩ := h
  have ef := fieldU_first (w := 1) (n := e.present) (by omega)
  have em := fieldU_first (w := 4) (n := e.boomMass) (by omega)
  refine ⟨?_, ?_, ?_⟩
  · simp [entryForm, entryLen, ShipEntry.bytes]
  · exact List.ne_nil_of_length_pos (by simp [ShipEntry.bytes])
  · simp [entryOf, ShipEntry.bytes, fieldU_past, posAt_past, posAt_first hp, posAt_last hk, ef, em]

theorem strength_readsBack {e : Strength} (h : entryOk (.strength e) = true) : ReadsBack 9 (.strength e) := by
  simp only [entryOk, inRangeN, Bool.and_eq_true, decide_eq_true_eq] at h
  obtain ⟨⟨hs, hh⟩, hg⟩ := h
  have es := fieldU_first (w := 4) (n := e.shear) (by omega)
  have eh := fieldU_first (w := 4) (n := e.hog) (by omega)
  have eg := fieldU_last (w := 4) (n := e.sag) (by omega)
  refine ⟨?_, ?_, ?_⟩
  · simp [entryForm, entryLen, ShipEntry.bytes]
  · exact List.ne_nil_of_length_pos (by simp [ShipEntry.bytes])
  · simp [entryOf, ShipEntry.bytes, fieldU_past, es, eh, eg]

/-- R3: an entry of the ship data, in range, is taken back by its block. -/
theorem getEntry_readsBack {d : ShipData} {block index : Nat} {x : ShipEntry} (ho : entryOk x = true)
    (h : getEntry d block index = some x) : ReadsBack block x := by
  unfold getEntry at h
  split at h
  case h_10 => cases h
  all_goals
    obtain ⟨e, _, rfl⟩ := Option.map_eq_some_iff.mp h
  case h_1 => exact particulars_readsBack ho
  case h_2 => exact sections_readsBack ho
  case h_3 => exact lightship_readsBack ho
  case h_4 => exact hydro_readsBack ho
  case h_5 => exact buoyancy_readsBack ho
  case h_6 => exact tank_readsBack ho
  case h_7 => exact area_readsBack ho
  case h_8 => exact crane_readsBack ho
  case h_9 => exact strength_readsBack ho

/-! ### Lot records (R41, R45) -/

/-- The number that the five flags of a lot record spell. -/
def lotFlags (k : Lot) : Nat :=
  [k.mark, k.modified, k.discrepancy, k.measured.isSome, k.footprint.isSome].foldr (fun b acc => beBool b + 2 * acc) 0

theorem lotFlags_bits (k : Lot) :
    lotFlags k < 32 ∧ (lotFlags k).testBit 0 = k.mark ∧ (lotFlags k).testBit 2 = k.discrepancy
      ∧ (lotFlags k).testBit 3 = k.measured.isSome ∧ (lotFlags k).testBit 4 = k.footprint.isSome := by
  have bits : ∀ a b c d e : Bool,
      let n := [a, b, c, d, e].foldr (fun b acc => beBool b + 2 * acc) 0
      n < 32 ∧ n.testBit 0 = a ∧ n.testBit 2 = c ∧ n.testBit 3 = d ∧ n.testBit 4 = e := by decide
  exact bits _ _ _ _ _

theorem beBytes_eq_encU {w n : Nat} (h : n < 256 ^ w) : beBytes w n = encU w n := by
  rw [encU, Nat.min_eq_left (by omega)]

/-- R41: the record of a lot that is not LIFTING. -/
theorem lotImage_eq {k : Lot} (h : k.state.isLifting = false) :
    lotImage k = encU 2 k.id ++ (encU 1 k.state.code ++ (encU 1 (lotFlags k) ++ (zeroBytes 3 ++ (encU 1 k.loc.area
      ++ (encU 3 k.declared ++ (encU 3 (k.measured.getD 0) ++ (encS 3 k.loc.pos.x ++ (encS 2 k.loc.pos.y
      ++ (encS 3 k.loc.pos.z ++ (footImage? k.footprint ++ zeroBytes 2)))))))))) := by
  have hflags := beBytes_eq_encU (w := 1) (n := lotFlags k) (by have := (lotFlags_bits k).1; omega)
  have hlift : liftingBytes k.state = zeroBytes 3 := by
    cases hs : k.state <;> simp [hs, LotState.isLifting, liftingBytes] at h ⊢
  simp only [lotImage, List.append_assoc, hlift, ← hflags]
  rfl

@[simp] theorem length_zeroBytes (n : Nat) : (zeroBytes n).length = n := List.length_replicate

@[simp] theorem length_footImage (f : Option Footprint) : (footImage? f).length = 4 := by
  cases f <;> simp [footImage?]

theorem zeroAt_first (n : Nat) (r : List Byte) : zeroAt (zeroBytes n ++ r) 0 n = true := by
  rw [zeroAt, List.drop_zero, List.take_append_of_le_length (by simp), List.take_of_length_le (by simp)]
  simp [allZero, zeroBytes]

theorem zeroAt_last (n : Nat) : zeroAt (zeroBytes n) 0 n = true := by
  rw [← List.append_nil (zeroBytes n), zeroAt_first]

theorem length_lotImage {k : Lot} (h : k.state.isLifting = false) : (lotImage k).length = 28 := by
  simp [lotImage_eq h]

theorem stateCode_of_not_lifting {st : LotState} (h : st.isLifting = false) :
    (st.code = 1 ∧ st = .planned) ∨ (st.code = 3 ∧ st = .aboard) := by
  cases st
  · exact .inl ⟨rfl, rfl⟩
  · exact .inr ⟨rfl, rfl⟩
  · cases h

/-- R41: the fields that every record holds, at their places. -/
theorem lotImage_fields {k : Lot} (hl : k.state.isLifting = false) (hi : lotIdOk k.id = true)
    (hd : declaredOk k.declared = true) (hp : posOk k.loc.pos = true) (ha : k.loc.area ≤ 15) :
    fieldU (lotImage k) 0 2 = k.id ∧ fieldU (lotImage k) 2 1 = k.state.code ∧ fieldU (lotImage k) 3 1 = lotFlags k
      ∧ fieldU (lotImage k) 7 1 = k.loc.area ∧ fieldU (lotImage k) 8 3 = k.declared
      ∧ (⟨fieldS (lotImage k) 14 3, fieldS (lotImage k) 17 2, fieldS (lotImage k) 19 3⟩ : Pos) = k.loc.pos
      ∧ zeroAt (lotImage k) 4 3 = true ∧ zeroAt (lotImage k) 26 2 = true := by
  simp only [lotIdOk, declaredOk, posOk, xOk, yOk, zOk, inRange, inRangeN, Bool.and_eq_true, decide_eq_true_eq]
    at hi hd hp
  obtain ⟨⟨⟨hx, hx'⟩, hy, hy'⟩, hz, hz'⟩ := hp
  have hc : k.state.code < 256 ^ 1 := by rcases stateCode_of_not_lifting hl with ⟨h, _⟩ | ⟨h, _⟩ <;> omega
  have hf := (lotFlags_bits k).1
  have ei := fieldU_first (w := 2) (n := k.id) (by omega)
  have ec := fieldU_first hc
  have ef := fieldU_first (w := 1) (n := lotFlags k) (by omega)
  have ea := fieldU_first (w := 1) (n := k.loc.area) (by omega)
  have ed := fieldU_first (w := 3) (n := k.declared) (by omega)
  have ex := fieldS_first (w := 3) (i := k.loc.pos.x) (by decide) (by omega) (by omega)
  have ey := fieldS_first (w := 2) (i := k.loc.pos.y) (by decide) (by omega) (by omega)
  have ez := fieldS_first (w := 3) (i := k.loc.pos.z) (by decide) (by omega) (by omega)
  simp [lotImage_eq hl, fieldU_past, fieldS_past, zeroAt_past, zeroAt_first, zeroAt_last, ei, ec, ef, ea, ed, ex, ey,
    ez]

/-- R41, R45: the measured mass is present, or its bytes are zero. -/
theorem lotImage_measured {k : Lot} (hl : k.state.isLifting = false) (hm : k.measured.all measuredOk = true) :
    optional k.measured.isSome (zeroAt (lotImage k) 11 3) (fieldU (lotImage k) 11 3)
      (measuredOk (fieldU (lotImage k) 11 3)) = some k.measured := by
  cases hs : k.measured with
  | none =>
    have hz : encU 3 0 = zeroBytes 3 := by decide
    simp [optional, lotImage_eq hl, hs, zeroAt_past, hz, zeroAt_first]
  | some m =>
    rw [hs, Option.all_some] at hm
    have hm' := hm
    simp only [measuredOk, inRangeN, Bool.and_eq_true, decide_eq_true_eq] at hm'
    have em := fieldU_first (w := 3) (n := m) (by omega)
    simp [optional, lotImage_eq hl, hs, fieldU_past, em, hm]

/-- R41, R45: the footprint is present, or its bytes are zero. -/
theorem lotImage_footprint {k : Lot} (hl : k.state.isLifting = false) (hf : k.footprint.all footOk = true) :
    optional k.footprint.isSome (zeroAt (lotImage k) 22 4) (⟨fieldU (lotImage k) 22 2, fieldU (lotImage k) 24 2⟩)
      (footOk ⟨fieldU (lotImage k) 22 2, fieldU (lotImage k) 24 2⟩) = some k.footprint := by
  cases hs : k.footprint with
  | none => simp [optional, lotImage_eq hl, hs, zeroAt_past, footImage?, zeroAt_first]
  | some f =>
    rw [hs, Option.all_some] at hf
    have hf' := hf
    simp only [footOk, inRangeN, Bool.and_eq_true, decide_eq_true_eq] at hf'
    have el := fieldU_first (w := 2) (n := f.length) (by omega)
    have eb := fieldU_first (w := 2) (n := f.breadth) (by omega)
    simp [optional, lotImage_eq hl, hs, fieldU_past, footImage?, el, eb, hf]

theorem imageLot_lotImage {ship : ShipData} {k : Lot} (hl : k.state.isLifting = false) (hi : lotIdOk k.id = true)
    (hd : declaredOk k.declared = true) (hm : k.measured.all measuredOk = true)
    (hf : k.footprint.all footOk = true) (ho : locOk ship k.loc = true) (ha : k.loc.area ≤ 15)
    (hmark : k.mark = true → k.state = .aboard) (hdisc : k.discrepancy = true → k.measured.isSome = true) :
    imageLot ship (lotImage k) = some { k with modified := true } := by
  have hp : posOk k.loc.pos = true := by
    rw [locOk, Bool.and_eq_true] at ho
    exact ho.1
  obtain ⟨ei, ec, ef, ea, ed, ep, ez, ez'⟩ := lotImage_fields hl hi hd hp ha
  obtain ⟨hlt, b₀, b₂, b₃, b₄⟩ := lotFlags_bits k
  have em := lotImage_measured hl hm
  have ek := lotImage_footprint hl hf
  simp only [imageLot, ei, ec, ef, ea, ed, ep, ez, ez', b₀, b₂, b₃, b₄, em, ek]
  have hdisc' : k.discrepancy = false ∨ k.measured.isSome = true := by
    cases h : k.discrepancy
    · exact .inl rfl
    · exact .inr (hdisc h)
  cases hs : k.state with
  | planned =>
    have hno : k.mark = false := by
      by_contra h
      simpa [hs] using hmark (by simpa using h)
    simp [LotState.code, hi, hlt, hd, ho, hno, hdisc']
  | aboard => simp [LotState.code, hi, hlt, hd, ho, hdisc']
  | lifting => simp [hs, LotState.isLifting] at hl

/-- Settles O11, by the fields of the entries (`ReadsBack`) and of a lot's record (`lotImage_eq`). -/
theorem recordsReadAsWritten : Obligations.RecordsReadAsWritten :=
  ⟨fun _ _ _ _ _ ho hx => getEntry_readsBack ho hx,
    fun _ _ hl hi hd hm hf ho ha hmark hdisc =>
      ⟨length_lotImage hl, imageLot_lotImage hl hi hd hm hf ho ha hmark hdisc⟩⟩

end Sys2Proof.Machine
end

section
/-! The ends of what is pending: a lift before its load is on the hook, a transfer, and what each leaves alone. -/

namespace Sys2Proof.Machine

/-! ### What the end of a pending lift or transfer leaves alone (R9, R125, R147, R171) -/

/-- What the end of a pending lift or transfer keeps of a state. -/
structure EndsPending (s t : State) : Prop where
  frame : Untouched s t
  mode : t.mode = s.mode
  seq : t.cond.seq = s.cond.seq
  hooks : t.cond.hooks = s.cond.hooks
  monitor : t.monitor = s.monitor
  contexts : ∀ x, t.ctx x = s.ctx x
  nextId : t.ballast.nextId = s.ballast.nextId
  holds : ∀ l k tag, (s.links.get l).holds k tag → (t.links.get l).holds k tag

theorem Untouched.refl (s : State) : Untouched s s :=
  ⟨rfl, rfl, rfl, rfl, rfl, rfl, rfl, ⟨rfl, rfl⟩, ⟨rfl, rfl⟩, rfl, rfl, rfl, rfl⟩

theorem Untouched.trans {a b c : State} (h : Untouched a b) (g : Untouched b c) : Untouched a c where
  powered := g.powered.trans h.powered
  armed := g.armed.trans h.armed
  time := g.time.trans h.time
  nvm := g.nvm.trans h.nvm
  ship := g.ship.trans h.ship
  settings := g.settings.trans h.settings
  origin := g.origin.trans h.origin
  stores := ⟨g.stores.1.trans h.stores.1, g.stores.2.trans h.stores.2⟩
  snapshots := ⟨g.snapshots.1.trans h.snapshots.1, g.snapshots.2.trans h.snapshots.2⟩
  image := g.image.trans h.image
  frames := g.frames.trans h.frames
  count := g.count.trans h.count
  pending := g.pending.trans h.pending

theorem EndsPending.refl (s : State) : EndsPending s s :=
  ⟨.refl s, rfl, rfl, rfl, rfl, fun _ => rfl, rfl, fun _ _ _ h => h⟩

theorem EndsPending.trans {a b c : State} (h : EndsPending a b) (g : EndsPending b c) : EndsPending a c where
  frame := h.frame.trans g.frame
  mode := g.mode.trans h.mode
  seq := g.seq.trans h.seq
  hooks := g.hooks.trans h.hooks
  monitor := g.monitor.trans h.monitor
  contexts := fun x => (g.contexts x).trans (h.contexts x)
  nextId := g.nextId.trans h.nextId
  holds := fun l k tag hl => g.holds l k tag (h.holds l k tag hl)

/-! ### The end of a lift -/

/-- The state of a lift's end before LIFT is latched and the slot is freed. -/
def liftEnded (r : LiftRef) (kind : EndKind) (s : State) : State :=
  let s := withdrawDemand (.lift r.lead) (leaveQueue (.lift r) s)
  let s := if s.gate.slot = some r then withdrawDemand .recheck s else s
  clearStale r.cranes ((s.onLiftLot r Lot.returned).onRecs r.cranes (LiftRecord.ended kind))

theorem releaseLift_eq (r : LiftRef) (kind : EndKind) (s : State) :
    releaseLift r kind s = freeSlotOf r (latchLift r.cranes (liftEnded r kind s)) := rfl

@[simp] theorem liftEnded_links (r : LiftRef) (kind : EndKind) (s : State) : (liftEnded r kind s).links = s.links := by
  unfold liftEnded
  dsimp only
  split <;> simp

@[simp] theorem liftEnded_slot (r : LiftRef) (kind : EndKind) (s : State) :
    (liftEnded r kind s).gate.slot = s.gate.slot := by
  unfold liftEnded
  dsimp only
  split <;> simp

@[simp] theorem liftEnded_ballast (r : LiftRef) (kind : EndKind) (s : State) :
    (liftEnded r kind s).ballast = s.ballast := by
  unfold liftEnded
  dsimp only
  split <;> simp

/-- A change of the records of different cranes reaches each of them once. -/
theorem onRecs_liftRec_of_nodup {f : LiftRecord → LiftRecord} {cs : List CraneId} (h : cs.Nodup) (d : CraneId)
    (s : State) : (s.onRecs cs f).liftRec d = if d ∈ cs then f (s.liftRec d) else s.liftRec d := by
  induction cs generalizing s with
  | nil => simp [State.onRecs]
  | cons c cs ih =>
    obtain ⟨hc, hcs⟩ := List.nodup_cons.mp h
    change ((s.onRec c f).onRecs cs f).liftRec d = _
    rw [ih hcs, onRec_liftRec]
    by_cases hd : d = c
    · subst d
      simp [hc]
    · simp [hd]

theorem liftEnded_liftRec {r : LiftRef} (h : r.cranes.Nodup) (kind : EndKind) (s : State) (d : CraneId) :
    (liftEnded r kind s).liftRec d = if d ∈ r.cranes then (s.liftRec d).ended kind else s.liftRec d := by
  have hstale (u : State) : (clearStale r.cranes u).liftRec d = u.liftRec d := by simp [State.liftRec]
  have hlot (u : State) : (u.onLiftLot r Lot.returned).liftRec d = u.liftRec d := by simp [State.liftRec]
  have hslot (p : Prop) [Decidable p] (u : State) :
      (if p then withdrawDemand .recheck u else u).liftRec d = u.liftRec d := by split <;> rfl
  unfold liftEnded
  dsimp only
  rw [hstale, onRecs_liftRec_of_nodup h, hlot, hslot]
  rfl

/-- R136: the lot of the lift's lead is again what it was, and no other lot changes. -/
theorem onLiftLot_tget (r : LiftRef) (f : Lot → Lot) (s : State) (n : Nat) :
    tget (s.onLiftLot r f).cond.lots n =
      if (s.liftRec r.lead).lot.map LotRef.slot = some n then (tget s.cond.lots n).map f else tget s.cond.lots n := by
  unfold State.onLiftLot
  cases hl : (s.liftRec r.lead).lot with
  | none => simp
  | some l =>
    simp only [State.onLot, Option.map_some, Option.some.injEq]
    by_cases hn : l.slot = n
    · subst n
      cases hk : tget s.cond.lots l.slot <;> simp [hk, State.setLots]
    · have hne : n ≠ l.slot := fun e => hn e.symm
      cases hk : tget s.cond.lots l.slot <;> simp [hn, State.setLots, tget_tput_ne hne]

theorem liftEnded_tget (r : LiftRef) (kind : EndKind) (s : State) (n : Nat) :
    tget (liftEnded r kind s).cond.lots n =
      if (s.liftRec r.lead).lot.map LotRef.slot = some n then (tget s.cond.lots n).map Lot.returned
      else tget s.cond.lots n := by
  unfold liftEnded
  dsimp only
  rw [clearStale_cond]
  split <;> simp [onLiftLot_tget] <;> rfl

theorem releaseLift_endsPending (r : LiftRef) (kind : EndKind) (s : State) : EndsPending s (releaseLift r kind s) where
  frame := ⟨by simp, by simp, by simp, by simp, by simp, by simp, by simp, by simp, by simp, by simp, by simp, by simp,
    by simp⟩
  mode := by simp
  seq := by simp
  hooks := by simp
  monitor := by simp
  contexts := fun x => by cases x <;> simp [State.ctx]
  nextId := by simp
  holds := fun l k tag h => by
    rw [releaseLift_eq, freeSlotOf_links]
    exact holds_latchOn (by simpa using h)

/-- R182: the end of a lift latches LIFT on the links of its cranes and on L0. -/
theorem releaseLift_notices (r : LiftRef) (kind : EndKind) (s : State) (j : Link) :
    ((releaseLift r kind s).links.get j).notices = (s.links.get j).notices
      ||| (if j ∈ r.cranes.map CraneId.link ++ [.l0] then Event.lift.flag else 0#16) := by
  rw [releaseLift_eq, freeSlotOf_links, latchLift, latchOn_notices, liftEnded_links]

/-- The end of a lift that does not hold the slot starts no round. -/
theorem releaseLift_of_no_slot {r : LiftRef} {s : State} (h : s.gate.slot = none) (kind : EndKind) :
    releaseLift r kind s = latchLift r.cranes (liftEnded r kind s) := by
  rw [releaseLift_eq, freeSlotOf, if_neg (by simp [h])]

/-- Whether or not a round follows, a crane's record without its pending reason is the ended one. -/
theorem releaseLift_silent {r : LiftRef} (h : r.cranes.Nodup) (kind : EndKind) (s : State) (d : CraneId) :
    ((releaseLift r kind s).liftRec d).silent =
      (if d ∈ r.cranes then (s.liftRec d).ended kind else s.liftRec d).silent := by
  have hlatch : (latchLift r.cranes (liftEnded r kind s)).liftRec d = (liftEnded r kind s).liftRec d := by
    simp [State.liftRec]
  rw [releaseLift_eq, freeSlotOf_silent, hlatch, liftEnded_liftRec h]

/-! ### The end of a transfer -/

/-- The state of a transfer's end before TRANSFER is latched. -/
def transferEnded (id : Nat) (x : Transfer) (kind : EndKind) (s : State) : State :=
  let s := withdrawDemand (.transfer id) (leaveQueue (.transfer id) s)
  logEnd (endRecord s.time id x kind) (x.tankEnds.foldl releaseTank (s.setTransfers (tdrop s.ballast.transfers id)))

theorem removeTransfer_eq (id : Nat) (x : Transfer) (kind : EndKind) (s : State) :
    removeTransfer id x kind s = latchTransfer (transferEnded id x kind s) := by
  unfold removeTransfer transferEnded
  dsimp only
  rw [releaseTanks_form]
  rfl

@[simp] theorem transferEnded_links (id : Nat) (x : Transfer) (kind : EndKind) (s : State) :
    (transferEnded id x kind s).links = s.links := by
  unfold transferEnded
  dsimp only
  rw [releaseTanks_form]
  rfl

theorem removeTransfer_endsPending (id : Nat) (x : Transfer) (kind : EndKind) (s : State) :
    EndsPending s (removeTransfer id x kind s) where
  frame := ⟨by simp, by simp, by simp, by simp, by simp, by simp, by simp, by simp, by simp, by simp, by simp, by simp,
    by simp⟩
  mode := by simp
  seq := by simp
  hooks := by simp
  monitor := by simp
  contexts := fun x => by cases x <;> simp [State.ctx]
  nextId := by simp
  holds := fun l k tag h => by
    rw [removeTransfer_eq]
    exact holds_latchOn (by simpa using h)

theorem removeTransfer_notices (id : Nat) (x : Transfer) (kind : EndKind) (s : State) (j : Link) :
    ((removeTransfer id x kind s).links.get j).notices = (s.links.get j).notices
      ||| (if j ∈ [Link.l3, .l0] then Event.transfer.flag else 0#16) := by
  rw [removeTransfer_eq, latchTransfer, latchOn_notices, transferEnded_links]

theorem removeTransfer_transfers (id : Nat) (x : Transfer) (kind : EndKind) (s : State) :
    (removeTransfer id x kind s).ballast.transfers = tdrop s.ballast.transfers id := by
  rw [removeTransfer_eq, latchTransfer_ballast]
  unfold transferEnded
  dsimp only
  rw [releaseTanks_form]
  rfl

/-- R171: the record of the end stands newest in the log, which keeps four. -/
theorem removeTransfer_log (id : Nat) (x : Transfer) (kind : EndKind) (s : State) :
    (removeTransfer id x kind s).ballast.log = (endRecord s.time id x kind :: s.ballast.log).take 4 := by
  rw [removeTransfer_eq, latchTransfer_ballast]
  unfold transferEnded
  dsimp only
  rw [releaseTanks_form]
  rfl

/-- R161: the tanks named are free and not stale, and no other row changes. -/
theorem releaseTanks_tankRow (ks : List Nat) (s : State) (k : Nat) :
    (ks.foldl releaseTank s).tankRow k =
      if k ∈ ks then { s.tankRow k with transfer := none, stale := false } else s.tankRow k := by
  induction ks generalizing s with
  | nil => rfl
  | cons m ks ih =>
    have hm : (releaseTank s m).tankRow k =
        if k = m then { s.tankRow m with transfer := none, stale := false } else s.tankRow k := by
      simp only [State.tankRow, releaseTank, State.setTankRow, State.setTanks, tget_tput]
      split <;> rfl
    rw [List.foldl_cons, ih, hm]
    by_cases hk : k = m
    · subst k
      by_cases hks : m ∈ ks <;> simp [hks]
    · simp [hk]

theorem removeTransfer_tankRow (id : Nat) (x : Transfer) (kind : EndKind) (s : State) (k : Nat) :
    (removeTransfer id x kind s).tankRow k =
      if x.tankEnds.contains k then { s.tankRow k with transfer := none, stale := false } else s.tankRow k := by
  have h := releaseTanks_tankRow x.tankEnds
    ((withdrawDemand (.transfer id) (leaveQueue (.transfer id) s)).setTransfers (tdrop s.ballast.transfers id)) k
  rw [removeTransfer_eq]
  simp only [List.contains_iff_mem]
  exact h

/-! ### The transfers of a table -/

section Folds

variable (ts : List (Nat × Transfer)) (s : State)

theorem endPendingTransfers_endsPending : EndsPending s (ts.foldl endPendingTransfer s) := by
  induction ts generalizing s with
  | nil => exact .refl s
  | cons p ts ih => exact (removeTransfer_endsPending _ _ _ _).trans (ih _)

theorem endPendingTransfers_lots : (ts.foldl endPendingTransfer s).cond.lots = s.cond.lots := by
  induction ts generalizing s with
  | nil => rfl
  | cons p ts ih => exact (ih _).trans (removeTransfer_cond_lots _ _ _ _)

theorem endPendingTransfers_recs : (ts.foldl endPendingTransfer s).gate.recs = s.gate.recs := by
  induction ts generalizing s with
  | nil => rfl
  | cons p ts ih => exact (ih _).trans (removeTransfer_gate_recs _ _ _ _)

theorem endPendingTransfers_transfers :
    (ts.foldl endPendingTransfer s).ballast.transfers =
      s.ballast.transfers.filter (fun p => decide (p.1 ∉ ts.map Prod.fst)) := by
  induction ts generalizing s with
  | nil => simp
  | cons p ts ih =>
    rw [List.foldl_cons, ih, endPendingTransfer, removeTransfer_transfers, tdrop, List.filter_filter]
    refine List.filter_congr fun q _ => ?_
    rw [Bool.eq_iff_iff]
    simp only [Bool.and_eq_true, decide_eq_true_eq, bne_iff_ne, List.map_cons, List.mem_cons, not_or]
    exact and_comm

theorem take_append_take {α : Type} (n : Nat) (a b : List α) : (a ++ b.take n).take n = (a ++ b).take n := by
  rw [List.take_append, List.take_append, List.take_take, Nat.min_eq_left (Nat.sub_le _ _)]

/-- R171, log 19: the ends enter the log in the order of the table, each newer than the one before. -/
theorem endPendingTransfers_log (h : s.ballast.log.length ≤ 4) :
    (ts.foldl endPendingTransfer s).ballast.log =
      ((ts.map (fun p => endRecord s.time p.1 p.2 .badMode)).reverse ++ s.ballast.log).take 4 := by
  induction ts generalizing s with
  | nil => simp [List.take_of_length_le h]
  | cons p ts ih =>
    rw [List.foldl_cons, ih _ (by rw [endPendingTransfer, removeTransfer_log]; simp), endPendingTransfer,
      removeTransfer_log, removeTransfer_time, take_append_take, List.map_cons, List.reverse_cons, List.append_assoc]
    rfl

theorem endPendingTransfers_tankRow (k : Nat) :
    (ts.foldl endPendingTransfer s).tankRow k =
      if ts.any (fun p => p.2.tankEnds.contains k) then { s.tankRow k with transfer := none, stale := false }
      else s.tankRow k := by
  induction ts generalizing s with
  | nil => rfl
  | cons p ts ih =>
    rw [List.foldl_cons, ih, endPendingTransfer, removeTransfer_tankRow, List.any_cons]
    by_cases h₁ : p.2.tankEnds.contains k = true
    · by_cases h₂ : ts.any (fun p => p.2.tankEnds.contains k) = true <;> simp only [h₁, h₂] <;> simp
    · simp only [Bool.eq_false_iff.mpr h₁, Bool.false_or]
      rfl

theorem endPendingTransfers_notices (j : Link) :
    ((ts.foldl endPendingTransfer s).links.get j).notices = (s.links.get j).notices
      ||| (if (j = .l0 ∨ j = .l3) ∧ ts ≠ [] then Event.transfer.flag else 0#16) := by
  induction ts generalizing s with
  | nil => simp
  | cons p ts ih =>
    rw [List.foldl_cons, ih, endPendingTransfer, removeTransfer_notices, BitVec.or_assoc]
    have hj : j ∈ [Link.l3, .l0] ↔ j = .l0 ∨ j = .l3 := by simp [or_comm]
    by_cases h₁ : j = .l0 ∨ j = .l3
    · by_cases h₂ : ts = [] <;> simp [hj, h₁, h₂]
    · simp [hj, h₁]

end Folds

end Sys2Proof.Machine
end

section
/-! Enter Configuration: the lifts that are pending in a sound gate, and the command's cases. -/

namespace Sys2Proof.Machine

/-! ### Pending lifts (R9) -/

theorem opposite_ne (c : CraneId) : c.opposite ≠ c := by cases c <;> decide

theorem liftOf_cranes_nodup (s : State) (c : CraneId) : (liftOf s c).cranes.Nodup := by
  unfold liftOf
  split
  · cases c <;> decide
  · split <;> cases c <;> decide
  · cases c <;> decide

/-- The record is of a pending lift and stands for it: it is no partner's. -/
def LiftRecord.leads (r : LiftRecord) : Bool := decide (r.state ≠ .idle) && decide (r.role ≠ some .partner)

theorem leads_iff {r : LiftRecord} : r.leads = true ↔ r.state ≠ .idle ∧ r.role ≠ some .partner := by
  simp [LiftRecord.leads]

theorem liftOf_congr {s s' : State} {c : CraneId} (h : s'.liftRec c = s.liftRec c) : liftOf s' c = liftOf s c := by
  simp [liftOf, h]

theorem liftOf_lead {s : State} {c : CraneId} (h : (s.liftRec c).role ≠ some .partner) : (liftOf s c).lead = c := by
  unfold liftOf
  split
  · exact absurd ‹_› h
  · split <;> rfl
  · rfl

theorem mem_liftOf_cranes {s : State} {c : CraneId} (h : (s.liftRec c).role ≠ some .partner) :
    c ∈ (liftOf s c).cranes := by
  unfold liftOf
  split
  · exact absurd ‹_› h
  · split <;> simp [LiftRef.cranes]
  · simp [LiftRef.cranes]

/-- R9: the lift that a crane leads is ended. -/
theorem endPendingLift_eq (s : State) (c : CraneId) :
    endPendingLift s c = if (s.liftRec c).leads then releaseLift (liftOf s c) .badMode s else s := by
  unfold endPendingLift
  by_cases hi : (s.liftRec c).state = .idle <;> by_cases hr : (s.liftRec c).role = some .partner <;>
    simp [LiftRecord.leads, hi, hr]

theorem endPendingLift_endsPending (s : State) (c : CraneId) : EndsPending s (endPendingLift s c) := by
  rw [endPendingLift_eq]
  split
  · exact releaseLift_endsPending _ _ _
  · exact .refl s

/-- Whether or not rounds follow, the end of a lift leaves a crane IDLE or its record as it stood but for its reason. -/
theorem endPendingLift_silent (s : State) (c d : CraneId) :
    ((endPendingLift s c).liftRec d).silent =
      (if (s.liftRec c).leads = true ∧ d ∈ (liftOf s c).cranes then (s.liftRec d).ended .badMode
        else s.liftRec d).silent := by
  rw [endPendingLift_eq]
  by_cases h : (s.liftRec c).leads = true
  · simp only [h, if_true, true_and]
    exact releaseLift_silent (liftOf_cranes_nodup s c) _ _ _
  · simp [h]

/-! With no lift in the slot no round follows. -/

section NoSlot

variable {s : State} (h : s.gate.slot = none) (c : CraneId)

include h

theorem endPendingLift_slot : (endPendingLift s c).gate.slot = none := by
  rw [endPendingLift_eq]
  split
  · rw [releaseLift_of_no_slot h, latchLift_gate, liftEnded_slot, h]
  · exact h

theorem endPendingLift_transfers : (endPendingLift s c).ballast.transfers = s.ballast.transfers := by
  rw [endPendingLift_eq]
  split
  · rw [releaseLift_of_no_slot h, latchLift_ballast, liftEnded_ballast]
  · rfl

theorem endPendingLift_liftRec (d : CraneId) :
    (endPendingLift s c).liftRec d =
      if (s.liftRec c).leads = true ∧ d ∈ (liftOf s c).cranes then (s.liftRec d).ended .badMode else s.liftRec d := by
  have hlatch (u : State) (cs : List CraneId) : (latchLift cs u).liftRec d = u.liftRec d := by simp [State.liftRec]
  rw [endPendingLift_eq]
  by_cases hl : (s.liftRec c).leads = true
  · simp only [hl, if_true, true_and]
    rw [releaseLift_of_no_slot h, hlatch, liftEnded_liftRec (liftOf_cranes_nodup s c)]
  · simp [hl]

theorem endPendingLift_tget (n : Nat) :
    tget (endPendingLift s c).cond.lots n =
      if (s.liftRec c).leads = true ∧ (s.liftRec c).lot.map LotRef.slot = some n then
        (tget s.cond.lots n).map Lot.returned
      else tget s.cond.lots n := by
  rw [endPendingLift_eq]
  by_cases hl : (s.liftRec c).leads = true
  · simp only [hl, if_true, true_and]
    rw [releaseLift_of_no_slot h, latchLift_cond, liftEnded_tget, liftOf_lead (leads_iff.mp hl).2]
  · simp [hl]

omit h in
theorem endPendingLift_notices (j : Link) :
    ((endPendingLift s c).links.get j).notices = (s.links.get j).notices
      ||| (if (s.liftRec c).leads = true ∧ j ∈ (liftOf s c).cranes.map CraneId.link ++ [.l0] then Event.lift.flag
        else 0#16) := by
  rw [endPendingLift_eq]
  by_cases hl : (s.liftRec c).leads = true
  · simp only [hl, if_true, true_and]
    exact releaseLift_notices _ _ _ _
  · simp [hl]

end NoSlot

/-- R9: no lift is past REQUESTED where Enter Configuration is not refused. -/
theorem not_pastRequested {s : State} (h : heldInService s = false) (c : CraneId) :
    (s.liftRec c).state.pastRequested = false := by
  simp only [heldInService, Bool.or_eq_false_iff] at h
  cases c
  · exact h.1.1
  · exact h.1.2

theorem requested_of_pending {r : LiftRecord} (h : r.state.pastRequested = false) (hi : r.state ≠ .idle)
    (hp : r.state ≠ .pairing) : r.state = .requested := by
  cases hs : r.state <;> simp_all [LiftState.pastRequested]

/-! In a sound gate with no lift past REQUESTED, the cranes of the pending lifts are those that are not IDLE. -/

section Sound

variable {s : State} (hg : GateSound s) (hh : heldInService s = false)

include hg hh

theorem no_slot : s.gate.slot = none := by
  cases hs : s.gate.slot with
  | none => rfl
  | some r =>
    obtain ⟨_, _, hpast⟩ := hg.holder r hs r.lead (by unfold LiftRef.cranes; split <;> simp)
    exact absurd hpast (by simp [not_pastRequested hh])

/-- The other crane of a lift that a crane leads is its partner. -/
theorem partner_of_mem {c d : CraneId} (hc : (s.liftRec c).leads = true) (hd : d ∈ (liftOf s c).cranes) (hne : d ≠ c) :
    (s.liftRec d).state ≠ .idle ∧ (s.liftRec d).role = some .partner := by
  obtain ⟨hi, hr⟩ := leads_iff.mp hc
  by_cases hp : (s.liftRec c).state = .pairing
  · have hlift : liftOf s c = ⟨c, none⟩ := by simp [liftOf, hg.pairing c hp, hp]
    rw [hlift] at hd
    exact absurd (by simpa [LiftRef.cranes] using hd) hne
  · obtain ⟨hq, _⟩ := hg.queued c (requested_of_pending (not_pastRequested hh c) hi hp)
    obtain ⟨hlift, hreq⟩ := hg.entries _ hq d hd
    refine ⟨by simp [hreq], ?_⟩
    by_contra hdr
    exact hne ((liftOf_lead hdr).symm.trans ((congrArg LiftRef.lead hlift).trans (liftOf_lead hr)))

/-- A partner's lift is led by the other crane. -/
theorem lead_of_partner {c : CraneId} (hi : (s.liftRec c).state ≠ .idle) (hr : (s.liftRec c).role = some .partner) :
    (s.liftRec c.opposite).leads = true ∧ c ∈ (liftOf s c.opposite).cranes := by
  have hp : (s.liftRec c).state ≠ .pairing := fun hp => by simp [hg.pairing c hp] at hr
  have hlift : liftOf s c = ⟨c.opposite, some c⟩ := by simp [liftOf, hr]
  obtain ⟨hq, _⟩ := hg.queued c (requested_of_pending (not_pastRequested hh c) hi hp)
  obtain ⟨hopp, hreq⟩ := hg.entries _ hq c.opposite (by simp [hlift, LiftRef.cranes])
  rw [hopp, hlift]
  refine ⟨leads_iff.mpr ⟨by simp [hreq], fun hpr => ?_⟩, by simp [LiftRef.cranes]⟩
  have hother : liftOf s c.opposite = ⟨c.opposite.opposite, some c.opposite⟩ := by simp [liftOf, hpr]
  rw [hopp, hlift] at hother
  exact opposite_ne c.opposite (congrArg LiftRef.lead hother).symm

/-- A crane is in a pending lift when, and only when, it leads one or the other crane's holds it. -/
theorem pending_iff (d : CraneId) :
    (s.liftRec d).state ≠ .idle ↔ ∃ c, (s.liftRec c).leads = true ∧ d ∈ (liftOf s c).cranes := by
  constructor
  · intro hi
    by_cases hr : (s.liftRec d).role = some .partner
    · exact ⟨d.opposite, lead_of_partner hg hh hi hr⟩
    · exact ⟨d, leads_iff.mpr ⟨hi, hr⟩, mem_liftOf_cranes hr⟩
  · rintro ⟨c, hc, hd⟩
    by_cases hne : d = c
    · subst d
      exact (leads_iff.mp hc).1
    · exact (partner_of_mem hg hh hc hd hne).1

/-- A crane that leads its own lift is in no other. -/
theorem not_mem_of_leads {c d : CraneId} (hc : (s.liftRec c).leads = true) (hd : (s.liftRec d).leads = true)
    (hne : d ≠ c) : d ∉ (liftOf s c).cranes :=
  fun hm => (leads_iff.mp hd).2 (partner_of_mem hg hh hc hm hne).2

/-- The end of crane 1's lift leaves crane 2's record, unless it ends it too: what crane 2 leads then is what it led. -/
theorem second_leads : ((endPendingLift s .one).liftRec .two).leads = (s.liftRec .two).leads
    ∧ ((s.liftRec .two).leads = true → (endPendingLift s .one).liftRec .two = s.liftRec .two) := by
  rw [endPendingLift_liftRec (no_slot hg hh)]
  split
  · rename_i h
    have hno : (s.liftRec .two).leads = false := by
      by_contra hl
      exact not_mem_of_leads hg hh h.1 (by simpa using hl) (by decide) h.2
    rw [hno]
    exact ⟨by simp [LiftRecord.leads, LiftRecord.ended, LiftRecord.reset], fun h => by cases h⟩
  · exact ⟨rfl, fun _ => rfl⟩

/-- What holds of the lift that crane 2 leads holds of it still when crane 1's lift has ended. -/
theorem second_iff (P : LiftRef → LiftRecord → Prop) :
    (((endPendingLift s .one).liftRec .two).leads = true
        ∧ P (liftOf (endPendingLift s .one) .two) ((endPendingLift s .one).liftRec .two))
      ↔ (s.liftRec .two).leads = true ∧ P (liftOf s .two) (s.liftRec .two) := by
  obtain ⟨hl, hrec⟩ := second_leads hg hh
  rw [hl]
  refine and_congr_right fun h => ?_
  rw [liftOf_congr (hrec h), hrec h]

/-- R9, R136: every crane in a pending lift is IDLE with an outcome, and no other record changes. -/
theorem pendingLifts_liftRec (d : CraneId) :
    (bothCranes.foldl endPendingLift s).liftRec d =
      if (s.liftRec d).state ≠ .idle then (s.liftRec d).ended .badMode else s.liftRec d := by
  have hslot := no_slot hg hh
  change (endPendingLift (endPendingLift s .one) .two).liftRec d = _
  rw [endPendingLift_liftRec (endPendingLift_slot hslot .one), endPendingLift_liftRec hslot .one d]
  simp only [second_iff hg hh (fun r _ => d ∈ r.cranes)]
  have hpending := pending_iff hg hh d
  by_cases h₁ : (s.liftRec .one).leads = true ∧ d ∈ (liftOf s .one).cranes
  · have h₂ : ¬ ((s.liftRec .two).leads = true ∧ d ∈ (liftOf s .two).cranes) := by
      rintro ⟨hl, hm⟩
      cases d
      · exact not_mem_of_leads hg hh hl h₁.1 (by decide) hm
      · exact not_mem_of_leads hg hh h₁.1 hl (by decide) h₁.2
    rw [if_neg h₂, if_pos h₁, if_pos (hpending.mpr ⟨_, h₁⟩)]
  · by_cases h₂ : (s.liftRec .two).leads = true ∧ d ∈ (liftOf s .two).cranes
    · rw [if_pos h₂, if_neg h₁, if_pos (hpending.mpr ⟨_, h₂⟩)]
    · have hno : ¬ (s.liftRec d).state ≠ .idle := fun hi => by
        obtain ⟨c, hc⟩ := hpending.mp hi
        cases c
        · exact h₁ hc
        · exact h₂ hc
      rw [if_neg h₂, if_neg h₁, if_neg hno]

theorem pendingLifts_transfers : (bothCranes.foldl endPendingLift s).ballast.transfers = s.ballast.transfers := by
  have hslot := no_slot hg hh
  exact (endPendingLift_transfers (endPendingLift_slot hslot .one) .two).trans (endPendingLift_transfers hslot .one)

/-- R136: the lot of every pending lift is returned, once or by both its leads alike. -/
theorem pendingLifts_tget_returned {n : Nat} {c : CraneId}
    (hc : (s.liftRec c).leads = true ∧ (s.liftRec c).lot.map LotRef.slot = some n) :
    tget (bothCranes.foldl endPendingLift s).cond.lots n = (tget s.cond.lots n).map Lot.returned := by
  have hslot := no_slot hg hh
  have htwice (k : Lot) : k.returned.returned = k.returned := by
    cases hs : k.state with
    | lifting o => cases o <;> simp [Lot.returned, hs]
    | planned => simp [Lot.returned, hs]
    | aboard => simp [Lot.returned, hs]
  change tget (endPendingLift (endPendingLift s .one) .two).cond.lots n = _
  rw [endPendingLift_tget (endPendingLift_slot hslot .one), endPendingLift_tget hslot]
  simp only [second_iff hg hh (fun _ r => r.lot.map LotRef.slot = some n)]
  cases c with
  | one =>
    rw [if_pos hc]
    split
    · simp [Function.comp_def, htwice]
    · rfl
  | two =>
    rw [if_pos hc]
    split
    · simp [Function.comp_def, htwice]
    · rfl

theorem pendingLifts_tget_other {n : Nat}
    (hn : ∀ c, (s.liftRec c).leads = true → (s.liftRec c).lot.map LotRef.slot ≠ some n) :
    tget (bothCranes.foldl endPendingLift s).cond.lots n = tget s.cond.lots n := by
  have hslot := no_slot hg hh
  change tget (endPendingLift (endPendingLift s .one) .two).cond.lots n = _
  rw [endPendingLift_tget (endPendingLift_slot hslot .one), endPendingLift_tget hslot]
  simp only [second_iff hg hh (fun _ r => r.lot.map LotRef.slot = some n)]
  rw [if_neg fun h => hn .two h.1 h.2, if_neg fun h => hn .one h.1 h.2]

/-- R182: LIFT is latched on L0 and on the links of the cranes whose lifts end. -/
theorem pendingLifts_notices (j : Link) (P : Prop) [Decidable P]
    (hP : P ↔ ∃ d, (s.liftRec d).state ≠ .idle ∧ (j = .l0 ∨ j = d.link)) :
    ((bothCranes.foldl endPendingLift s).links.get j).notices = (s.links.get j).notices
      ||| (if P then Event.lift.flag else 0#16) := by
  have hlead (c : CraneId) : ((s.liftRec c).leads = true ∧ j ∈ (liftOf s c).cranes.map CraneId.link ++ [.l0]) ↔
      ∃ d, ((s.liftRec c).leads = true ∧ d ∈ (liftOf s c).cranes) ∧ (j = .l0 ∨ j = d.link) := by
    simp only [List.mem_append, List.mem_map, List.mem_singleton]
    constructor
    · rintro ⟨hl, ⟨d, hd, rfl⟩ | hj⟩
      · exact ⟨d, ⟨hl, hd⟩, .inr rfl⟩
      · exact ⟨c, ⟨hl, mem_liftOf_cranes (leads_iff.mp hl).2⟩, .inl hj⟩
    · rintro ⟨d, ⟨hl, hd⟩, hj | hj⟩
      · exact ⟨hl, .inr hj⟩
      · exact ⟨hl, .inl ⟨d, hd, hj.symm⟩⟩
  have hall : P ↔ ((s.liftRec .one).leads = true ∧ j ∈ (liftOf s .one).cranes.map CraneId.link ++ [.l0])
      ∨ ((s.liftRec .two).leads = true ∧ j ∈ (liftOf s .two).cranes.map CraneId.link ++ [.l0]) := by
    rw [hlead, hlead, hP]
    constructor
    · rintro ⟨d, hi, hj⟩
      obtain ⟨c, hc⟩ := (pending_iff hg hh d).mp hi
      cases c
      · exact .inl ⟨d, hc, hj⟩
      · exact .inr ⟨d, hc, hj⟩
    · rintro (⟨d, hc, hj⟩ | ⟨d, hc, hj⟩)
      · exact ⟨d, (pending_iff hg hh d).mpr ⟨_, hc⟩, hj⟩
      · exact ⟨d, (pending_iff hg hh d).mpr ⟨_, hc⟩, hj⟩
  change ((endPendingLift (endPendingLift s .one) .two).links.get j).notices = _
  rw [endPendingLift_notices, endPendingLift_notices, BitVec.or_assoc]
  simp only [second_iff hg hh (fun r _ => j ∈ r.cranes.map CraneId.link ++ [.l0]), hall]
  by_cases h₁ : (s.liftRec .one).leads = true ∧ j ∈ (liftOf s .one).cranes.map CraneId.link ++ [.l0]
  · by_cases h₂ : (s.liftRec .two).leads = true ∧ j ∈ (liftOf s .two).cranes.map CraneId.link ++ [.l0]
    · rw [if_pos h₁, if_pos h₂, if_pos (.inl h₁), BitVec.or_self]
    · rw [if_pos h₁, if_neg h₂, if_pos (.inl h₁), BitVec.or_zero]
  · by_cases h₂ : (s.liftRec .two).leads = true ∧ j ∈ (liftOf s .two).cranes.map CraneId.link ++ [.l0]
    · rw [if_neg h₁, if_pos h₂, if_pos (.inr h₂), BitVec.zero_or]
    · rw [if_neg h₁, if_neg h₂, if_neg (not_or.mpr ⟨h₁, h₂⟩), BitVec.zero_or]

end Sound

end Sys2Proof.Machine
end

section
/-! Enter Configuration: the state it leaves, and the command's cases. -/

namespace Sys2Proof.Machine

/-! ### Everything pending is ended (R9 steps 1 and 2) -/

def pendingEnded (s : State) : State :=
  (bothCranes.foldl endPendingLift s).ballast.transfers.foldl endPendingTransfer (bothCranes.foldl endPendingLift s)

theorem leaveService_eq (s : State) :
    leaveService s = changeMode .configuration (shutResults (liftSuspension (pendingEnded s))) := rfl

theorem pendingEnded_endsPending (s : State) : EndsPending s (pendingEnded s) :=
  ((endPendingLift_endsPending s .one).trans (endPendingLift_endsPending _ .two)).trans
    (endPendingTransfers_endsPending _ _)

theorem pendingEnded_liftRec (s : State) (c : CraneId) :
    (pendingEnded s).liftRec c = (bothCranes.foldl endPendingLift s).liftRec c :=
  congrArg (fun r : PerCrane LiftRecord => r.get c) (endPendingTransfers_recs _ _)

theorem pendingEnded_transfers (s : State) : (pendingEnded s).ballast.transfers = [] := by
  rw [pendingEnded, endPendingTransfers_transfers, List.filter_eq_nil_iff]
  intro p hp
  simpa using ⟨p.2, hp⟩

/-- R9: a crane that is no partner is IDLE, in any gate. -/
theorem pendingEnded_idle {s : State} {c : CraneId} (hc : (s.liftRec c).role ≠ some .partner) :
    ((pendingEnded s).liftRec c).state = .idle := by
  have state (u : State) (d : CraneId) := congrArg LiftRecord.state (endPendingLift_silent u d c)
  have role (u : State) (d : CraneId) := congrArg LiftRecord.role (endPendingLift_silent u d c)
  have keep {u : State} {d : CraneId} (h : (u.liftRec c).state = .idle) :
      ((endPendingLift u d).liftRec c).state = .idle := by
    refine (state u d).trans ?_
    split
    · rfl
    · exact h
  have own {u : State} (h : (u.liftRec c).role ≠ some .partner) :
      ((endPendingLift u c).liftRec c).state = .idle := by
    by_cases hi : (u.liftRec c).state = .idle
    · exact keep hi
    · refine (state u c).trans ?_
      rw [if_pos ⟨leads_iff.mpr ⟨hi, h⟩, mem_liftOf_cranes h⟩]
      rfl
  rw [pendingEnded_liftRec]
  cases c with
  | one => exact keep (own hc)
  | two =>
    refine own (u := endPendingLift s .one) fun h => ?_
    have h' := (role s .one).symm.trans h
    split at h'
    · cases h'
    · exact hc h'

/-! ### What is ended in a sound gate (R125, R136, R147, R171) -/

theorem gateSound_onLink {s : State} (h : GateSound s) (l : Link) (f : LinkUnit → LinkUnit) :
    GateSound (s.onLink l f) :=
  ⟨h.holder, h.others, h.entries, h.queued, h.once, h.pairing, h.suspended⟩

/-- R171: the record of a transfer that is not GRANTED, ended with BAD_MODE. -/
theorem endRecord_requested {now : Count32} {id : Nat} {x : Transfer} (h : x.phase.isGranted = false) :
    endRecord now id x .badMode =
      { id := id, source := x.source, dest := x.dest, planned := x.planned, kind := .badMode, reason := none,
        amount := none, overrun := false, time := now } := by
  cases hp : x.phase <;> simp [endRecord, hp, TransferPhase.isGranted] at h ⊢

theorem not_granted {s : State} (h : heldInService s = false) {p : Nat × Transfer} (hp : p ∈ s.ballast.transfers) :
    p.2.phase.isGranted = false := by
  simp only [heldInService, Bool.or_eq_false_iff, List.any_eq_false] at h
  simpa using h.2 p hp

theorem pendingLifts_tanks (s : State) : (bothCranes.foldl endPendingLift s).cond.tanks = s.cond.tanks := by
  have step (u : State) (c : CraneId) : (endPendingLift u c).cond.tanks = u.cond.tanks := by
    rw [endPendingLift_eq]
    split
    · exact releaseLift_cond_tanks _ _ _
    · rfl
  exact (step _ _).trans (step _ _)

theorem pendingLifts_log (s : State) : (bothCranes.foldl endPendingLift s).ballast.log = s.ballast.log := by
  have step (u : State) (c : CraneId) : (endPendingLift u c).ballast.log = u.ballast.log := by
    rw [endPendingLift_eq]
    split
    · exact releaseLift_ballast_log _ _ _
    · rfl
  exact (step _ _).trans (step _ _)

section SoundEnds

variable {s : State} (hg : GateSound s) (hh : heldInService s = false)

include hg hh

theorem pendingEnded_eq :
    pendingEnded s = s.ballast.transfers.foldl endPendingTransfer (bothCranes.foldl endPendingLift s) := by
  rw [pendingEnded, pendingLifts_transfers hg hh]

theorem pendingEnded_lots (n : Nat) :
    tget (pendingEnded s).cond.lots n = tget (bothCranes.foldl endPendingLift s).cond.lots n := by
  rw [pendingEnded_eq hg hh, endPendingTransfers_lots]

theorem pendingEnded_tankRow (k : Nat) :
    (pendingEnded s).tankRow k =
      if s.ballast.transfers.any (fun p => p.2.tankEnds.contains k) then
        { s.tankRow k with transfer := none, stale := false }
      else s.tankRow k := by
  have hrow : (bothCranes.foldl endPendingLift s).tankRow k = s.tankRow k := by
    rw [State.tankRow, pendingLifts_tanks, State.tankRow]
  rw [pendingEnded_eq hg hh, endPendingTransfers_tankRow, hrow]

theorem pendingEnded_log (hlen : s.ballast.log.length ≤ 4) :
    (pendingEnded s).ballast.log =
      ((s.ballast.transfers.map (fun p =>
          ({ id := p.1, source := p.2.source, dest := p.2.dest, planned := p.2.planned, kind := .badMode,
             reason := none, amount := none, overrun := false, time := s.time } : EndRecord))).reverse
        ++ s.ballast.log).take 4 := by
  have htime : (bothCranes.foldl endPendingLift s).time = s.time :=
    ((endPendingLift_endsPending s .one).trans (endPendingLift_endsPending _ .two)).frame.time
  rw [pendingEnded_eq hg hh, endPendingTransfers_log _ _ (by rw [pendingLifts_log]; exact hlen), pendingLifts_log,
    htime]
  congr 3
  exact List.map_congr_left fun p hp => endRecord_requested (not_granted hh hp)

theorem pendingEnded_notices (j : Link) (P : Prop) [Decidable P]
    (hP : P ↔ ∃ d, (s.liftRec d).state ≠ .idle ∧ (j = .l0 ∨ j = d.link)) :
    ((pendingEnded s).links.get j).notices = (s.links.get j).notices ||| (if P then Event.lift.flag else 0#16)
      ||| (if (j = .l0 ∨ j = .l3) ∧ s.ballast.transfers ≠ [] then Event.transfer.flag else 0#16) := by
  rw [pendingEnded_eq hg hh, endPendingTransfers_notices, pendingLifts_notices hg hh j P hP]

end SoundEnds

/-! ### The results are shut and the mode changes (R9 steps 4 to 6) -/

/-- R9: what is left of a state whose pending lifts and transfers have ended. -/
def leftWith (ls : Links) (s : State) : State :=
  { shutResults s with
    mode := .configuration, links := ls, monitor := { (shutResults s).monitor with suspension := none } }

/-- R125: the suspension, if it is in force, ends, and SUSPEND is latched on all four links. -/
theorem liftSuspension_form (s : State) : ∃ ls,
    liftSuspension s = { s with links := ls, monitor := { s.monitor with suspension := none } }
      ∧ (∀ j, (ls.get j).notices =
          (s.links.get j).notices ||| (if s.suspended then Event.suspend.flag else 0#16))
      ∧ ∀ l k tag, (s.links.get l).holds k tag → (ls.get l).holds k tag := by
  by_cases hs : s.suspended = true
  · have e : liftSuspension s = endSuspension s := if_pos hs
    refine ⟨(endSuspension s).links, e.trans (latchOn_form _ _ _), fun j => ?_, fun l k tag h => holds_latchOn h⟩
    rw [if_pos hs, endSuspension, latchOn_notices, if_pos (mem_allLinks j)]
  · have hn : s.monitor.suspension = none := by simpa [State.suspended] using hs
    refine ⟨s.links, ?_, fun j => by simp [hs], fun l k tag h => h⟩
    rw [liftSuspension, if_neg hs, ← hn]

/-- R7, R9: MODE is latched on all four links, beside SUSPEND where the suspension ended. -/
theorem leftWith_liftRec (ls : Links) (s : State) (c : CraneId) : (leftWith ls s).liftRec c = s.liftRec c := rfl

theorem leftWith_ctx (ls : Links) (s : State) (x : Ctx) : (leftWith ls s).ctx x = (s.ctx x).shut := by
  cases x <;> rfl

theorem leftWith_listOf (ls : Links) (s : State) (x : Ctx) : listOf (leftWith ls s) x = ViolationList.emptied := by
  cases x <;> rfl

theorem leftWith_untouched (ls : Links) (s : State) : Untouched s (leftWith ls s) :=
  ⟨rfl, rfl, rfl, rfl, rfl, rfl, rfl, ⟨rfl, rfl⟩, ⟨rfl, rfl⟩, rfl, rfl, rfl, rfl⟩

theorem settle_untouched (s : State) : Untouched s (settle s) :=
  ⟨by simp, by simp, by simp, by simp, by simp, by simp, by simp, by simp, by simp, by simp, by simp, by simp, by simp⟩

theorem onLink_untouched (l : Link) (f : LinkUnit → LinkUnit) (s : State) : Untouched s (s.onLink l f) :=
  ⟨rfl, rfl, rfl, rfl, rfl, rfl, rfl, ⟨rfl, rfl⟩, ⟨rfl, rfl⟩, rfl, rfl, rfl, rfl⟩

theorem leaveService_form (s : State) : ∃ ls, leaveService s = leftWith ls (pendingEnded s)
    ∧ (∀ j, (ls.get j).notices = ((pendingEnded s).links.get j).notices
        ||| (if s.suspended then Event.suspend.flag else 0#16) ||| Event.mode.flag)
    ∧ ∀ l k tag, (s.links.get l).holds k tag → (ls.get l).holds k tag := by
  have hp := pendingEnded_endsPending s
  have hsus : (pendingEnded s).suspended = s.suspended := by rw [State.suspended, hp.monitor, State.suspended]
  obtain ⟨ls, e, hn, hh⟩ := liftSuspension_form (pendingEnded s)
  refine ⟨(leaveService s).links, ?_, fun j => ?_, fun l k tag h => ?_⟩
  · rw [leaveService_eq, e]
    exact latchOn_form _ _ _
  · rw [leaveService_eq, changeMode, latchOn_notices, if_pos (mem_allLinks j), e, ← hsus]
    exact congrArg (· ||| Event.mode.flag) (hn j)
  · rw [leaveService_eq, e]
    exact holds_latchOn (hh l k tag (hp.holds l k tag h))

/-! ### The command (R9) -/

/-- Outside SERVICE the close of a step leaves the evaluation unit alone (R76). -/
theorem settle_eval_of_not_service {s : State} (h : s.mode ≠ .service) : (settle s).eval = s.eval := by
  simp [settle, kick, h]

/-- The state that an admitted Enter Configuration leaves of one in SERVICE. -/
def leftFrom (l : Link) (tag : Byte) (s : State) : State :=
  settle ((leaveService (s.onLink l (LinkUnit.reserve 0x01#8 tag))).onLink l
    (LinkUnit.fill .current (Reply.bare .done)))

theorem exec_enterConfiguration {s : State} {l : Link} {tag : Byte} (h : Ready s l .enterConfiguration)
    (hm : s.mode = .service) (hh : heldInService s = false) :
    exec (.enterConfiguration l tag) s = .next (leftFrom l tag s) := by
  have hb : bodyEnterConfiguration (s.onLink l (LinkUnit.reserve 0x01#8 tag))
      = doneWith (leaveService (s.onLink l (LinkUnit.reserve 0x01#8 tag))) := by
    have hh' : heldInService (s.onLink l (LinkUnit.reserve 0x01#8 tag)) = false := hh
    simp [bodyEnterConfiguration, hm, hh']
  have hx := command_ready (t := tag) (body := bodyEnterConfiguration) h
  rw [show Request.enterConfiguration.kind = 0x01#8 from rfl, hb] at hx
  exact hx

theorem leftFrom_form {s : State} (h : noneServed s = true) (l : Link) (tag : Byte) : ∃ ls,
    leftFrom l tag s = settle (leftWith ls (pendingEnded (s.onLink l (LinkUnit.reserve 0x01#8 tag))))
      ∧ (∀ j, (ls.get j).notices =
          ((pendingEnded (s.onLink l (LinkUnit.reserve 0x01#8 tag))).links.get j).notices
            ||| (if s.suspended then Event.suspend.flag else 0#16) ||| Event.mode.flag)
      ∧ OutPlace.reply (replyFrame (Reply.bare .done) 0x01#8 tag) ∈ (ls.get l).outbound := by
  obtain ⟨ls, e, hn, hk⟩ := leaveService_form (s.onLink l (LinkUnit.reserve 0x01#8 tag))
  refine ⟨ls.set l ((ls.get l).fill .current (Reply.bare .done)), ?_, fun j => ?_, ?_⟩
  · rw [leftFrom, e]
    rfl
  · refine Eq.trans ?_ (hn j)
    rw [links_get_set]
    split
    · subst j
      rfl
    · rfl
  · rw [links_get_set_self]
    exact fill_sends (hk l _ _ (holds_reserve h l _ _))

/-! What is left, in any gate. -/

section Left

variable {s : State} (h : noneServed s = true) (l : Link) (tag : Byte)

include h

theorem leftFrom_sends : (leftFrom l tag s).sends l (replyFrame (Reply.bare .done) 0x01#8 tag) := by
  obtain ⟨ls, e, _, hreply⟩ := leftFrom_form h l tag
  rw [e]
  exact sends_settle (.inl hreply)

theorem leftFrom_untouched : Untouched s (leftFrom l tag s) := by
  obtain ⟨ls, e, _⟩ := leftFrom_form h l tag
  rw [e]
  exact (((onLink_untouched _ _ s).trans (pendingEnded_endsPending _).frame).trans (leftWith_untouched ls _)).trans
    (settle_untouched _)

theorem leftFrom_mode : (leftFrom l tag s).mode = .configuration := by
  obtain ⟨ls, e, _⟩ := leftFrom_form h l tag
  rw [e, settle_mode]
  rfl

theorem leftFrom_monitor : (leftFrom l tag s).monitor.suspension = none
    ∧ (leftFrom l tag s).monitor.first = s.monitor.first ∧ (leftFrom l tag s).monitor.next = s.monitor.next
    ∧ (leftFrom l tag s).monitor.stopCount = s.monitor.stopCount := by
  obtain ⟨ls, e, _⟩ := leftFrom_form h l tag
  have hp := (pendingEnded_endsPending (s.onLink l (LinkUnit.reserve 0x01#8 tag))).monitor
  rw [e]
  simp [leftWith, shutResults, hp]

theorem leftFrom_gate : (leftFrom l tag s).gate.queue = [] ∧ (leftFrom l tag s).gate.window = false := by
  obtain ⟨ls, e, _⟩ := leftFrom_form h l tag
  rw [e]
  simp [leftWith, shutResults]

/-- R70: outside SERVICE the arbiter chooses nothing, so the results stay as they were shut. -/
theorem leftFrom_eval : ∃ ls, (leftFrom l tag s).eval
    = (leftWith ls (pendingEnded (s.onLink l (LinkUnit.reserve 0x01#8 tag)))).eval := by
  obtain ⟨ls, e, _⟩ := leftFrom_form h l tag
  exact ⟨ls, by rw [e]; exact settle_eval_of_not_service (by simp [leftWith])⟩

theorem leftFrom_unit : (leftFrom l tag s).eval.unit = .idle ∧ (leftFrom l tag s).eval.alt = 0 := by
  obtain ⟨ls, e⟩ := leftFrom_eval h l tag
  rw [e]
  exact ⟨rfl, rfl⟩

/-- R82: every context is shut, and its generation stands. -/
theorem leftFrom_ctx (x : Ctx) : (leftFrom l tag s).ctx x = (s.ctx x).shut := by
  obtain ⟨ls, e⟩ := leftFrom_eval h l tag
  have hx : (leftFrom l tag s).ctx x
      = (leftWith ls (pendingEnded (s.onLink l (LinkUnit.reserve 0x01#8 tag)))).ctx x := by
    cases x <;> simp only [State.ctx, e]
  rw [hx, leftWith_ctx, (pendingEnded_endsPending _).contexts]
  rfl

theorem leftFrom_listOf (x : Ctx) : listOf (leftFrom l tag s) x = ViolationList.emptied := by
  obtain ⟨ls, e, _⟩ := leftFrom_form h l tag
  rw [e, settle_listOf, leftWith_listOf]

theorem leftFrom_liftRec (c : CraneId) :
    (leftFrom l tag s).liftRec c = (pendingEnded (s.onLink l (LinkUnit.reserve 0x01#8 tag))).liftRec c := by
  obtain ⟨ls, e, _⟩ := leftFrom_form h l tag
  rw [e, settle_liftRec, leftWith_liftRec]

theorem leftFrom_cond :
    (leftFrom l tag s).cond = (pendingEnded (s.onLink l (LinkUnit.reserve 0x01#8 tag))).cond := by
  obtain ⟨ls, e, _⟩ := leftFrom_form h l tag
  rw [e, settle_cond]
  rfl

theorem leftFrom_ballast :
    (leftFrom l tag s).ballast = (pendingEnded (s.onLink l (LinkUnit.reserve 0x01#8 tag))).ballast := by
  obtain ⟨ls, e, _⟩ := leftFrom_form h l tag
  rw [e, settle_ballast]
  rfl

theorem leftFrom_tankRow (k : Nat) :
    (leftFrom l tag s).tankRow k = (pendingEnded (s.onLink l (LinkUnit.reserve 0x01#8 tag))).tankRow k := by
  rw [State.tankRow, leftFrom_cond h, State.tankRow]

/-- R7, R125, R147, R171: MODE, and SUSPEND, LIFT and TRANSFER where something ended. -/
theorem leftFrom_notices (hg : GateSound s) (hh : heldInService s = false) (j : Link) (P : Prop) [Decidable P]
    (hP : P ↔ ∃ d, (s.liftRec d).state ≠ .idle ∧ (j = .l0 ∨ j = d.link)) :
    ((leftFrom l tag s).links.get j).notices = (s.links.get j).notices ||| Event.mode.flag
      ||| (if s.suspended then Event.suspend.flag else 0#16)
      ||| (if (j = .l0 ∨ j = .l3) ∧ s.ballast.transfers ≠ [] then Event.transfer.flag else 0#16)
      ||| (if P then Event.lift.flag else 0#16) := by
  obtain ⟨ls, e, hn, _⟩ := leftFrom_form h l tag
  have hs : ((s.onLink l (LinkUnit.reserve 0x01#8 tag)).links.get j).notices = (s.links.get j).notices := by
    rw [onLink_get]
    split <;> rfl
  have hends := pendingEnded_notices (gateSound_onLink hg l (LinkUnit.reserve 0x01#8 tag)) hh j P hP
  rw [e, settle_notices]
  refine (hn j).trans ?_
  rw [hends, hs, onLink_ballast]
  ac_rfl

end Left

/-- Settles O22: by the mode, and from SERVICE by what `leftFrom` leaves, in a sound gate by what is ended there. -/
theorem enterConfigurationCompletes : Obligations.EnterConfigurationCompletes := by
  intro s l tag h
  have hn := h.none
  refine ⟨fun hm => ?_, fun hm => ?_, fun hm hh => ?_, fun hm hh => ?_, fun hm hh hg hlen => ?_⟩
  · exact command_reply h (s1 := changeMode .configuration (s.onLink l (LinkUnit.reserve 0x01#8 tag)))
      (by simp only [bodyEnterConfiguration, onLink_mode, hm]; rfl) (holds_latchOn (holds_reserve h.none l _ _))
      (latchOn_standing_congr (congrArg (fun t : State => ({ t with mode := .configuration } : State))
        (standing_onLink (standing_reserve _ _ _))))
  · exact command_quiet h (by simp [bodyEnterConfiguration, hm])
  · have hh' : heldInService (s.onLink l (LinkUnit.reserve Request.enterConfiguration.kind tag)) = true := hh
    exact command_quiet h (by simp [bodyEnterConfiguration, hm, hh', refuse])
  · obtain ⟨hsus, hfirst, hnext, hstop⟩ := leftFrom_monitor hn l tag
    obtain ⟨hqueue, hwindow⟩ := leftFrom_gate hn l tag
    obtain ⟨hunit, halt⟩ := leftFrom_unit hn l tag
    have hp := pendingEnded_endsPending (s.onLink l (LinkUnit.reserve 0x01#8 tag))
    refine ⟨leftFrom l tag s, exec_enterConfiguration h hm hh, leftFrom_sends hn l tag, leftFrom_mode hn l tag, hsus,
      hqueue, hwindow, hunit, halt, fun x => ?_, fun c hc => ?_, ?_, ?_, ?_, hfirst, hnext, hstop,
      leftFrom_untouched hn l tag⟩
    · rw [leftFrom_ctx hn]
      exact ⟨rfl, rfl, rfl, leftFrom_listOf hn l tag x⟩
    · rw [leftFrom_liftRec hn]
      exact pendingEnded_idle hc
    · rw [leftFrom_ballast hn]
      exact pendingEnded_transfers _
    · rw [leftFrom_cond hn]
      exact hp.seq
    · rw [leftFrom_cond hn]
      exact hp.hooks
  · have hg₀ := gateSound_onLink hg l (LinkUnit.reserve 0x01#8 tag)
    intro ends ended lead
    have hrec (c : CraneId) :
        (leftFrom l tag s).liftRec c = if ends c then (s.liftRec c).ended .badMode else s.liftRec c := by
      rw [leftFrom_liftRec hn, pendingEnded_liftRec]
      exact pendingLifts_liftRec hg₀ hh c
    have hlots (n : Nat) : tget (leftFrom l tag s).cond.lots n
        = tget (bothCranes.foldl endPendingLift (s.onLink l (LinkUnit.reserve 0x01#8 tag))).cond.lots n := by
      rw [leftFrom_cond hn]
      exact pendingEnded_lots hg₀ hh n
    refine ⟨leftFrom l tag s, exec_enterConfiguration h hm hh, fun c => ⟨fun hc => ?_, fun hc => ?_⟩,
      fun n k o d a b hk hs ⟨c, hc, hslot⟩ => ?_, fun n hno => ?_, fun k => ?_, ?_, ?_, fun j => ?_, fun x => ?_⟩
    · rw [hrec, if_pos hc]
      exact ⟨rfl, rfl, rfl, rfl, rfl⟩
    · rw [hrec, if_neg hc]
    · rw [hlots, pendingLifts_tget_returned hg₀ hh ⟨leads_iff.mpr hc, hslot⟩, onLink_cond, hk]
      cases o <;> simp [Lot.returned, hs]
    · rw [hlots]
      exact pendingLifts_tget_other hg₀ hh fun c hc => hno c (leads_iff.mp hc)
    · rw [leftFrom_tankRow hn]
      exact pendingEnded_tankRow hg₀ hh k
    · rw [leftFrom_ballast hn]
      exact pendingEnded_log hg₀ hh hlen
    · rw [leftFrom_ballast hn]
      exact (pendingEnded_endsPending _).nextId
    · refine leftFrom_notices hn l tag hg hh j (ended j) ?_
      constructor
      · rintro (⟨hj, hi | hi⟩ | ⟨hj, hi⟩ | ⟨hj, hi⟩)
        · exact ⟨.one, hi, .inl hj⟩
        · exact ⟨.two, hi, .inl hj⟩
        · exact ⟨.one, hi, .inr hj⟩
        · exact ⟨.two, hi, .inr hj⟩
      · rintro ⟨_ | _, hi, hj | hj⟩
        · exact .inl ⟨hj, .inl hi⟩
        · exact .inr (.inl ⟨hj, hi⟩)
        · exact .inl ⟨hj, .inr hi⟩
        · exact .inr (.inr ⟨hj, hi⟩)
    · rw [leftFrom_ctx hn]
      rfl

end Sys2Proof.Machine
end

section
/-! The tables' invariant: what each operation does to the trial stack, to the lot table and to the ballast unit. -/

namespace Sys2Proof.Machine

/-! ### The lot table (R19, R20) -/

/-- `lotsSound`, as the statements that it holds together. -/
theorem lotsSound_iff {t : Table Lot} :
    lotsSound t = true ↔
      tableWf t = true ∧ (∀ p ∈ t, p.1 < Config.lotSlots) ∧ (t.map (fun p => p.2.id)).Nodup := by
  simp only [lotsSound, Bool.and_eq_true, List.all_eq_true, decide_eq_true_eq, and_assoc]

/-- Tables with the same slots and the same ids are sound together. -/
theorem lotsSound_congr {t u : Table Lot} (hs : u.map Prod.fst = t.map Prod.fst)
    (hi : u.map (fun p => p.2.id) = t.map (fun p => p.2.id)) (h : lotsSound t = true) : lotsSound u = true := by
  rw [lotsSound_iff] at h ⊢
  obtain ⟨hwf, hlt, hnd⟩ := h
  refine ⟨tableWf_keys hwf hs, fun p hp => ?_, hi ▸ hnd⟩
  have hk : p.1 ∈ t.map Prod.fst := hs ▸ List.mem_map_of_mem hp
  obtain ⟨q, hq, hqp⟩ := List.mem_map.mp hk
  exact hqp ▸ hlt q hq

/-- A change to the lot of a slot that keeps its id keeps the table sound. -/
theorem lotsSound_tput_kept {t : Table Lot} {n : Nat} {a b : Lot} (hb : tget t n = some b) (hid : a.id = b.id)
    (h : lotsSound t = true) : lotsSound (tput t n a) = true := by
  obtain ⟨p, q, ht, hu⟩ := tput_split (a := a) (lotsSound_iff.mp h).1 hb
  refine lotsSound_congr ?_ ?_ h <;> rw [hu, ht] <;> simp [hid]

/-- A new lot in a FREE slot keeps the table sound. -/
theorem lotsSound_tput_new {t : Table Lot} {n : Nat} {a : Lot} (hn : freeSlot t = some n)
    (hid : findLot t a.id = none) (h : lotsSound t = true) : lotsSound (tput t n a) = true := by
  rw [lotsSound_iff] at h ⊢
  obtain ⟨hwf, hlt, hnd⟩ := h
  obtain ⟨hslot, hfree⟩ := freeSlot_spec hwf hn
  refine ⟨tableWf_tput hwf, fun p hp => ?_, ?_⟩
  · rcases mem_tput hp with rfl | hp
    · exact hslot
    · exact hlt p hp
  · obtain ⟨p, q, ht, hu⟩ := tput_new (a := a) hfree
    have hperm : ((tput t n a).map (fun p => p.2.id)).Perm (a.id :: t.map (fun p => p.2.id)) := by
      rw [hu, ht, List.map_append, List.map_append]
      exact List.perm_middle
    refine hperm.nodup_iff.mpr (List.nodup_cons.mpr ⟨fun hmem => ?_, hnd⟩)
    obtain ⟨r, hr, hra⟩ := List.mem_map.mp hmem
    exact findLot_none hid r hr hra

/-- Removing lots keeps the table sound. -/
theorem lotsSound_filter {t : Table Lot} (f : Nat × Lot → Bool) (h : lotsSound t = true) :
    lotsSound (t.filter f) = true := by
  rw [lotsSound_iff] at h ⊢
  obtain ⟨hwf, hlt, hnd⟩ := h
  exact ⟨tableWf_filter f hwf, fun p hp => hlt p (List.mem_of_mem_filter hp),
    hnd.sublist (List.filter_sublist.map _)⟩

theorem lotsSound_tdrop {t : Table Lot} (n : Nat) (h : lotsSound t = true) : lotsSound (tdrop t n) = true :=
  lotsSound_filter _ h

/-- A change to every lot that keeps its id keeps the table sound. -/
theorem lotsSound_tmap {t : Table Lot} {f : Lot → Lot} (hf : ∀ k, (f k).id = k.id) (h : lotsSound t = true) :
    lotsSound (tmap f t) = true :=
  lotsSound_congr (tmap_keys f t) (by simp [tmap, Function.comp_def, hf]) h

/-- In a sound table the lot found under an id is the lot of its slot. -/
theorem tget_of_findLot {t : Table Lot} {id n : Nat} {k : Lot} (ht : lotsSound t = true)
    (h : findLot t id = some (n, k)) : tget t n = some k ∧ k.id = id := by
  obtain ⟨hmem, hid⟩ := findLot_spec h
  exact ⟨tget_of_mem (lotsSound_iff.mp ht).1 hmem, hid⟩

/-- A change to a lot found by its id, which keeps the id, keeps the table sound. -/
theorem lotsSound_tput_found {t : Table Lot} {id n : Nat} {k a : Lot} (hk : findLot t id = some (n, k))
    (ha : a.id = k.id) (h : lotsSound t = true) : lotsSound (tput t n a) = true :=
  lotsSound_tput_kept (tget_of_findLot h hk).1 ha h

theorem tableWfFrom_zipIdx {α : Type} (l : List α) (lo : Nat) :
    tableWfFrom lo ((l.zipIdx lo).map (fun p => (p.2, p.1))) = true := by
  induction l generalizing lo with
  | nil => rfl
  | cons a l ih => simp [List.zipIdx_cons, tableWfFrom, ih]

/-- R46: at most 512 lots with different ids, in the slots from 0 on, make a sound table. -/
theorem lotsSound_zipIdx {l : List Lot} (hlen : l.length ≤ Config.lotSlots) (hid : (l.map Lot.id).Nodup) :
    lotsSound (l.zipIdx.map (fun p => (p.2, p.1))) = true := by
  refine lotsSound_iff.mpr ⟨tableWfFrom_zipIdx l 0, fun p hp => ?_, ?_⟩
  · obtain ⟨q, hq, rfl⟩ := List.mem_map.mp hp
    have := List.snd_lt_of_mem_zipIdx hq
    omega
  · rw [List.map_map]
    have : (l.zipIdx.map Prod.fst).map Lot.id = l.map Lot.id := by rw [List.zipIdx_map_fst]
    rw [List.map_map] at this
    exact this ▸ hid

/-! ### An image's lots (R45) -/

/-- The records of a part are as many as it counts, with different keys. -/
theorem readPart_ok {α : Type} {read : List Byte → Option α} {key : α → Nat} {record : Nat → List Byte}
    {n i : Nat} {acc l : List α} (h : readPart read key record n i acc = .ok l) (hacc : (acc.map key).Nodup) :
    l.length = acc.length + n ∧ (l.map key).Nodup := by
  induction n generalizing i acc with
  | zero => cases h; exact ⟨rfl, hacc⟩
  | succ n ih =>
    unfold readPart at h
    split at h
    · cases h
    · rename_i a _
      split at h
      · cases h
      · rename_i hnew
        have hnot : key a ∉ acc.map key := by simpa using hnew
        have hnd : ((acc ++ [a]).map key).Nodup := by
          rw [List.map_append, List.map_singleton]
          exact List.nodup_append_comm.mp (List.nodup_cons.mpr ⟨hnot, hacc⟩)
        obtain ⟨hlen, hkeys⟩ := ih h hnd
        exact ⟨by rw [hlen, List.length_append, List.length_singleton]; omega, hkeys⟩

theorem readRecords_lots {ship : ShipData} {t : Table (List Byte)} {n : ImageCounts} {c : ImageContents}
    (h : readRecords ship t n = .ok c) : c.lots.length = n.l ∧ (c.lots.map Lot.id).Nodup := by
  unfold readRecords at h
  dsimp only at h
  split at h
  · cases h
  rename_i lots hlots
  obtain ⟨hlen, hkeys⟩ := readPart_ok hlots List.nodup_nil
  repeat' split at h
  all_goals cases h
  exact ⟨by simpa using hlen, hkeys⟩

/-- R45: an image that is read whole holds at most 512 lots, with different ids. -/
theorem readImage_lots {ship : ShipData} {t : Table (List Byte)} {c : ImageContents} (h : readImage ship t = .ok c) :
    c.lots.length ≤ Config.lotSlots ∧ (c.lots.map Lot.id).Nodup := by
  unfold readImage at h
  split at h
  · cases h
  dsimp only at h
  split at h
  · cases h
  rename_i hok
  split at h
  · cases h
  obtain ⟨hlen, hkeys⟩ := readRecords_lots h
  simp only [headerOk, Bool.not_eq_true', Bool.not_eq_false, Bool.and_eq_true, decide_eq_true_eq] at hok
  obtain ⟨⟨⟨hlots, _⟩, _⟩, _⟩ := hok
  exact ⟨hlen.trans_le hlots, hkeys⟩

/-! ### The ballast unit (R161, R171) -/

/-- R161: at most four transfers, under ids 1 to 255. -/
structure TransfersSound (t : Table Transfer) : Prop where
  wf : tableWf t = true
  few : t.length ≤ Config.maxTransfers
  ids : ∀ p ∈ t, inRangeN 1 255 p.1 = true

theorem ballastSound_iff {b : Ballast} :
    ballastSound b = true ↔
      TransfersSound b.transfers ∧ inRangeN 1 255 b.nextId = true ∧ b.log.length ≤ Config.maxTransfers := by
  simp only [ballastSound, Bool.and_eq_true, List.all_eq_true, decide_eq_true_eq]
  exact ⟨fun ⟨⟨⟨⟨hw, hf⟩, hi⟩, hn⟩, hl⟩ => ⟨⟨hw, hf, hi⟩, hn, hl⟩,
    fun ⟨⟨hw, hf, hi⟩, hn, hl⟩ => ⟨⟨⟨⟨hw, hf⟩, hi⟩, hn⟩, hl⟩⟩

theorem TransfersSound.empty : TransfersSound [] := ⟨rfl, Nat.zero_le _, fun _ h => nomatch h⟩

/-- A change to a transfer of the table keeps it sound. -/
theorem TransfersSound.tput_kept {t : Table Transfer} {id : Nat} {a b : Transfer} (h : TransfersSound t)
    (hb : tget t id = some b) : TransfersSound (tput t id a) where
  wf := tableWf_tput h.wf
  few := (length_tput_kept h.wf hb).trans_le h.few
  ids := fun p hp => by
    rcases mem_tput hp with rfl | hp
    · exact h.ids (id, b) (tget_mem hb)
    · exact h.ids p hp

/-- A transfer more under an id of 1 to 255 keeps a table of fewer than four sound. -/
theorem TransfersSound.tput_new {t : Table Transfer} {id : Nat} {a : Transfer} (h : TransfersSound t)
    (hlen : t.length < Config.maxTransfers) (hid : inRangeN 1 255 id = true) : TransfersSound (tput t id a) where
  wf := tableWf_tput h.wf
  few := (length_tput_le t id a).trans hlen
  ids := fun p hp => by
    rcases mem_tput hp with rfl | hp
    · exact hid
    · exact h.ids p hp

theorem TransfersSound.tdrop {t : Table Transfer} (h : TransfersSound t) (id : Nat) : TransfersSound (tdrop t id) where
  wf := tableWf_tdrop h.wf
  few := (length_tdrop_le t id).trans h.few
  ids := fun p hp => h.ids p (List.mem_of_mem_filter hp)

theorem inRangeN_iff {lo hi n : Nat} : inRangeN lo hi n = true ↔ lo ≤ n ∧ n ≤ hi := by
  simp [inRangeN]

/-- R161: 255 is followed by 1. -/
theorem idAfter_inRange {n : Nat} (h : inRangeN 1 255 n = true) : inRangeN 1 255 (idAfter n) = true := by
  rw [inRangeN_iff] at h ⊢
  unfold idAfter
  split <;> omega

theorem nextFreeId_inRange {t : Table Transfer} (fuel : Nat) {n : Nat} (h : inRangeN 1 255 n = true) :
    inRangeN 1 255 (nextFreeId t fuel n) = true := by
  induction fuel generalizing n with
  | zero => exact h
  | succ fuel ih =>
    unfold nextFreeId
    split
    · exact ih (idAfter_inRange h)
    · exact h

end Sys2Proof.Machine
end

section
/-! Every operation and every request keeps the trial stack, the lot table and the ballast unit sound. -/

namespace Sys2Proof.Machine

/-! ### Changes that keep the tables sound -/

/-- The part of a state that the tables' invariants read: the trial stack, the lot table and the ballast unit. -/
def State.tables (s : State) : List (List Move) × Table Lot × Ballast := (s.frames, s.cond.lots, s.ballast)

/-- A change of a state that keeps each of the three tables sound. -/
structure TablesKept (s t : State) : Prop where
  stack : stackBounded s = true → stackBounded t = true
  lots : lotsSound s.cond.lots = true → lotsSound t.cond.lots = true
  ballast : ballastSound s.ballast = true → ballastSound t.ballast = true

theorem TablesKept.trans {a b c : State} (h : TablesKept a b) (g : TablesKept b c) : TablesKept a c :=
  ⟨g.stack ∘ h.stack, g.lots ∘ h.lots, g.ballast ∘ h.ballast⟩

theorem TablesKept.of_tables {s t : State} (h : t.tables = s.tables) : TablesKept s t := by
  simp only [State.tables, Prod.mk.injEq] at h
  obtain ⟨hf, hl, hb⟩ := h
  exact ⟨by simp only [stackBounded, hf]; exact id, by rw [hl]; exact id, by rw [hb]; exact id⟩

/-- The tables stand after what a kept change left. -/
theorem TablesKept.then {s u t : State} (h : TablesKept s u) (e : t.tables = u.tables) : TablesKept s t :=
  h.trans (.of_tables e)

/-- The tables stand before a kept change. -/
theorem TablesKept.after {s u t : State} (h : TablesKept u t) (e : u.tables = s.tables) : TablesKept s t :=
  (TablesKept.of_tables e).trans h

theorem TablesKept.refl (s : State) : TablesKept s s := .of_tables rfl

/-- A change of the lot table alone. -/
theorem TablesKept.of_lots {s t : State} (hf : t.frames = s.frames) (hb : t.ballast = s.ballast)
    (hl : lotsSound s.cond.lots = true → lotsSound t.cond.lots = true) : TablesKept s t :=
  ⟨by simp only [stackBounded, hf]; exact id, hl, by rw [hb]; exact id⟩

/-- A change of the ballast unit alone. -/
theorem TablesKept.of_ballast {s t : State} (hf : t.frames = s.frames) (hl : t.cond.lots = s.cond.lots)
    (hb : ballastSound s.ballast = true → ballastSound t.ballast = true) : TablesKept s t :=
  ⟨by simp only [stackBounded, hf]; exact id, by rw [hl]; exact id, hb⟩

/-- A change of the trial stack alone. -/
theorem TablesKept.of_stack {s t : State} (hl : t.cond.lots = s.cond.lots) (hb : t.ballast = s.ballast)
    (hf : stackBounded s = true → stackBounded t = true) : TablesKept s t :=
  ⟨hf, by rw [hl]; exact id, by rw [hb]; exact id⟩

/-- A change of the transfers alone. -/
theorem TablesKept.setTransfers {s : State} {ts : Table Transfer}
    (h : TransfersSound s.ballast.transfers → TransfersSound ts) : TablesKept s (s.setTransfers ts) :=
  .of_ballast rfl rfl fun hs => by
    obtain ⟨ht, hn, hl⟩ := ballastSound_iff.mp hs
    exact ballastSound_iff.mpr ⟨h ht, hn, hl⟩

theorem TablesKept.setLots {s : State} {ts : Table Lot} (h : lotsSound s.cond.lots = true → lotsSound ts = true) :
    TablesKept s (s.setLots ts) := .of_lots rfl rfl h

theorem TablesKept.foldl {α : Type} {f : State → α → State} (h : ∀ s a, TablesKept s (f s a)) (l : List α)
    (s : State) : TablesKept s (l.foldl f s) := by
  induction l generalizing s with
  | nil => exact .refl s
  | cons a l ih => exact (h s a).trans (ih _)

theorem tablesKept_calm (s : State) : Calm (TablesKept s) :=
  ⟨fun _ _ _ h => h.then rfl, fun _ h => h.then (by simp [State.tables])⟩

@[simp] theorem advance_tables (a p : Bool) (s : State) : (advance a p s).tables = s.tables := by simp [State.tables]
@[simp] theorem advancePlan_tables (s : State) : (advancePlan s).tables = s.tables := by simp [State.tables]
@[simp] theorem advanceActual_tables (s : State) : (advanceActual s).tables = s.tables := rfl
@[simp] theorem setSeq_tables (q : List SeqEntry) (s : State) : (s.setSeq q).tables = s.tables := rfl
@[simp] theorem setTankRow_tables (k : Nat) (r : TankRow) (s : State) : (s.setTankRow k r).tables = s.tables := rfl
@[simp] theorem onRec_tables (c : CraneId) (f : LiftRecord → LiftRecord) (s : State) :
    (s.onRec c f).tables = s.tables := rfl
@[simp] theorem onRecs_tables (cs : List CraneId) (f : LiftRecord → LiftRecord) (s : State) :
    (s.onRecs cs f).tables = s.tables := by simp [State.tables]
@[simp] theorem latch_tables (e : Event) (l : Link) (s : State) : (latch e l s).tables = s.tables := rfl
@[simp] theorem latchOn_tables (e : Event) (ls : List Link) (s : State) : (latchOn e ls s).tables = s.tables := by
  simp [State.tables]
@[simp] theorem latchLift_tables (cs : List CraneId) (s : State) : (latchLift cs s).tables = s.tables := by
  simp [State.tables]
@[simp] theorem latchTransfer_tables (s : State) : (latchTransfer s).tables = s.tables := by simp [State.tables]
@[simp] theorem clearStale_tables (cs : List CraneId) (s : State) : (clearStale cs s).tables = s.tables := by
  simp [State.tables]
@[simp] theorem withdrawDemand_tables (k : DemandKey) (s : State) : (withdrawDemand k s).tables = s.tables := rfl
@[simp] theorem postDemand_tables (k : DemandKey) (s : State) : (postDemand k s).tables = s.tables := by
  simp [State.tables]
@[simp] theorem endSuspension_tables (s : State) : (endSuspension s).tables = s.tables := by simp [State.tables]
@[simp] theorem grantLift_tables (r : LiftRef) (s : State) : (grantLift r s).tables = s.tables := by
  simp [State.tables]
@[simp] theorem moveHook_tables (c : CraneId) (n : Nat) (p : Pos) (s : State) :
    (moveHook c n p s).tables = s.tables := rfl
@[simp] theorem changeMode_tables (m : Mode) (s : State) : (changeMode m s).tables = s.tables :=
  latchOn_tables _ _ { s with mode := m }

/-! ### The gate's operations -/

theorem setTransferReason_kept (id : Nat) (p : Pending) (s : State) : TablesKept s (setTransferReason id p s) := by
  unfold setTransferReason
  split
  · exact .setTransfers fun h => h.tput_kept ‹_›
  · exact .refl s

theorem decideEntry_kept (s : State) (e : GateEntry) : TablesKept s (decideEntry s e) := by
  unfold decideEntry
  split
  · split
    · exact .of_tables (by simp [stopLift])
    · exact .of_tables (by simp)
  · split
    · exact (setTransferReason_kept _ _ s).then rfl
    · exact .of_tables (by simp)

/-- A decision round writes pending reasons of transfers that the table holds. -/
theorem decisionRound_kept (s : State) : TablesKept s (decisionRound s) := .foldl decideEntry_kept _ s

theorem freeSlotOf_kept (r : LiftRef) (s : State) : TablesKept s (freeSlotOf r s) := by
  unfold freeSlotOf
  split
  · exact (decisionRound_kept (s.setSlot none)).after rfl
  · exact .refl s

theorem onLot_kept {f : Lot → Lot} (hf : ∀ k, (f k).id = k.id) (n : Nat) (s : State) : TablesKept s (s.onLot n f) := by
  unfold State.onLot
  split
  · exact .setLots (lotsSound_tput_kept ‹_› (hf _))
  · exact .refl s

theorem onLiftLot_kept {f : Lot → Lot} (hf : ∀ k, (f k).id = k.id) (r : LiftRef) (s : State) :
    TablesKept s (s.onLiftLot r f) := by
  unfold State.onLiftLot
  split
  · exact onLot_kept hf _ s
  · exact .refl s

theorem lot_noted_id (k x : Lot) : (k.noted x).id = x.id := by
  unfold Lot.noted
  split <;> rfl

theorem lot_replan_id (m : Nat) (p : Loc) (f : Option Footprint) (k : Lot) : (k.replan m p f).id = k.id :=
  lot_noted_id _ _

theorem lot_accepted_id (m : Nat) (k : Lot) : (k.accepted m).id = k.id := lot_noted_id _ _

theorem lot_returned_id (k : Lot) : k.returned.id = k.id := by
  unfold Lot.returned
  split <;> rfl

theorem lot_landed_id (d : Direction) (w : Landing) (k : Lot) : (k.landed d w).id = k.id := by
  unfold Lot.landed
  repeat' split
  all_goals rfl

theorem lot_tandem_id (k : Lot) : k.tandem.id = k.id := by
  unfold Lot.tandem
  split <;> rfl

/-- The end of a lift changes the state of its lot, and its freeing of the slot starts a round. -/
theorem releaseLift_kept (r : LiftRef) (kind : EndKind) (s : State) : TablesKept s (releaseLift r kind s) := by
  have hlot (u : State) (hu : u.tables = s.tables) :
      TablesKept s (clearStale r.cranes ((u.onLiftLot r Lot.returned).onRecs r.cranes (LiftRecord.ended kind))) :=
    ((onLiftLot_kept lot_returned_id r u).after hu).then (by simp)
  have hended : TablesKept s (liftEnded r kind s) := by
    unfold liftEnded
    dsimp only
    split <;> exact hlot _ rfl
  rw [releaseLift_eq]
  exact hended.trans ((freeSlotOf_kept r _).after (by simp))

theorem landLot_kept (d : Direction) (w : Landing) (l : LotRef) (s : State) : TablesKept s (landLot d w l s) := by
  unfold landLot
  split
  · exact (onLot_kept (lot_landed_id _ _) l.slot s).then rfl
  · exact TablesKept.then (.setLots (lotsSound_tdrop l.slot)) rfl
  · exact onLot_kept (lot_landed_id _ _) l.slot s

theorem completeLift_kept (r : LiftRef) (s : State) : TablesKept s (completeLift r s) := by
  have hend (u : State) : TablesKept u
      (freeSlotOf r (latchLift r.cranes (clearStale r.cranes (u.onRecs r.cranes (LiftRecord.ended .completed))))) :=
    (freeSlotOf_kept r _).after (by simp)
  unfold completeLift
  dsimp only
  split
  · exact (landLot_kept _ _ _ s).trans (hend _)
  · exact hend s

theorem withdrawClearance_kept (r : LiftRef) (p : Pending) (s : State) : TablesKept s (withdrawClearance r p s) :=
  (decisionRound_kept _).after (by simp [State.tables])

theorem enterSuspension_kept (c : SuspendCause) (s : State) : TablesKept s (enterSuspension c s) := by
  have hlatched : TablesKept s (latchOn .suspend allLinks
      { s with monitor := { s.monitor with suspension := some { cause := c, time := s.time } } }) :=
    .of_tables (latchOn_tables _ _ _)
  unfold enterSuspension
  dsimp only
  split
  · exact hlatched.trans (withdrawClearance_kept _ _ _)
  · exact hlatched

/-- The end of a transfer drops it from the table, and the log keeps four. -/
theorem removeTransfer_kept (id : Nat) (x : Transfer) (kind : EndKind) (s : State) :
    TablesKept s (removeTransfer id x kind s) :=
  .of_ballast (by simp) (by simp) fun h => by
    obtain ⟨ht, hn, hl⟩ := ballastSound_iff.mp h
    refine ballastSound_iff.mpr ⟨?_, by simpa using hn, ?_⟩
    · rw [removeTransfer_transfers]
      exact ht.tdrop id
    · rw [removeTransfer_log]
      exact List.length_take_le _ _

theorem grantTransfer_kept {id : Nat} {x b : Transfer} {s : State} (h : tget s.ballast.transfers id = some b) :
    TablesKept s (grantTransfer id x s) := by
  have hput (y : Transfer) : TablesKept s (s.setTransfers (tput s.ballast.transfers id y)) :=
    .setTransfers fun ht => ht.tput_kept h
  exact (hput _).then ((advanceActual_tables _).trans (latchTransfer_tables _))

/-! ### Lots, sequence, tanks -/

theorem namedLot_kept {id : Nat} {s : State} {f : Nat → Lot → State × Answer}
    (h : ∀ n k, findLot s.cond.lots id = some (n, k) → TablesKept s (f n k).1) : TablesKept s (namedLot id s f).1 := by
  unfold namedLot
  split
  · exact .refl s
  · split
    · exact .refl s
    · exact h _ _ ‹_›

/-- A change of a lot found by its id, which keeps the id, then of what the tables do not hold. -/
theorem TablesKept.found {s t : State} {id n : Nat} {k a : Lot} (hk : findLot s.cond.lots id = some (n, k))
    (ha : a.id = k.id) (ht : t.tables = (s.setLots (tput s.cond.lots n a)).tables) : TablesKept s t :=
  TablesKept.then (.setLots (lotsSound_tput_found hk ha)) ht

theorem bodyPlanLot_kept (a : PlanLotArgs) (s : State) : TablesKept s (bodyPlanLot a s).1 := by
  unfold bodyPlanLot
  split
  · exact .refl s
  split
  · split
    · exact .refl s
    · exact TablesKept.then (.setLots (lotsSound_tput_new ‹_› ‹_›)) (advancePlan_tables _)
  · rename_i hk
    split
    · exact .refl s
    split
    · exact .found hk (lot_replan_id _ _ _ _) (advancePlan_tables _)
    · exact .refl s

theorem bodyUnplanLot_kept (id : Nat) (s : State) : TablesKept s (bodyUnplanLot id s).1 :=
  namedLot_kept fun n k _ => by
    split
    · exact .refl s
    · exact TablesKept.then (.setLots (lotsSound_tdrop n)) (advancePlan_tables _)

theorem bodyPlaceLot_kept (a : PlaceLotArgs) (s : State) : TablesKept s (bodyPlaceLot a s).1 := by
  unfold bodyPlaceLot
  split
  · exact .refl s
  split
  · split
    · exact .refl s
    split
    · exact .refl s
    · exact TablesKept.then (.setLots (lotsSound_tput_new ‹_› ‹_›)) (advance_tables _ _ _)
  · rename_i n k hk
    split
    · exact .refl s
    · exact .found hk (a := k.placed a) rfl (advance_tables _ _ _)

theorem bodyRemoveLot_kept (id : Nat) (s : State) : TablesKept s (bodyRemoveLot id s).1 :=
  namedLot_kept fun n k _ => by
    split
    · exact .refl s
    · exact TablesKept.then (.setLots (lotsSound_tdrop n)) (advance_tables _ _ _)

theorem bodyMarkDischarge_kept (id : Nat) (s : State) : TablesKept s (bodyMarkDischarge id s).1 :=
  namedLot_kept fun n k hk => by
    repeat' split
    · exact .refl s
    · exact .refl s
    · exact .found hk (a := k.marked true) rfl (advancePlan_tables _)

theorem bodyUnmarkDischarge_kept (id : Nat) (s : State) : TablesKept s (bodyUnmarkDischarge id s).1 :=
  namedLot_kept fun n k hk => by
    repeat' split
    · exact .refl s
    · exact .refl s
    · exact .found hk (a := k.marked false) rfl (advancePlan_tables _)

theorem bodyAcceptWeight_kept (id : Nat) (s : State) : TablesKept s (bodyAcceptWeight id s).1 :=
  namedLot_kept fun n k hk => by
    split
    · exact .refl s
    split
    · exact .refl s
    split
    · exact .refl s
    split
    · exact .found hk (lot_accepted_id _ k) (advance_tables _ _ _)
    · exact .refl s

theorem bodySetTankManual_tables (k c d : Nat) (s : State) : (bodySetTankManual k c d s).1.tables = s.tables := by
  unfold bodySetTankManual
  repeat' split
  all_goals simp

theorem bodySetTankTarget_tables (k : Nat) (g : Option Target) (s : State) :
    (bodySetTankTarget k g s).1.tables = s.tables := by
  unfold bodySetTankTarget
  repeat' split
  all_goals simp

theorem bodyInsertInSequence_tables (n d p : Nat) (s : State) : (bodyInsertInSequence n d p s).1.tables = s.tables := by
  unfold bodyInsertInSequence
  repeat' split
  all_goals simp

theorem bodyRemoveFromSequence_tables (n : Nat) (s : State) : (bodyRemoveFromSequence n s).1.tables = s.tables := by
  unfold bodyRemoveFromSequence
  repeat' split
  all_goals simp

end Sys2Proof.Machine
end

section
/-! The tables' invariant: the remaining requests, the events, and that every step keeps it. -/

namespace Sys2Proof.Machine

/-! ### The trial stack (R84) -/

theorem stackBounded_iff {s : State} :
    stackBounded s = true ↔ s.frames.length ≤ Config.maxFrames ∧ poolInUse s.frames ≤ Config.poolEntries := by
  simp [stackBounded]

theorem changeStack_frames (f : List (List Move)) (s : State) : (changeStack f s).frames = f := by
  unfold changeStack
  dsimp only
  split <;> rfl

/-- A change of the stack to one within its bounds. -/
theorem changeStack_kept {f : List (List Move)} {s : State}
    (h : stackBounded s = true → f.length ≤ Config.maxFrames ∧ poolInUse f ≤ Config.poolEntries) :
    TablesKept s (changeStack f s) := by
  refine .of_stack ?_ ?_ fun hs => ?_
  · unfold changeStack
    dsimp only
    split <;> rfl
  · unfold changeStack
    dsimp only
    split <;> rfl
  · rw [stackBounded_iff, changeStack_frames]
    exact h hs

@[simp] theorem poolInUse_append (a b : List (List Move)) : poolInUse (a ++ b) = poolInUse a + poolInUse b := by
  simp [poolInUse]

@[simp] theorem poolInUse_nil : poolInUse [] = 0 := rfl

@[simp] theorem poolInUse_cons (m : List Move) (a : List (List Move)) :
    poolInUse (m :: a) = m.length + poolInUse a := by
  simp [poolInUse]

theorem poolInUse_dropLast_le (f : List (List Move)) : poolInUse f.dropLast ≤ poolInUse f := by
  rcases f.eq_nil_or_concat with rfl | ⟨a, m, rfl⟩
  · exact Nat.le_refl _
  · simp

theorem pushMove_append (a : List (List Move)) (ms : List Move) (m : Move) :
    pushMove (a ++ [ms]) m = a ++ [ms ++ [m]] := by
  simp [pushMove]

/-- A move more in the top frame: no frame more, and at most one entry of the pool. -/
theorem pushMove_bounds (f : List (List Move)) (m : Move) :
    (pushMove f m).length = f.length ∧ poolInUse (pushMove f m) ≤ poolInUse f + 1 := by
  rcases f.eq_nil_or_concat with rfl | ⟨a, ms, rfl⟩
  · exact ⟨rfl, Nat.zero_le _⟩
  · rw [List.concat_eq_append, pushMove_append]
    refine ⟨by simp, ?_⟩
    simp only [poolInUse_append, poolInUse_cons, poolInUse_nil, List.length_append, List.length_singleton]
    omega

/-- R92: a move passes its check only while the pool has an entry free. -/
theorem checkMove_pool {ship : ShipData} {v : View} {used : Nat} {b : List Byte} {m : Move}
    (h : checkMove ship v used b = .ok m) : used < Config.poolEntries := by
  unfold checkMove at h
  split at h
  · cases h
  split at h
  · cases h
  split at h
  · cases h
  split at h
  · cases h
  · omega

/-- R91: a batch adds no frame, and keeps the pool within its entries. -/
theorem addAll_bounds (ship : ShipData) (c : Condition) (bs : List (List Byte)) (f : List (List Move))
    (h : poolInUse f ≤ Config.poolEntries) :
    (addAll ship c bs f).1.length = f.length ∧ poolInUse (addAll ship c bs f).1 ≤ Config.poolEntries := by
  induction bs generalizing f with
  | nil => exact ⟨rfl, h⟩
  | cons b bs ih =>
    unfold addAll
    split
    · exact ⟨rfl, h⟩
    · rename_i m hm
      obtain ⟨hlen, hpool⟩ := pushMove_bounds f m
      obtain ⟨hlen', hpool'⟩ := ih (pushMove f m) (hpool.trans (checkMove_pool hm))
      exact ⟨hlen'.trans hlen, hpool'⟩

/-- R94: a fold of the top frame into the one below loses a frame and no move. -/
theorem foldDown_bounds (f : List (List Move)) :
    (foldDown f).length ≤ f.length ∧ poolInUse (foldDown f) = poolInUse f := by
  fun_induction foldDown f with
  | case1 => exact ⟨Nat.le_refl _, rfl⟩
  | case2 a => exact ⟨Nat.le_refl _, rfl⟩
  | case3 a b => exact ⟨by simp, by simp⟩
  | case4 a rest _ _ ih =>
    obtain ⟨hlen, hpool⟩ := ih
    exact ⟨by simpa using hlen, by simpa using hpool⟩

theorem bodyOpenFrame_kept (s : State) : TablesKept s (bodyOpenFrame s).1 := by
  unfold bodyOpenFrame
  split
  · refine changeStack_kept fun h => ?_
    obtain ⟨_, hpool⟩ := stackBounded_iff.mp h
    exact ⟨by simpa using ‹s.frames.length < _›, by simpa using hpool⟩
  · exact .of_tables rfl

theorem bodyAddMoves_kept (p : List Byte) (s : State) : TablesKept s (bodyAddMoves p s).1 := by
  unfold bodyAddMoves
  split
  · exact .refl s
  split
  · exact .of_tables rfl
  dsimp only
  split
  · exact .refl s
  · refine changeStack_kept fun h => ?_
    obtain ⟨hframes, hpool⟩ := stackBounded_iff.mp h
    obtain ⟨hlen, hpool'⟩ := addAll_bounds s.ship s.cond _ s.frames hpool
    exact ⟨hlen.trans_le hframes, hpool'⟩

theorem bodyDropFrame_kept (s : State) : TablesKept s (bodyDropFrame s).1 := by
  unfold bodyDropFrame
  split
  · exact .of_tables rfl
  · refine changeStack_kept fun h => ?_
    obtain ⟨hframes, hpool⟩ := stackBounded_iff.mp h
    exact ⟨by rw [List.length_dropLast]; omega, (poolInUse_dropLast_le _).trans hpool⟩

/-! ### The fold into the plan (R95, R96) -/

/-- One move that folds keeps the lots sound. -/
theorem foldMove_lots {c c' : Condition} {m : Move} (h : foldMove c m = .ok c') (hc : lotsSound c.lots = true) :
    lotsSound c'.lots = true := by
  have hplanned {id : Nat} {x : Expect} {act : Nat → Lot → Condition}
      (hact : ∀ n k, findLot c.lots id = some (n, k) → lotsSound (act n k).lots = true)
      (hf : foldPlanned c id x act = .ok c') : lotsSound c'.lots = true := by
    unfold foldPlanned at hf
    split at hf
    · cases hf
    split at hf
    · cases hf
    split at hf
    · cases hf
    · cases hf
      exact hact _ _ ‹_›
  have hcreate {id mass : Nat} {p : Loc} {f : Option Footprint} (hf : foldCreate c id mass p f = .ok c') :
      lotsSound c'.lots = true := by
    unfold foldCreate at hf
    split at hf
    · cases hf
    rename_i hnone
    split at hf
    · cases hf
    · cases hf
      exact lotsSound_tput_new (a := newPlanned id mass p f) ‹_› (Option.not_isSome_iff_eq_none.mp hnone) hc
  unfold foldMove at h
  split at h
  · split at h
    · exact hcreate h
    · exact hplanned (fun n k hk => lotsSound_tput_found hk (lot_replan_id _ _ _ k) hc) h
  · exact hplanned (fun n k _ => lotsSound_tdrop n hc) h
  · unfold foldTarget at h
    dsimp only at h
    repeat' split at h
    all_goals cases h
    exact hc

theorem foldMoves_lots {c c' : Condition} {i : Nat} {ms : List Move} (h : foldMoves c i ms = .ok c')
    (hc : lotsSound c.lots = true) : lotsSound c'.lots = true := by
  induction ms generalizing c i with
  | nil => cases h; exact hc
  | cons m ms ih =>
    unfold foldMoves at h
    split at h
    · cases h
    · exact ih h (foldMove_lots ‹_› hc)

theorem foldIntoPlan_kept (ms : List Move) (s : State) : TablesKept s (foldIntoPlan ms s).1 := by
  unfold foldIntoPlan
  split
  · exact .refl s
  · rename_i c hc
    have hfolded : TablesKept s { s with cond := c } := .of_lots rfl rfl (foldMoves_lots hc)
    have hemptied (u : State) : TablesKept u (changeStack [] u) :=
      changeStack_kept fun _ => ⟨Nat.zero_le _, Nat.zero_le _⟩
    dsimp only
    rw [stackDone_state]
    refine hfolded.trans ((hemptied _).after ?_)
    split <;> rfl

theorem bodyFoldFrame_kept (s : State) : TablesKept s (bodyFoldFrame s).1 := by
  unfold bodyFoldFrame
  split
  · exact .of_tables rfl
  · exact foldIntoPlan_kept _ s
  · refine changeStack_kept fun h => ?_
    obtain ⟨hframes, hpool⟩ := stackBounded_iff.mp h
    obtain ⟨hlen, hpool'⟩ := foldDown_bounds s.frames
    exact ⟨hlen.trans hframes, hpool'.trans_le hpool⟩

/-! ### Suspension, snapshots and images -/

theorem bodySuspendWork_kept (s : State) : TablesKept s (bodySuspendWork s).1 := by
  unfold bodySuspendWork
  split
  · exact .refl s
  · exact enterSuspension_kept _ s

theorem bodyResumeWork_kept (s : State) : TablesKept s (bodyResumeWork s).1 := by
  unfold bodyResumeWork
  split
  · exact .refl s
  split
  · exact .refl s
  · exact (decisionRound_kept _).after (endSuspension_tables s)

theorem bodyOpenSnapshot_kept (s : State) : TablesKept s (bodyOpenSnapshot s).1 := by
  unfold bodyOpenSnapshot
  split
  · exact .refl s
  · exact .of_lots rfl rfl (lotsSound_tmap fun _ => rfl)

theorem bodyReadSnapshotPage_state (n : Nat) (s : State) : (bodyReadSnapshotPage n s).1 = s := by
  unfold bodyReadSnapshotPage
  repeat' split
  all_goals rfl

theorem bodyCloseSnapshot_tables (s : State) : (bodyCloseSnapshot s).1.tables = s.tables := by
  unfold bodyCloseSnapshot
  split <;> rfl

theorem bodyWriteImagePage_tables (n : Nat) (b : List Byte) (s : State) :
    (bodyWriteImagePage n b s).1.tables = s.tables := by
  unfold bodyWriteImagePage
  repeat' split
  all_goals rfl

theorem bodyApplyImage_kept (s : State) : TablesKept s (bodyApplyImage s).1 := by
  unfold bodyApplyImage
  split
  · exact .refl s
  split
  · exact .refl s
  · rename_i c hc
    obtain ⟨hlen, hids⟩ := readImage_lots hc
    have happlied : TablesKept s (applyImage c s) := .of_lots rfl rfl fun _ => lotsSound_zipIdx hlen hids
    exact happlied.then (advance_tables _ _ _)

/-! ### Lifts -/

theorem acceptLift_kept {a : RequestLiftArgs} {n : Nat} {k : Lot} {s : State} (c : CraneId) (d : Direction)
    (hk : findLot s.cond.lots a.lot = some (n, k)) : TablesKept s (acceptLift c a d n k s).1 := by
  unfold acceptLift
  dsimp only
  split
  · exact .found hk (a := k.lifted d c) rfl (advance_tables _ _ _)
  · refine .trans ?_ (decisionRound_kept _)
    exact .found hk (a := k.lifted d c) rfl (by simp [State.tables])

theorem judgeLift_kept {a : RequestLiftArgs} {n : Nat} {k : Lot} {s : State} (c : CraneId) (d : Direction)
    (hk : findLot s.cond.lots a.lot = some (n, k)) : TablesKept s (judgeLift c a d n k s).1 := by
  have haccept (p : Prop) [Decidable p] :
      TablesKept s (if p then refuse .sequence s else acceptLift c a d n k s).1 := by
    split
    · exact .refl s
    · exact acceptLift_kept c d hk
  unfold judgeLift
  split
  · exact .refl s
  split
  · split
    · exact .refl s
    · exact haccept _
  · exact haccept _

theorem joinLift_kept {a : RequestLiftArgs} {n : Nat} {k : Lot} {s : State} (c : CraneId) (t : TandemArgs)
    (d : Direction) (hk : findLot s.cond.lots a.lot = some (n, k)) : TablesKept s (joinLift c a t d n k s).1 := by
  unfold joinLift
  dsimp only
  split
  · exact .refl s
  split
  · exact .refl s
  · refine .trans ?_ (decisionRound_kept _)
    exact .found hk (lot_tandem_id k) (by simp [State.tables])

theorem bodyRequestLift_kept (l : Link) (a : RequestLiftArgs) (s : State) :
    TablesKept s (bodyRequestLift l a s).1 := by
  unfold bodyRequestLift
  dsimp only
  split
  · exact .refl s
  split
  · exact .refl s
  split
  · exact .refl s
  split
  · rename_i n k d hk _
    split
    · split
      · exact joinLift_kept _ _ d hk
      · exact judgeLift_kept _ d hk
    · exact judgeLift_kept _ d hk
  · exact .refl s

theorem timedRelease_kept (r : LiftRef) (kind : EndKind) (s : State) :
    TablesKept s (advance true true (releaseLift r kind s)) :=
  (releaseLift_kept r kind s).then (advance_tables _ _ _)

theorem bodyCancelLift_kept (l : Link) (s : State) : TablesKept s (bodyCancelLift l s).1 := by
  unfold bodyCancelLift
  dsimp only
  split
  · exact timedRelease_kept _ _ s
  · exact .refl s

theorem hoist_kept (r : LiftRef) (m : Nat) (s : State) : TablesKept s (hoist r m s) :=
  (onLiftLot_kept (f := Lot.weighed s.settings.discrepancyTol m) (fun _ => rfl) r s).trans
    (.of_tables (by simp [hoist]))

theorem confirmOn_kept (c : CraneId) (n : Nat) (s : State) : TablesKept s (confirmOn c n s) := by
  unfold confirmOn
  split
  · exact hoist_kept _ _ s
  split
  · exact hoist_kept _ _ s
  · exact .of_tables rfl

theorem testLoadOn_kept (c : CraneId) (n : Nat) (s : State) : TablesKept s (testLoadOn c n s) := by
  have hcount (m : Nat) : TablesKept s (s.onRec c (LiftRecord.counterAt m)) := .of_tables rfl
  unfold testLoadOn
  dsimp only
  split
  · exact .refl s
  split
  · exact (hcount _).trans (confirmOn_kept c n _)
  · exact hcount _

theorem liftOff_kept (r : LiftRef) (s : State) : TablesKept s (liftOff r s) := by
  have hoff : TablesKept s (s.onRecs r.cranes LiftRecord.off) := .of_tables (by simp)
  unfold liftOff
  dsimp only
  split
  · exact hoff.trans (completeLift_kept r _)
  · exact .of_tables (by simp)

theorem confirmOff_kept (c : CraneId) (s : State) : TablesKept s (confirmOff c s) := by
  unfold confirmOff
  split
  · exact liftOff_kept _ s
  split
  · exact liftOff_kept _ s
  · exact .of_tables rfl

theorem testLoadOff_kept (c : CraneId) (n : Nat) (s : State) : TablesKept s (testLoadOff c n s) := by
  have hcount (m : Nat) : TablesKept s (s.onRec c (LiftRecord.counterAt m)) := .of_tables rfl
  unfold testLoadOff
  dsimp only
  split
  · exact .refl s
  split
  · exact (hcount _).trans (confirmOff_kept c _)
  · exact hcount _

theorem applyReport_kept (c : CraneId) (n : Nat) (s : State) : TablesKept s (applyReport c n s) := by
  unfold applyReport
  split
  · exact testLoadOn_kept c n s
  · exact testLoadOff_kept c n s
  · exact testLoadOff_kept c n s
  · exact .refl s

theorem bodyHookReport_kept (l : Link) (n : Nat) (p : Pos) (s : State) : TablesKept s (bodyHookReport l n p s).1 := by
  unfold bodyHookReport
  dsimp only
  split
  · exact .refl s
  split
  · exact .refl s
  · exact (TablesKept.of_tables (moveHook_tables (craneOf l) n p s)).trans
      ((applyReport_kept _ n _).then (advance_tables _ _ _))

theorem bodyLandingReport_kept (l : Link) (a : LandingArgs) (s : State) :
    TablesKept s (bodyLandingReport l a s).1 := by
  unfold bodyLandingReport
  dsimp only
  split
  · exact .refl s
  split
  · split
    · exact .refl s
    · exact .of_tables (by simp [beginLowering])
  · split
    · exact .refl s
    · exact (TablesKept.of_tables (onRec_tables _ _ s)).trans
        ((completeLift_kept _ _).then (advance_tables _ _ _))
  · exact .refl s

/-! ### Transfers -/

theorem grantedFor_held {s : State} {k id : Nat} {x : Transfer} (h : grantedFor s k = some (id, x)) :
    tget s.ballast.transfers id = some x := by
  unfold grantedFor at h
  split at h
  · cases h
  split at h
  · split at h
    · cases h
      assumption
    · cases h
  · cases h

theorem measure_kept (k : Nat) (s : State) : TablesKept s (measure k s) := by
  unfold measure
  split
  · exact .refl s
  rename_i id x hx
  have hput (y : Transfer) : TablesKept s (s.setTransfers (tput s.ballast.transfers id y)) :=
    .setTransfers fun h => h.tput_kept (grantedFor_held hx)
  split
  · exact .refl s
  · dsimp only
    split
    · exact (hput _).then (latchTransfer_tables _)
    · exact hput _

theorem takeReading_kept (d : ShipData) (r : Reading) (s : State) : TablesKept s (takeReading d r s) := by
  have hrow (row : TankRow) : TablesKept s (s.setTankRow r.tank row) := .of_tables rfl
  unfold takeReading
  split
  · exact (hrow _).trans (measure_kept r.tank _)
  · exact (hrow _).trans (measure_kept r.tank _)
  · exact .refl s

theorem bodyTankReport_kept (p : List Byte) (s : State) : TablesKept s (bodyTankReport p s).1 := by
  unfold bodyTankReport
  split
  · exact .refl s
  dsimp only
  split
  · exact .refl s
  · exact (TablesKept.foldl (fun s r => takeReading_kept s.ship r s) _ s).then (advance_tables _ _ _)

theorem setTankTransfers_tables (v : Option Nat) (ks : List Nat) (s : State) :
    (ks.foldl (setTankTransfer v) s).tables = s.tables := by
  induction ks generalizing s with
  | nil => rfl
  | cons k ks ih => exact ih _

/-- R163: an accepted request takes an id of 1 to 255, and the next id follows it. -/
theorem acceptTransfer_kept {a b : End} {n : Nat} {s : State} (h : s.ballast.transfers.length < Config.maxTransfers) :
    TablesKept s (acceptTransfer a b n s).1 := by
  have hentered (x : Transfer) : TablesKept s
      { s with ballast :=
        { s.ballast with
          transfers := tput s.ballast.transfers (nextFreeId s.ballast.transfers Config.maxTransfers s.ballast.nextId) x
          nextId := idAfter (nextFreeId s.ballast.transfers Config.maxTransfers s.ballast.nextId) } } :=
    .of_ballast rfl rfl fun hs => by
      obtain ⟨ht, hn, hl⟩ := ballastSound_iff.mp hs
      have hid := nextFreeId_inRange (t := s.ballast.transfers) Config.maxTransfers hn
      exact ballastSound_iff.mpr ⟨ht.tput_new h hid, idAfter_inRange hid, hl⟩
  unfold acceptTransfer
  dsimp only
  exact ((hentered _).then (setTankTransfers_tables _ _ _)).trans ((decisionRound_kept _).after rfl)

theorem bodyRequestTransfer_kept (a b n : Nat) (s : State) : TablesKept s (bodyRequestTransfer a b n s).1 := by
  unfold bodyRequestTransfer
  split
  · exact .refl s
  dsimp only
  split
  · exact .refl s
  split
  · exact .refl s
  split
  · exact .refl s
  split
  · exact .refl s
  · exact acceptTransfer_kept (by omega)

theorem endGranted_kept (id : Nat) (x : Transfer) (kind : EndKind) (m : Nat) (o : Bool) (s : State) :
    TablesKept s (endGranted id x kind m o s).1 :=
  (removeTransfer_kept id x kind s).then rfl

theorem bodyEndTransfer_kept (id : Nat) (s : State) : TablesKept s (bodyEndTransfer id s).1 := by
  unfold bodyEndTransfer
  split
  · exact .refl s
  split
  · exact .refl s
  · exact endGranted_kept _ _ _ _ _ s

theorem bodyCancelTransfer_kept (id : Nat) (s : State) : TablesKept s (bodyCancelTransfer id s).1 := by
  unfold bodyCancelTransfer
  split
  · exact .refl s
  split
  · exact removeTransfer_kept _ _ _ s
  · exact endGranted_kept _ _ _ _ _ s

/-! ### Modes, stores and settings -/

theorem interruptStore_tables (s : State) : (interruptStore s).tables = s.tables := by
  rw [interruptStore_form]
  rfl

/-- A state whose three tables are empty keeps what is sound. -/
theorem TablesKept.of_empty {s t : State} (hf : t.frames = []) (hl : t.cond.lots = [])
    (hb : t.ballast.transfers = [] ∧ t.ballast.nextId = 1)
    (hlog : s.ballast.log.length ≤ Config.maxTransfers → t.ballast.log.length ≤ Config.maxTransfers) :
    TablesKept s t where
  stack := fun _ => by rw [stackBounded_iff, hf]; exact ⟨Nat.zero_le _, Nat.zero_le _⟩
  lots := fun _ => by rw [hl]; rfl
  ballast := fun h => by
    obtain ⟨_, _, hs⟩ := ballastSound_iff.mp h
    rw [ballastSound_iff, hb.1, hb.2]
    exact ⟨.empty, rfl, hlog hs⟩

theorem powerOnState_kept (s : State) : TablesKept s (powerOnState s) :=
  .of_empty rfl rfl ⟨rfl, rfl⟩ fun _ => Nat.zero_le _

theorem restartEngine_kept (s : State) : TablesKept s (restartEngine s) := by
  have hcleared : TablesKept s (restartState (interruptStore s)) :=
    .of_empty rfl rfl ⟨rfl, rfl⟩ fun _ => Nat.zero_le _
  exact hcleared.then (latchOn_tables _ _ _)

theorem enterService_kept (s : State) : TablesKept s (enterService s) := by
  have hlog : (abandonSnapshot s).ballast.log = s.ballast.log := by
    unfold abandonSnapshot
    split <;> rfl
  have hcleared : TablesKept s (clearedCondition (abandonSnapshot s)) :=
    .of_empty rfl rfl ⟨rfl, rfl⟩ fun h => by
      change (abandonSnapshot s).ballast.log.length ≤ _
      rw [hlog]
      exact h
  exact hcleared.then ((changeMode_tables _ _).trans (advance_tables _ _ _))

theorem endInitializing_kept (s : State) : TablesKept s (endInitializing s) := by
  have hloaded : (loadShipData (loadSettings s)).tables = s.tables := by
    unfold loadSettings
    split <;> rfl
  unfold endInitializing
  dsimp only
  split
  · exact (enterService_kept _).after hloaded
  · exact .of_tables ((changeMode_tables _ _).trans hloaded)

theorem endPendingLift_kept (s : State) (c : CraneId) : TablesKept s (endPendingLift s c) := by
  unfold endPendingLift
  split
  · exact .refl s
  · exact releaseLift_kept _ _ s

theorem leaveService_kept (s : State) : TablesKept s (leaveService s) := by
  have hlifted (u : State) : (liftSuspension u).tables = u.tables := by
    unfold liftSuspension
    split <;> simp
  have hshut (u : State) : (changeMode .configuration (shutResults u)).tables = u.tables := changeMode_tables _ _
  have htransfer (u : State) (p : Nat × Transfer) : TablesKept u (endPendingTransfer u p) :=
    removeTransfer_kept _ _ _ u
  have hpending : TablesKept s (pendingEnded s) :=
    (TablesKept.foldl endPendingLift_kept bothCranes s).trans (TablesKept.foldl htransfer _ _)
  rw [leaveService_eq]
  exact hpending.then ((hshut _).trans (hlifted _))

theorem bodyEnterConfiguration_kept (s : State) : TablesKept s (bodyEnterConfiguration s).1 := by
  unfold bodyEnterConfiguration
  split
  · split
    · exact .refl s
    · exact leaveService_kept s
  · exact .of_tables (changeMode_tables _ s)
  · exact .refl s

theorem bodyWriteShipData_tables (b i : Nat) (e : List Byte) (s : State) :
    (bodyWriteShipData b i e s).1.tables = s.tables := by
  unfold bodyWriteShipData
  repeat' split
  all_goals rfl

theorem bodyCommitShipData_tables (s : State) : (bodyCommitShipData s).1.tables = s.tables := by
  unfold bodyCommitShipData
  repeat' split
  all_goals rfl

theorem bodyStoreSettings_tables (s : State) : (bodyStoreSettings s).1.tables = s.tables := by
  unfold bodyStoreSettings
  split <;> rfl

theorem bodyControlLine_tables (n m v : Nat) (s : State) : (bodyControlLine n m v s).1.tables = s.tables := by
  unfold bodyControlLine
  repeat' split
  all_goals rfl

theorem bodyClearLineStatus_tables (n : Nat) (s : State) : (bodyClearLineStatus n s).1.tables = s.tables := by
  unfold bodyClearLineStatus
  split <;> rfl

theorem rejudgedUnder_tables (w : Settings) (s : State) : (rejudgedUnder w s).tables = s.tables := by
  have hcranes (u : State) : (rejudgeCranes u).tables = u.tables := by
    obtain ⟨ls, e⟩ := rejudgeCranes_form u
    rw [e]
    rfl
  have htanks (u : State) : (rejudgeTanks u).tables = u.tables := by
    obtain ⟨ts, ls, e, _⟩ := rejudgeTanks_form u
    rw [e]
    rfl
  have hjudged : (if w.hookStale = s.settings.hookStale then { s with settings := w }
      else rejudgeCranes { s with settings := w }).tables = s.tables := by
    split
    · rfl
    · exact hcranes _
  unfold rejudgedUnder
  dsimp only
  split
  · exact hjudged
  · exact (htanks _).trans hjudged

theorem bodyWriteSetting_tables (i v : Nat) (s : State) : (bodyWriteSetting i v s).1.tables = s.tables := by
  have happly : (applySetting i v s).tables = s.tables := by
    rw [applySetting_eq]
    dsimp only
    split
    · exact rejudgedUnder_tables _ s
    split
    · exact rejudgedUnder_tables _ s
    · exact rejudgedUnder_tables _ s
  unfold bodyWriteSetting
  split
  · rfl
  split
  · rfl
  split
  · rfl
  split
  · rfl
  · exact happly

/-! ### The requests that only read -/

theorem bodyReadResults_tables (l : Link) (x p n c : Nat) (s : State) :
    (bodyReadResults l x p n c s).1.tables = s.tables := by
  unfold bodyReadResults
  repeat' split
  all_goals rfl

/-- The requests that answer from the state and leave it as it is. -/
def onlyReads : Request → Bool
  | .readShipData _ _ => true
  | .readSetting _ => true
  | .readLot _ => true
  | .querySlot _ => true
  | .readSequence _ => true
  | .readViolations _ _ => true
  | .readRecords => true
  | .readSnapshotPage _ => true
  | .readLiftStatus => true
  | .readTransfers _ => true
  | _ => false

theorem bodyOf_onlyReads (l : Link) {r : Request} (h : onlyReads r = true) (s : State) : (bodyOf l r s).1 = s := by
  cases r <;> simp only [onlyReads, Bool.false_eq_true] at h
  all_goals simp only [bodyOf, bodyReadShipData, bodyReadSetting, bodyReadLot, bodyQuerySlot, bodyReadSequence,
    bodyReadViolations, bodyReadRecords, bodyReadSnapshotPage, bodyReadLiftStatus, bodyReadTransfers]
  all_goals repeat' split
  all_goals rfl

/-- Every request keeps the tables sound. -/
theorem bodyOf_kept (l : Link) (r : Request) (s : State) : TablesKept s (bodyOf l r s).1 := by
  by_cases hr : onlyReads r = true
  · exact .of_tables (congrArg State.tables (bodyOf_onlyReads l hr s))
  cases r <;> simp only [onlyReads, not_true_eq_false] at hr
  case enterConfiguration => exact bodyEnterConfiguration_kept s
  case writeShipData b i e => exact .of_tables (bodyWriteShipData_tables b i e s)
  case commitShipData => exact .of_tables (bodyCommitShipData_tables s)
  case writeSetting i v => exact .of_tables (bodyWriteSetting_tables i v s)
  case storeSettings => exact .of_tables (bodyStoreSettings_tables s)
  case controlLine n m v => exact .of_tables (bodyControlLine_tables n m v s)
  case clearLineStatus n => exact .of_tables (bodyClearLineStatus_tables n s)
  case restart => exact restartEngine_kept s
  case planLot a => exact bodyPlanLot_kept a s
  case unplanLot n => exact bodyUnplanLot_kept n s
  case placeLot a => exact bodyPlaceLot_kept a s
  case removeLot n => exact bodyRemoveLot_kept n s
  case markDischarge n => exact bodyMarkDischarge_kept n s
  case unmarkDischarge n => exact bodyUnmarkDischarge_kept n s
  case acceptWeight n => exact bodyAcceptWeight_kept n s
  case insertInSequence n d p => exact .of_tables (bodyInsertInSequence_tables n d p s)
  case removeFromSequence n => exact .of_tables (bodyRemoveFromSequence_tables n s)
  case setTankManual k c d => exact .of_tables (bodySetTankManual_tables k c d s)
  case setTankTarget k g => exact .of_tables (bodySetTankTarget_tables k g s)
  case openFrame => exact bodyOpenFrame_kept s
  case addMoves p => exact bodyAddMoves_kept p s
  case dropFrame => exact bodyDropFrame_kept s
  case foldFrame => exact bodyFoldFrame_kept s
  case readResults c p n k => exact .of_tables (bodyReadResults_tables l c p n k s)
  case acknowledgeRecords => exact .of_tables rfl
  case suspendWork => exact bodySuspendWork_kept s
  case resumeWork => exact bodyResumeWork_kept s
  case openSnapshot => exact bodyOpenSnapshot_kept s
  case closeSnapshot => exact .of_tables (bodyCloseSnapshot_tables s)
  case writeImagePage n b => exact .of_tables (bodyWriteImagePage_tables n b s)
  case applyImage => exact bodyApplyImage_kept s
  case requestLift a => exact bodyRequestLift_kept l a s
  case cancelLift => exact bodyCancelLift_kept l s
  case hookReport n p => exact bodyHookReport_kept l n p s
  case landingReport a => exact bodyLandingReport_kept l a s
  case tankReport p => exact bodyTankReport_kept p s
  case requestTransfer a b n => exact bodyRequestTransfer_kept a b n s
  case endTransfer n => exact bodyEndTransfer_kept n s
  case cancelTransfer n => exact bodyCancelTransfer_kept n s
  case setNoticeMask e m =>
    refine .of_tables ?_
    simp only [bodyOf, bodySetNoticeMask]
    repeat' split
    all_goals rfl
  case readNotices => exact .of_tables rfl

/-! ### The events -/

theorem fillRecords_tables (g : Count32) (vs : List Violation) (s : State) :
    (fillRecords g vs s).tables = s.tables := by
  have hone (u : State) (v : Violation) : (fillRecord g u v).tables = u.tables := by
    unfold fillRecord
    dsimp only
    split
    · exact latchOn_tables _ _ _
    · rfl
  unfold fillRecords
  generalize vs.filter _ = us
  induction us generalizing s with
  | nil => rfl
  | cons v us ih => exact (ih _).trans (hone s v)

theorem noteViolations_tables (a b : List Violation) (s : State) : (noteViolations a b s).tables = s.tables := by
  unfold noteViolations
  dsimp only
  repeat' split
  all_goals simp

theorem autoSuspend_kept (s : State) : TablesKept s (autoSuspend s) := by
  unfold autoSuspend
  split
  · exact .refl s
  split
  · exact enterSuspension_kept _ s
  · exact .refl s

theorem recheckClearance_kept (s : State) : TablesKept s (recheckClearance s) := by
  unfold recheckClearance
  split
  · exact .refl s
  split
  · exact withdrawClearance_kept _ _ s
  · exact .of_tables (postDemand_tables _ s)

theorem noteResults_tables (x : Ctx) (s : State) : (noteResults x s).tables = s.tables := by
  unfold noteResults
  split <;> simp

theorem publish_kept (p : Pass) (s : State) : TablesKept s (publish p s) := by
  have hmonitor (vs : List Violation) (u : State) : TablesKept u (monitorActual p vs u) :=
    (autoSuspend_kept _).after
      ((fillRecords_tables _ _ _).trans ((noteViolations_tables _ _ (updateListOf p vs u)).trans rfl))
  have hclearance (r : ResultSet) (u : State) : TablesKept u (recheckClearance (judgeWindow r u)) :=
    (recheckClearance_kept _).after rfl
  have hgate (r : ResultSet) (u : State) : TablesKept u (gateActual r u) :=
    (hclearance r u).trans (decisionRound_kept _)
  have hset (r : ResultSet) : TablesKept s (publishSet p r s) := .of_tables rfl
  unfold publish
  dsimp only
  split
  · exact (((hset _).trans (hmonitor _ _)).trans (hgate _ _)).then (noteResults_tables _ _)
  · exact .of_tables (noteResults_tables _ _)

theorem deliverLift_tables (r : LiftRef) (b : Bool) (w : Option CheckClass) (s : State) :
    (deliverLift r b w s).tables = s.tables := by
  unfold deliverLift
  repeat' split
  all_goals simp

theorem deliverRecheck_kept (b : Bool) (w : Option CheckClass) (s : State) : TablesKept s (deliverRecheck b w s) := by
  unfold deliverRecheck
  split
  · exact .refl s
  split
  · exact withdrawClearance_kept _ _ s
  split
  · exact withdrawClearance_kept _ _ s
  · exact .refl s

theorem deliverTransfer_kept (id : Nat) (b : Bool) (vs : List Violation) (s : State) :
    TablesKept s (deliverTransfer id b vs s) := by
  unfold deliverTransfer
  split
  · exact .refl s
  rename_i x hx
  split
  · exact .refl s
  split
  · exact .refl s
  split
  · exact setTransferReason_kept _ _ s
  split
  · split
    · exact grantTransfer_kept hx
    · exact setTransferReason_kept _ _ s
  split
  · exact setTransferReason_kept _ _ s
  · exact grantTransfer_kept hx

theorem completePrediction_kept (s : State) : TablesKept s (completePrediction s) := by
  unfold completePrediction
  split
  · exact .refl s
  dsimp only
  split
  · unfold deliver
    split
    · exact (deliverRecheck_kept _ _ _).after rfl
    · exact .of_tables (deliverLift_tables _ _ _ _)
    · exact (deliverTransfer_kept _ _ _ _).after rfl
  · exact .of_tables rfl

theorem completeSnapshot_tables (s : State) : (completeSnapshot s).tables = s.tables := by
  unfold completeSnapshot
  split <;> rfl

theorem completeHookPass_tables (s : State) : (completeHookPass s).tables = s.tables := by
  unfold completeHookPass
  split <;> rfl

theorem completeCommit_kept (s : State) : TablesKept s (completeCommit s) :=
  (enterService_kept _).after rfl

theorem powerLoss_kept {s x : State} (h : execPowerLoss s = .next x) : TablesKept s x := by
  rcases event_cases h with ⟨_, rfl⟩ | ⟨_, rfl⟩
  · exact .refl _
  · exact .of_tables (interruptStore_tables _)

theorem timeoutTransfer_kept (id : Nat) (s : State) : TablesKept s (timeoutTransfer id s) := by
  unfold timeoutTransfer
  split
  · exact removeTransfer_kept _ _ _ s
  · exact .refl s

/-- Every command keeps the tables sound. -/
theorem exec_kept {i : Instr} {s t : State} (h : exec i s = .next t) : TablesKept s t :=
  exec_calm (tablesKept_calm s)
    (hb := fun l r _ hu => hu.trans (bodyOf_kept l r _))
    (hpow := fun _ hu => hu.trans (powerOnState_kept _))
    (hrst := fun _ hu => hu.trans (((restartEngine_kept _).after rfl).then rfl))
    (harm := fun _ hu => hu.then rfl)
    (htime := fun _ hu => hu.then rfl)
    (hloss := fun _ hu _ hx => hu.trans (powerLoss_kept hx))
    (hinit := fun _ hu => hu.trans (endInitializing_kept _))
    (hcommit := fun _ hu => hu.trans (completeCommit_kept _))
    (hstore := fun _ hu => hu.then rfl)
    (hsnap := fun _ hu => hu.then (completeSnapshot_tables _))
    (hlift := fun _ _ hu => hu.trans (timedRelease_kept _ _ _))
    (hcrane := fun _ _ hu => hu.then (latchOn_tables _ _ _))
    (htank := fun _ _ hu => hu.then (latchOn_tables _ _ _))
    (htrans := fun _ _ hu => hu.trans (timeoutTransfer_kept _ _))
    (hpub := fun _ _ _ hu => hu.trans (publish_kept _ _))
    (hhook := fun _ hu => hu.then (completeHookPass_tables _))
    (hpred := fun _ hu => hu.trans (completePrediction_kept _))
    (.refl s) h

theorem step_kept {s t : State} (h : step s = .next t) : TablesKept s t := by
  unfold step at h
  split at h
  · cases h
    exact .refl s
  · exact (exec_kept h).after rfl

/-- Settles O5: every request and every event keeps each of the three tables sound (`bodyOf_kept`, `exec_kept`), and
these are all that a step can do. -/
theorem tablesStaySound : Obligations.TablesStaySound :=
  ⟨fun _ _ h hx => (step_kept hx).stack h, fun _ _ h hx => (step_kept hx).lots h,
    fun _ _ h hx => (step_kept hx).ballast h⟩

end Sys2Proof.Machine
end

section
/-! The planning commands on lots: created, changed, set aboard, discarded, marked and weighed (R22 to R28). -/

namespace Sys2Proof.Machine

/-! ### A request that changes what no link holds -/

theorem setLots_onLink (t : Table Lot) (l : Link) (f : LinkUnit → LinkUnit) (s : State) :
    (s.onLink l f).setLots t = (s.setLots t).onLink l f := rfl

theorem setSeq_onLink (q : List SeqEntry) (l : Link) (f : LinkUnit → LinkUnit) (s : State) :
    (s.onLink l f).setSeq q = (s.setSeq q).onLink l f := rfl

theorem setTanks_onLink (t : Table TankRow) (l : Link) (f : LinkUnit → LinkUnit) (s : State) :
    (s.onLink l f).setTanks t = (s.setTanks t).onLink l f := rfl

theorem advancePlan_onLink (l : Link) (f : LinkUnit → LinkUnit) (s : State) :
    advancePlan (s.onLink l f) = (advancePlan s).onLink l f := by
  unfold advancePlan
  dsimp only [onLink_frames]
  split <;> rfl

theorem advance_onLink (a p : Bool) (l : Link) (f : LinkUnit → LinkUnit) (s : State) :
    advance a p (s.onLink l f) = (advance a p s).onLink l f := by
  cases a <;> cases p
  · rfl
  · exact advancePlan_onLink l f s
  · rfl
  · exact advancePlan_onLink l f (advanceActual s)

/-- A ready request whose body makes of the state with its place reserved what `s'` is of `s`, and replies, completes
with `s'`. -/
theorem command_changes {s s' : State} {l : Link} {r : Request} {t : Byte} {body : State → State × Answer} {rep : Reply}
    (h : Ready s l r) (hl : s'.links = s.links)
    (hb : body (s.onLink l (LinkUnit.reserve r.kind t)) = (s'.onLink l (LinkUnit.reserve r.kind t), .reply rep)) :
    ∃ x, command l t r body s = .next x ∧ x.standing = s'.standing ∧ x.sends l (replyFrame rep r.kind t) := by
  refine command_reply h hb ?_ (standing_onLink (standing_reserve _ _ _))
  have hold := holds_reserve h.none l r.kind t
  rw [onLink_get_self] at hold ⊢
  rwa [hl]

/-! ### Plan Lot (R23) -/

theorem isPlanned_iff {k : Lot} : k.isPlanned = true ↔ k.state = .planned := decide_eq_true_iff

theorem isAboard_iff {k : Lot} : k.isAboard = true ↔ k.state = .aboard := decide_eq_true_iff

/-- R21: the planned values differ when one of them does. -/
theorem differs_planned {k : Lot} {m : Nat} {p : Loc} {f : Option Footprint} :
    k.differs { k with declared := m, loc := p, footprint := f } = true ↔
      ¬ (k.declared = m ∧ k.loc = p ∧ k.footprint = f) := by
  simp only [Lot.differs, ne_eq, not_true_eq_false, decide_false, Bool.false_or, Bool.or_false, Bool.or_eq_true,
    decide_eq_true_eq]
  tauto

theorem replan_of_differs {k : Lot} {m : Nat} {p : Loc} {f : Option Footprint}
    (h : k.differs { k with declared := m, loc := p, footprint := f } = true) :
    k.replan m p f = { k with declared := m, loc := p, footprint := f, modified := true } := if_pos h

/-- Settles O28: each clause is one branch of the body's checks. -/
theorem planLotCompletes : Obligations.PlanLotCompletes := by
  intro s l tag a h
  refine ⟨fun hv => ?_, fun hv => ⟨fun hf hn => ?_, fun n hf hn => ?_, fun n k hk => ⟨fun hp => ?_, fun hp hd => ?_,
    fun hp hd => ?_⟩⟩⟩
  · exact command_quiet h (by simp [bodyPlanLot, refuse, hv])
  · exact command_quiet h (by simp [bodyPlanLot, refuse, hv, hf, hn])
  · exact command_changes h (by simp)
      (by simp [bodyPlanLot, doneWith2, newPlanned, hv, hf, hn, setLots_onLink, advancePlan_onLink])
  · have hp' : k.isPlanned = false := by simpa [Lot.isPlanned] using hp
    exact command_quiet h (by simp [bodyPlanLot, refuse, hv, hk, hp'])
  · have hd' := differs_planned.mpr hd
    exact command_changes h (by simp)
      (by simp [bodyPlanLot, doneWith2, hv, hk, isPlanned_iff.mpr hp, hd', replan_of_differs hd', setLots_onLink,
        advancePlan_onLink])
  · have hd' : k.differs { k with declared := a.mass, loc := a.target, footprint := a.footprint } = false :=
      Bool.eq_false_iff.mpr fun hc => differs_planned.mp hc hd
    exact command_quiet h (by simp [bodyPlanLot, hv, hk, isPlanned_iff.mpr hp, hd'])

/-! ### A lot named by its id (R22) -/

/-- R22: the refusal of an id out of range or held by no slot. -/
theorem namedLot_of_missing {id : Nat} {s : State} {f : Nat → Lot → State × Answer}
    (h : findLot s.cond.lots id = none ∨ lotIdOk id = false) :
    namedLot id s f = refuse (if lotIdOk id then .notFound else .badValue) s := by
  cases hid : lotIdOk id with
  | false => simp [namedLot, hid]
  | true => simp [namedLot, hid, h.resolve_right (by simp [hid])]

/-- R22: a request that acts on a named lot refuses an id out of range or held by no slot. -/
theorem command_unnamed {s : State} {l : Link} {r : Request} {tag : Byte} {id : Nat}
    {f : State → Nat → Lot → State × Answer} (h : Ready s l r)
    (hid : findLot s.cond.lots id = none ∨ lotIdOk id = false) :
    command l tag r (fun t => namedLot id t (f t)) s =
      .next (answered l r tag (Reply.bare (if lotIdOk id then .notFound else .badValue)) s) :=
  command_quiet h (namedLot_of_missing hid)

/-! ### Unplan Lot and Remove Lot (R24, R26) -/

/-- R22: the refusals of an id, apart. -/
theorem command_unnamed_apart {s : State} {l : Link} {r : Request} {tag : Byte} {id : Nat}
    {f : State → Nat → Lot → State × Answer} (h : Ready s l r) :
    (lotIdOk id = false → command l tag r (fun t => namedLot id t (f t)) s =
      .next (answered l r tag (Reply.bare .badValue) s))
    ∧ (lotIdOk id = true → findLot s.cond.lots id = none → command l tag r (fun t => namedLot id t (f t)) s =
      .next (answered l r tag (Reply.bare .notFound) s)) := by
  refine ⟨fun hid => ?_, fun hid hk => ?_⟩
  · rw [command_unnamed h (.inr hid), hid]
    rfl
  · rw [command_unnamed h (.inl hk), hid]
    rfl

theorem unplanLot_completes {s : State} {l : Link} {tag : Byte} {id n : Nat} {k : Lot} (h : Ready s l (.unplanLot id))
    (hid : lotIdOk id = true) (hk : findLot s.cond.lots id = some (n, k)) :
    (k.state ≠ .planned → Refuses (.unplanLot l tag id) l (.unplanLot id) tag .state s)
    ∧ (k.state = .planned →
      Completes (.unplanLot l tag id) l s (advancePlan (discardLot n id .load s))
        (replyFrame (Reply.bare .done) 0x11#8 tag)) := by
  refine ⟨fun hp => ?_, fun hp => ?_⟩
  · have hp' : k.isPlanned = false := by simpa [Lot.isPlanned] using hp
    exact command_quiet h (by simp [bodyUnplanLot, namedLot, hid, hk, refuse, hp'])
  · refine command_changes h (by simp [discardLot]) ?_
    simp [bodyUnplanLot, namedLot, hid, hk, isPlanned_iff.mpr hp, doneWith, discardLot, setLots_onLink, setSeq_onLink,
      advancePlan_onLink]

theorem removeLot_completes {s : State} {l : Link} {tag : Byte} {id n : Nat} {k : Lot} (h : Ready s l (.removeLot id))
    (hid : lotIdOk id = true) (hk : findLot s.cond.lots id = some (n, k)) :
    (k.state ≠ .aboard → Refuses (.removeLot l tag id) l (.removeLot id) tag .state s)
    ∧ (k.state = .aboard →
      Completes (.removeLot l tag id) l s (advance true (!k.mark) (discardLot n id .discharge s))
        (replyFrame (Reply.bare .done) 0x13#8 tag)) := by
  refine ⟨fun ha => ?_, fun ha => ?_⟩
  · have ha' : k.isAboard = false := by simpa [Lot.isAboard] using ha
    exact command_quiet h (by simp [bodyRemoveLot, namedLot, hid, hk, refuse, ha'])
  · refine command_changes h (by simp [discardLot]) ?_
    simp [bodyRemoveLot, namedLot, hid, hk, isAboard_iff.mpr ha, doneWith, discardLot, setLots_onLink, setSeq_onLink,
      advance_onLink]

/-- Settles O29: the refusals of the id are those of every named lot, and then the lot's state decides. -/
theorem lotsAreDiscarded : Obligations.LotsAreDiscarded := by
  refine fun s l tag id => ⟨fun h => ?_, fun h => ?_⟩
  · obtain ⟨hbad, hnone⟩ := command_unnamed_apart (tag := tag) (id := id) h
    exact ⟨hbad, hnone, fun n k hid hk => unplanLot_completes h hid hk⟩
  · obtain ⟨hbad, hnone⟩ := command_unnamed_apart (tag := tag) (id := id) h
    exact ⟨hbad, hnone, fun n k hid hk => removeLot_completes h hid hk⟩

/-! ### Place Lot (R25) -/

theorem placed_eq (a : PlaceLotArgs) (k : Lot) : k.placed a =
    { k with
      state := .aboard, declared := a.mass.getD k.declared, loc := a.position,
      footprint := a.footprint.or k.footprint, modified := true } := by
  cases hf : a.footprint <;> simp [Lot.placed, hf]

/-- Settles O30: each clause is one branch of the body's checks. -/
theorem placeLotCompletes : Obligations.PlaceLotCompletes := by
  intro s l tag a h
  refine ⟨fun hv => ?_, fun hv => ⟨fun hf hm => ?_, fun m hf hm hn => ?_, fun m n hf hm hn => ?_,
    fun n k hk => ⟨fun hp => ?_, fun hp => ?_⟩⟩⟩
  · exact command_quiet h (by simp [bodyPlaceLot, refuse, hv])
  · exact command_quiet h (by simp [bodyPlaceLot, refuse, hv, hf, hm])
  · exact command_quiet h (by simp [bodyPlaceLot, refuse, hv, hf, hm, hn])
  · exact command_changes h (by simp)
      (by simp [bodyPlaceLot, doneWith2, newAboard, hv, hf, hm, hn, setLots_onLink, advance_onLink])
  · have hp' : k.isPlanned = false := by simpa [Lot.isPlanned] using hp
    exact command_quiet h (by simp [bodyPlaceLot, refuse, hv, hk, hp'])
  · rw [← placed_eq]
    exact command_changes h (by simp)
      (by simp [bodyPlaceLot, doneWith2, seqDrop, hv, hk, isPlanned_iff.mpr hp, setLots_onLink, setSeq_onLink,
        advance_onLink])

/-! ### Discharge marks (R27) -/

theorem markDischarge_completes {s : State} {l : Link} {tag : Byte} {id n : Nat} {k : Lot}
    (hid : lotIdOk id = true) (hk : findLot s.cond.lots id = some (n, k)) (h : Ready s l (.markDischarge id)) :
    (k.state ≠ .aboard → Refuses (.markDischarge l tag id) l (.markDischarge id) tag .state s)
    ∧ (k.state = .aboard → k.mark = true →
      Answers (.markDischarge l tag id) l (.markDischarge id) tag (Reply.bare .done) s)
    ∧ (k.state = .aboard → k.mark = false →
      Completes (.markDischarge l tag id) l s
        (advancePlan ((s.setLots (tput s.cond.lots n (k.marked true))).setSeq (s.cond.seq ++ [⟨id, .discharge⟩])))
        (replyFrame (Reply.bare .done) 0x14#8 tag)) := by
  refine ⟨fun ha => ?_, fun ha hm => ?_, fun ha hm => ?_⟩
  · have ha' : k.isAboard = false := by simpa [Lot.isAboard] using ha
    exact command_quiet h (by simp [bodyMarkDischarge, namedLot, hid, hk, refuse, ha'])
  · exact command_quiet h (by simp [bodyMarkDischarge, namedLot, hid, hk, isAboard_iff.mpr ha, hm])
  · refine command_changes h (by simp) ?_
    simp [bodyMarkDischarge, namedLot, hid, hk, isAboard_iff.mpr ha, hm, doneWith, setLots_onLink, setSeq_onLink,
      advancePlan_onLink]

theorem unmarkDischarge_completes {s : State} {l : Link} {tag : Byte} {id n : Nat} {k : Lot}
    (hid : lotIdOk id = true) (hk : findLot s.cond.lots id = some (n, k)) (h : Ready s l (.unmarkDischarge id)) :
    (k.state ≠ .aboard → Refuses (.unmarkDischarge l tag id) l (.unmarkDischarge id) tag .state s)
    ∧ (k.state = .aboard → k.mark = false →
      Answers (.unmarkDischarge l tag id) l (.unmarkDischarge id) tag (Reply.bare .done) s)
    ∧ (k.state = .aboard → k.mark = true →
      Completes (.unmarkDischarge l tag id) l s
        (advancePlan ((s.setLots (tput s.cond.lots n (k.marked false))).setSeq (seqDrop id .discharge s.cond.seq)))
        (replyFrame (Reply.bare .done) 0x15#8 tag)) := by
  refine ⟨fun ha => ?_, fun ha hm => ?_, fun ha hm => ?_⟩
  · have ha' : k.isAboard = false := by simpa [Lot.isAboard] using ha
    exact command_quiet h (by simp [bodyUnmarkDischarge, namedLot, hid, hk, refuse, ha'])
  · exact command_quiet h (by simp [bodyUnmarkDischarge, namedLot, hid, hk, isAboard_iff.mpr ha, hm])
  · refine command_changes h (by simp) ?_
    simp [bodyUnmarkDischarge, namedLot, hid, hk, isAboard_iff.mpr ha, hm, doneWith, setLots_onLink, setSeq_onLink,
      advancePlan_onLink]

/-! ### Accept Weight (R28) -/

/-- R21: an accepted weight changes the lot when the declared mass or DISCREPANCY does. -/
theorem differs_accepted {k : Lot} {m : Nat} :
    k.differs { k with declared := m, discrepancy := false } = true ↔ k.declared ≠ m ∨ k.discrepancy = true := by
  simp [Lot.differs]

theorem accepted_of_differs {k : Lot} {m : Nat}
    (h : k.differs { k with declared := m, discrepancy := false } = true) :
    k.accepted m = { k with declared := m, discrepancy := false, modified := true } := if_pos h

theorem bodyAcceptWeight_weighed {s : State} {id n m : Nat} {k : Lot} (hid : lotIdOk id = true)
    (hk : findLot s.cond.lots id = some (n, k)) (hl : k.state.isLifting = false) (hm : k.measured = some m) :
    bodyAcceptWeight id s =
      if 2000000 < m then refuse .badValue s
      else if k.differs { k with declared := m, discrepancy := false } then
        doneWith (advance true k.isPlanned (s.setLots (tput s.cond.lots n (k.accepted m))))
      else (s, .quiet (Reply.bare .done)) := by
  simp [bodyAcceptWeight, namedLot, hid, hk, hl, hm]

theorem acceptWeight_completes {s : State} {l : Link} {tag : Byte} {id n : Nat} {k : Lot}
    (h : Ready s l (.acceptWeight id)) (hid : lotIdOk id = true) (hk : findLot s.cond.lots id = some (n, k)) :
    (k.state.isLifting = true ∨ k.measured = none →
      Refuses (.acceptWeight l tag id) l (.acceptWeight id) tag .state s)
    ∧ (∀ m, k.state.isLifting = false → k.measured = some m →
      (2000000 < m → Refuses (.acceptWeight l tag id) l (.acceptWeight id) tag .badValue s)
      ∧ (m ≤ 2000000 → (k.declared ≠ m ∨ k.discrepancy = true) →
        Completes (.acceptWeight l tag id) l s
          (advance true (decide (k.state = .planned)) (s.setLots (tput s.cond.lots n
            { k with declared := m, discrepancy := false, modified := true })))
          (replyFrame (Reply.bare .done) 0x16#8 tag))
      ∧ (m ≤ 2000000 → k.declared = m → k.discrepancy = false →
        Answers (.acceptWeight l tag id) l (.acceptWeight id) tag (Reply.bare .done) s)) := by
  have hbody {m : Nat} (hl : k.state.isLifting = false) (hm : k.measured = some m) (f : LinkUnit → LinkUnit) :=
    bodyAcceptWeight_weighed (s := s.onLink l f) hid hk hl hm
  refine ⟨fun hs => ?_, fun m hl hm => ⟨fun hbig => ?_, fun hle hd => ?_, fun hle hd hc => ?_⟩⟩
  · refine command_quiet h ?_
    cases hl : k.state.isLifting with
    | true => simp [bodyAcceptWeight, namedLot, hid, hk, refuse, hl]
    | false => simp [bodyAcceptWeight, namedLot, hid, hk, refuse, hl, hs.resolve_left (by simp [hl])]
  · exact command_quiet h ((hbody hl hm _).trans (if_pos hbig))
  · have hd' := differs_accepted.mpr hd
    refine command_changes h (by simp) ((hbody hl hm _).trans ?_)
    simp [Nat.not_lt.mpr hle, hd', accepted_of_differs hd', doneWith, setLots_onLink, advance_onLink, Lot.isPlanned]
  · have hd' : ¬ k.differs { k with declared := m, discrepancy := false } = true := by
      simp [differs_accepted, hd, hc]
    exact command_quiet h ((hbody hl hm _).trans
      ((if_neg (Nat.not_lt.mpr hle)).trans (if_neg hd')))

/-- Settles O31: the lot's state, its mark and its measured mass decide; the ids refused are those of every named
lot. -/
theorem marksAndWeightsComplete : Obligations.MarksAndWeightsComplete := by
  refine ⟨fun s l tag id n k hid hk => ⟨markDischarge_completes hid hk, unmarkDischarge_completes hid hk⟩,
    fun s l tag id n k h hid hk => acceptWeight_completes h hid hk, fun s l tag id => ?_⟩
  intro status hid
  exact ⟨fun h => command_unnamed h hid, fun h => command_unnamed h hid, fun h => command_unnamed h hid⟩

end Sys2Proof.Machine
end

section
/-! The commands on the stow sequence and on the tanks (R31 to R37). -/

namespace Sys2Proof.Machine

/-! ### The stow sequence (R31 to R33) -/

theorem seq_any_iff {q : List SeqEntry} {id : Nat} :
    q.any (fun e => decide (e.lot = id)) = true ↔ ∃ e ∈ q, e.lot = id := by
  simp [List.any_eq_true]

theorem seq_any_false {q : List SeqEntry} {id : Nat} (h : ∀ e ∈ q, e.lot ≠ id) :
    q.any (fun e => decide (e.lot = id)) = false := by
  simpa [List.any_eq_false] using h

/-- R32 step 5. -/
theorem sequenceable_iff {k : Lot} {d : Direction} :
    sequenceable k d = true ↔
      (d = .load ∧ k.state = .planned) ∨ (d = .discharge ∧ k.state = .aboard ∧ k.mark = true) := by
  cases d <;> simp [sequenceable, isPlanned_iff, isAboard_iff]

theorem insertInSequence_completes {s : State} {l : Link} {tag : Byte} {id dir p : Nat}
    (h : Ready s l (.insertInSequence id dir p)) :
    let r := Request.insertInSequence id dir p
    let i := Instr.insertInSequence l tag id dir p
    (dirOf dir = none → Refuses i l r tag .badValue s)
    ∧ (∀ d, dirOf dir = some d → findLot s.cond.lots id = none → Refuses i l r tag .notFound s)
    ∧ (∀ d n k, dirOf dir = some d → findLot s.cond.lots id = some (n, k) →
      (k.state.isLifting = true → Refuses i l r tag .state s)
      ∧ (k.state.isLifting = false → (∃ e ∈ s.cond.seq, e.lot = id) → Refuses i l r tag .duplicate s)
      ∧ (k.state.isLifting = false → (∀ e ∈ s.cond.seq, e.lot ≠ id) →
        (sequenceable k d = true →
          Completes i l s (s.setSeq (seqInsert p ⟨id, d⟩ s.cond.seq))
            (replyFrame ⟨.done, encU 2 (min p s.cond.seq.length)⟩ 0x19#8 tag))
        ∧ (sequenceable k d = false → Refuses i l r tag .state s))) := by
  refine ⟨fun hd => ?_, fun d hd hk => ?_, fun d n k hd hk => ⟨fun hl => ?_, fun hl he => ?_,
    fun hl he => ⟨fun hs => ?_, fun hs => ?_⟩⟩⟩
  · exact command_quiet h (by simp [bodyInsertInSequence, refuse, hd])
  · exact command_quiet h (by simp [bodyInsertInSequence, refuse, hd, hk])
  · exact command_quiet h (by simp [bodyInsertInSequence, refuse, hd, hk, hl])
  · exact command_quiet h (by simp only [bodyInsertInSequence, onLink_cond, hd, hk, hl, seq_any_iff.mpr he]; rfl)
  · exact command_changes h (by simp)
      (by simp only [bodyInsertInSequence, onLink_cond, hd, hk, hl, seq_any_false he, hs]; rfl)
  · exact command_quiet h (by simp only [bodyInsertInSequence, onLink_cond, hd, hk, hl, seq_any_false he, hs]; rfl)

theorem removeFromSequence_completes {s : State} {l : Link} {tag : Byte} {id : Nat}
    (h : Ready s l (.removeFromSequence id)) :
    ((∀ e ∈ s.cond.seq, e.lot ≠ id) →
      Refuses (.removeFromSequence l tag id) l (.removeFromSequence id) tag .notFound s)
    ∧ ((∃ e ∈ s.cond.seq, e.lot = id) → lotIsLifting s.cond.lots id = true →
      Refuses (.removeFromSequence l tag id) l (.removeFromSequence id) tag .state s)
    ∧ ((∃ e ∈ s.cond.seq, e.lot = id) → lotIsLifting s.cond.lots id = false →
      Completes (.removeFromSequence l tag id) l s (s.setSeq (s.cond.seq.filter (fun e => decide (e.lot ≠ id))))
        (replyFrame (Reply.bare .done) 0x1A#8 tag)) := by
  refine ⟨fun he => ?_, fun he hl => ?_, fun he hl => ?_⟩
  · exact command_quiet h (by simp only [bodyRemoveFromSequence, onLink_cond, seq_any_false he]; rfl)
  · exact command_quiet h (by simp only [bodyRemoveFromSequence, onLink_cond, seq_any_iff.mpr he, hl]; rfl)
  · exact command_changes h (by simp)
      (by simp only [bodyRemoveFromSequence, onLink_cond, seq_any_iff.mpr he, hl]; rfl)

/-- Settles O32: each clause is one branch of the two bodies' checks. -/
theorem sequenceCommandsComplete : Obligations.SequenceCommandsComplete := by
  refine ⟨fun s l tag id dir p => ?_, fun s l tag id h => removeFromSequence_completes h⟩
  intro r i h
  obtain ⟨hdir, hlot, hfound⟩ := insertInSequence_completes (tag := tag) h
  refine ⟨hdir, hlot, fun d n k hd hk => ?_⟩
  obtain ⟨hlifting, hsecond, hrest⟩ := hfound d n k hd hk
  refine ⟨hlifting, hsecond, fun hl he => ?_⟩
  obtain ⟨htaken, hrefused⟩ := hrest hl he
  exact ⟨fun hs => htaken (sequenceable_iff.mpr hs),
    fun hs => hrefused (Bool.eq_false_iff.mpr fun hc => hs (sequenceable_iff.mp hc))⟩

/-! ### Tanks (R36, R37) -/

theorem setTankRow_onLink (k : Nat) (r : TankRow) (l : Link) (f : LinkUnit → LinkUnit) (s : State) :
    (s.onLink l f).setTankRow k r = (s.setTankRow k r).onLink l f := rfl

theorem setTankManual_completes {s : State} {l : Link} {tag : Byte} {k m d : Nat}
    (h : Ready s l (.setTankManual k m d)) :
    (densityOk d = false → Refuses (.setTankManual l tag k m d) l (.setTankManual k m d) tag .badValue s)
    ∧ (densityOk d = true → tget s.ship.tanks k = none →
      Refuses (.setTankManual l tag k m d) l (.setTankManual k m d) tag .notFound s)
    ∧ (∀ g, densityOk d = true → tget s.ship.tanks k = some g →
      (g.capacity * d / 1000 < m →
        Refuses (.setTankManual l tag k m d) l (.setTankManual k m d) tag .badValue s)
      ∧ (m ≤ g.capacity * d / 1000 → (s.tankRow k).transfer.isSome = true →
        Refuses (.setTankManual l tag k m d) l (.setTankManual k m d) tag .state s)
      ∧ (m ≤ g.capacity * d / 1000 → (s.tankRow k).transfer = none →
        let changed := decide ((s.tankRow k).contents ≠ m ∨ (s.tankRow k).density ≠ d)
        Completes (.setTankManual l tag k m d) l s
          (advance changed (changed && (s.tankRow k).target.isNone)
            (s.setTankRow k ((s.tankRow k).manual m d)))
          (replyFrame (Reply.bare .done) 0x1C#8 tag))) := by
  have hrow (f : LinkUnit → LinkUnit) : (s.onLink l f).tankRow k = s.tankRow k := rfl
  have hgeom (f : LinkUnit → LinkUnit) : (s.onLink l f).tankGeom? k = tget s.ship.tanks k := rfl
  refine ⟨fun hd => ?_, fun hd hg => ?_, fun g hd hg => ⟨fun hm => ?_, fun hm ht => ?_, fun hm ht => ?_⟩⟩
  · exact command_quiet h (by simp [bodySetTankManual, refuse, hd])
  · exact command_quiet h (by simp [bodySetTankManual, refuse, hd, hgeom, hg])
  · exact command_quiet h (by simp [bodySetTankManual, refuse, capacityMass, hd, hgeom, hg, hm])
  · exact command_quiet h
      (by simp [bodySetTankManual, refuse, capacityMass, hd, hgeom, hg, hrow, ht, Nat.not_lt.mpr hm])
  · refine command_changes h (by simp) ?_
    simp [bodySetTankManual, doneWith, capacityMass, hd, hgeom, hg, Nat.not_lt.mpr hm, hrow, ht, setTankRow_onLink,
      advance_onLink]

/-- R37 step 1: the density of a target. -/
theorem targetDensityOk_iff {g : Option Target} :
    targetDensityOk g = true ↔ ∀ x, g = some x → densityOk x.density = true := by
  cases g <;> simp [targetDensityOk]

/-- R35: the capacity bound of a target. -/
theorem targetFits_iff {geom : TankGeom} {g : Option Target} :
    targetFits geom g = true ↔ ∀ x, g = some x → x.contents ≤ geom.capacity * x.density / 1000 := by
  cases g with
  | none => simp [targetFits]
  | some x =>
    simp only [Option.some.injEq, forall_eq']
    exact decide_eq_true_iff

theorem setTankTarget_completes {s : State} {l : Link} {tag : Byte} {k : Nat} {g : Option Target}
    (h : Ready s l (.setTankTarget k g)) :
    (targetDensityOk g = false → Refuses (.setTankTarget l tag k g) l (.setTankTarget k g) tag .badValue s)
    ∧ (targetDensityOk g = true → tget s.ship.tanks k = none →
      Refuses (.setTankTarget l tag k g) l (.setTankTarget k g) tag .notFound s)
    ∧ (∀ geom, targetDensityOk g = true → tget s.ship.tanks k = some geom →
      (targetFits geom g = false →
        Refuses (.setTankTarget l tag k g) l (.setTankTarget k g) tag .badValue s)
      ∧ (targetFits geom g = true → (s.tankRow k).target ≠ g →
        Completes (.setTankTarget l tag k g) l s
          (advancePlan (s.setTankRow k ((s.tankRow k).withTarget g)))
          (replyFrame (Reply.bare .done) 0x1D#8 tag))
      ∧ (targetFits geom g = true → (s.tankRow k).target = g →
        Answers (.setTankTarget l tag k g) l (.setTankTarget k g) tag (Reply.bare .done) s)) := by
  have hrow (f : LinkUnit → LinkUnit) : (s.onLink l f).tankRow k = s.tankRow k := rfl
  have hgeom (f : LinkUnit → LinkUnit) : (s.onLink l f).tankGeom? k = tget s.ship.tanks k := rfl
  refine ⟨fun hd => ?_, fun hd hg => ?_, fun geom hd hg => ⟨fun hm => ?_, fun hm ht => ?_, fun hm ht => ?_⟩⟩
  · exact command_quiet h (by simp [bodySetTankTarget, refuse, hd])
  · exact command_quiet h (by simp [bodySetTankTarget, refuse, hd, hgeom, hg])
  · exact command_quiet h (by simp [bodySetTankTarget, refuse, hd, hgeom, hg, hm])
  · refine command_changes h (by simp) ?_
    simp [bodySetTankTarget, doneWith, hd, hgeom, hg, hm, hrow, ht, setTankRow_onLink, advancePlan_onLink]
  · exact command_quiet h (by simp [bodySetTankTarget, hd, hgeom, hg, hm, hrow, ht])

/-- Settles O33: each clause is one branch of the two bodies' checks. -/
theorem tanksAreSet : Obligations.TanksAreSet := by
  refine fun s l tag k => ⟨fun m d h => setTankManual_completes h, fun g h => ?_⟩
  obtain ⟨hbad, hnone, hfound⟩ := setTankTarget_completes (tag := tag) h
  refine ⟨fun ⟨x, hg, hd⟩ => hbad ?_, fun hd => hnone (targetDensityOk_iff.mpr hd), fun geom hd hgeom => ?_⟩
  · subst hg
    exact hd
  obtain ⟨hbig, hset, hsame⟩ := hfound geom (targetDensityOk_iff.mpr hd) hgeom
  refine ⟨fun ⟨x, hg, hm⟩ => hbig ?_, fun hm => hset (targetFits_iff.mpr hm),
    fun ht hm => hsame (targetFits_iff.mpr hm) ht⟩
  subst hg
  exact decide_eq_false (Nat.not_le.mpr hm)

end Sys2Proof.Machine
end

section
/-! Snapshots and images (R41 to R46). -/

namespace Sys2Proof.Machine

/-! ### Snapshots (R42, R43) -/

theorem openSnapshot_begins {s : State} {l : Link} {tag : Byte} (h : Ready s l .openSnapshot) :
    (s.snapshotOp = none → Begins (.openSnapshot l tag) l .openSnapshot tag .snapshot s (startSnapshot s))
    ∧ (s.snapshotOp ≠ none → Refuses (.openSnapshot l tag) l .openSnapshot tag .busy s) := by
  refine ⟨fun hs => ?_, fun hs => ?_⟩
  · exact command_inFlight h (s1 := startSnapshot (s.onLink l (LinkUnit.reserve (Request.kind .openSnapshot) tag)))
      (by simp [bodyOpenSnapshot, hs]) (holds_reserve h.none l _ _)
      (standing_onLink (s := startSnapshot s) (standing_reserve _ _ _))
  · exact command_quiet h (by simp [bodyOpenSnapshot, refuse, Option.isSome_iff_ne_none.mpr hs])

theorem openSnapshotCompletion_completes {s : State} (hp : s.powered = true) :
    (∀ q, s.snapshotOp = some q →
      ∃ t, exec .openSnapshotCompletion s = .next t
        ∧ t.standing = ({ s with snapshot := some q, snapshotOp := none } : State).standing
        ∧ ∀ k tag, KeptPlace .snapshot k tag s → t.sends .l0 (replyFrame ⟨.done, q.counts⟩ k tag))
    ∧ (s.snapshotOp = none → exec .openSnapshotCompletion s = .next s) := by
  refine ⟨fun q hq => ⟨settle (completeSnapshot s), ?_, ?_, fun k tag hk => ?_⟩, fun hs => ?_⟩
  · exact dueEvent_due (due := fun s => s.snapshotOp.isSome) (f := completeSnapshot) hp (by simp [hq])
  · simp only [settle_standing, completeSnapshot, hq]
    exact standing_onLink (standing_fill _ _ _)
  · refine sends_settle (Or.inl ?_)
    simp only [completeSnapshot, hq]
    rw [onLink_get_self]
    exact keptPlace_fill hk
  · exact dueEvent_not (due := fun s => s.snapshotOp.isSome) (f := completeSnapshot) (by simp [hs])

@[simp] theorem length_pagesOf (per : Nat) (recs : List (List Byte)) :
    (pagesOf per recs).length = ceilDiv recs.length per := by
  simp [pagesOf]

/-- R41: a snapshot has as many pages as its header says. -/
theorem length_pages (q : Snapshot) : q.pages.length = q.pageCount := by
  simp only [Snapshot.pages, Snapshot.pageCount, pageCount, List.length_cons, List.length_append, length_pagesOf,
    List.length_map]
  omega

theorem readSnapshotPage_completes {s : State} {l : Link} {tag : Byte} {page : Nat}
    (h : Ready s l (.readSnapshotPage page)) :
    (s.snapshotOp ≠ none → Refuses (.readSnapshotPage l tag page) l (.readSnapshotPage page) tag .busy s)
    ∧ (s.snapshotOp = none → s.snapshot = none →
      Refuses (.readSnapshotPage l tag page) l (.readSnapshotPage page) tag .state s)
    ∧ (∀ q, s.snapshotOp = none → s.snapshot = some q →
      (q.pageCount ≤ page → Refuses (.readSnapshotPage l tag page) l (.readSnapshotPage page) tag .badValue s)
      ∧ (page < q.pageCount → ∃ bytes, q.pages[page]? = some bytes
        ∧ Answers (.readSnapshotPage l tag page) l (.readSnapshotPage page) tag ⟨.done, bytes⟩ s)) := by
  refine ⟨fun ho => ?_, fun ho hs => ?_, fun q ho hs => ⟨fun hpage => ?_, fun hpage => ?_⟩⟩
  · exact command_quiet h (by simp [bodyReadSnapshotPage, refuse, Option.isSome_iff_ne_none.mpr ho])
  · exact command_quiet h (by simp [bodyReadSnapshotPage, refuse, ho, hs])
  · have hnone : q.pages[page]? = none := List.getElem?_eq_none ((length_pages q).trans_le hpage)
    exact command_quiet h (by simp only [bodyReadSnapshotPage, onLink_snapshotOp, onLink_snapshot, ho, hs, hnone]; rfl)
  · have hsome : q.pages[page]? = some (q.pages[page]'((length_pages q).symm ▸ hpage)) :=
      List.getElem?_eq_getElem _
    refine ⟨_, hsome, ?_⟩
    exact command_quiet h (by simp only [bodyReadSnapshotPage, onLink_snapshotOp, onLink_snapshot, ho, hs, hsome]; rfl)

theorem closeSnapshot_completes {s : State} {l : Link} {tag : Byte} (h : Ready s l .closeSnapshot) :
    (s.snapshotOp ≠ none → Refuses (.closeSnapshot l tag) l .closeSnapshot tag .busy s)
    ∧ (s.snapshotOp = none →
      Completes (.closeSnapshot l tag) l s { s with snapshot := none } (replyFrame (Reply.bare .done) 0x32#8 tag)) := by
  refine ⟨fun ho => ?_, fun ho => ?_⟩
  · exact command_quiet h (by simp [bodyCloseSnapshot, refuse, Option.isSome_iff_ne_none.mpr ho])
  · exact command_changes h rfl (by simp only [bodyCloseSnapshot, onLink_snapshotOp, ho]; rfl)

/-- Settles O39: the opening keeps its place (`command_inFlight`), the completion fills it, and each other clause is
one branch of a body's checks. -/
theorem snapshotsOpenAndRead : Obligations.SnapshotsOpenAndRead :=
  ⟨fun _ => ⟨fun _ _ => openSnapshot_begins, openSnapshotCompletion_completes⟩,
    fun _ _ _ => ⟨fun _ => readSnapshotPage_completes, closeSnapshot_completes⟩⟩

/-! ### Images (R44 to R46) -/

theorem writeImagePage_completes {s : State} {l : Link} {tag : Byte} {page : Nat} {data : List Byte}
    (h : Ready s l (.writeImagePage page data)) :
    (data.length ≠ 224 → Refuses (.writeImagePage l tag page data) l (.writeImagePage page data) tag .badForm s)
    ∧ (data.length = 224 → 78 < page →
      Refuses (.writeImagePage l tag page data) l (.writeImagePage page data) tag .badValue s)
    ∧ (data.length = 224 → page ≤ 78 →
      Completes (.writeImagePage l tag page data) l s { s with image := storePage page data s.image }
        (replyFrame (Reply.bare .done) 0x33#8 tag)) := by
  refine ⟨fun hd => ?_, fun hd hpage => ?_, fun hd hpage => ?_⟩
  · exact command_quiet h (if_pos hd)
  · exact command_quiet h ((if_neg (not_not.mpr hd)).trans (if_pos hpage))
  · exact command_changes h rfl ((if_neg (not_not.mpr hd)).trans (if_neg (Nat.not_lt.mpr hpage)))

/-- R45: what Apply Image needs of the cranes, the transfers and the trial stack. -/
theorem imageAllowed_iff {s : State} :
    imageAllowed s = true ↔ (∀ c, (s.liftRec c).state = .idle) ∧ s.ballast.transfers = [] ∧ s.frames = [] := by
  simp only [imageAllowed, Bool.and_eq_true, decide_eq_true_eq, List.isEmpty_iff]
  constructor
  · rintro ⟨⟨⟨hone, htwo⟩, ht⟩, hf⟩
    exact ⟨fun c => by cases c <;> assumption, ht, hf⟩
  · rintro ⟨hc, ht, hf⟩
    exact ⟨⟨⟨hc .one, hc .two⟩, ht⟩, hf⟩

theorem applyImage_completes {s : State} {l : Link} {tag : Byte} (h : Ready s l .applyImage) :
    (imageAllowed s = false → Refuses (.applyImage l tag) l .applyImage tag .state s)
    ∧ (imageAllowed s = true →
      (∀ e, readImage s.ship s.image = .error e →
        Answers (.applyImage l tag) l .applyImage tag ⟨.badImage, encU 1 e.part ++ encU 2 e.index⟩ s)
      ∧ (∀ c, readImage s.ship s.image = .ok c →
        Completes (.applyImage l tag) l s (advance true true (applyImage c s))
          (replyFrame (Reply.bare .done) 0x34#8 tag))) := by
  have hallowed (f : LinkUnit → LinkUnit) : imageAllowed (s.onLink l f) = imageAllowed s := rfl
  have happlied (c : ImageContents) (f : LinkUnit → LinkUnit) :
      applyImage c (s.onLink l f) = (applyImage c s).onLink l f := rfl
  refine ⟨fun ha => ?_, fun ha => ⟨fun e he => ?_, fun c hc => ?_⟩⟩
  · exact command_quiet h (by simp [bodyApplyImage, refuse, hallowed, ha])
  · exact command_quiet h (by simp [bodyApplyImage, hallowed, ha, he])
  · exact command_changes h (by rw [advance_form]; rfl)
      (by simp [bodyApplyImage, doneWith, hallowed, ha, hc, happlied, advance_onLink])

/-- Settles O40: a page is stored or refused, and an image applied or refused, by the bodies' checks. -/
theorem imagesAreWrittenAndApplied : Obligations.ImagesAreWrittenAndApplied := by
  refine ⟨fun s l tag page data h => writeImagePage_completes h, fun s l tag h => ?_⟩
  obtain ⟨hrefused, happlied⟩ := applyImage_completes (tag := tag) h
  refine ⟨fun hbusy => hrefused (Bool.eq_false_iff.mpr fun ha => ?_),
    fun hc ht hf => happlied (imageAllowed_iff.mpr ⟨hc, ht, hf⟩)⟩
  obtain ⟨hc, ht, hf⟩ := imageAllowed_iff.mp ha
  rcases hbusy with ⟨c, hne⟩ | hne | hne
  · exact hne (hc c)
  · exact hne ht
  · exact hne hf

end Sys2Proof.Machine
end

section
/-! Passes of PLAN and TRIAL, and what a pass captures (R39, R72, R73, R100, R108, R154). -/

namespace Sys2Proof.Machine

/-! ### Publication of PLAN and TRIAL (R73) -/

/-- R73: what a publication of PLAN or TRIAL is, step by step. -/
theorem publish_of_ne_actual {p : Pass} (h : p.ctx ≠ .actual) (s : State) :
    publish p s = latch .results .l0
      (updateListOf p (judgePass s.ship p (passSet s.ship p)) (publishSet p (passSet s.ship p) s)) := by
  unfold publish noteResults
  cases hx : p.ctx with
  | actual => exact absurd hx h
  | plan => rfl
  | trial => rfl

theorem publication_publishes {s : State} {p : Pass} (hp : s.powered = true) (hu : s.eval.unit = .pass p)
    (hx : p.ctx ≠ .actual) :
    Becomes .publication s (latch .results .l0
      { s with
        eval := s.eval.mapCtx (CtxState.published (passSet s.ship p)) p.ctx
        monitor := s.monitor.setList p.ctx
          (updateList s.time p.gen p.limitName (judgePass s.ship p (passSet s.ship p)) (listOf s p.ctx)) }) := by
  have hpass : passInFlight s = some p := by simp [passInFlight, hu]
  have hexec : execPublication s = .next (settle (publish p s)) := by
    rw [execPublication, dueEvent_due hp (by simp [hpass])]
    simp only [hpass]
  refine ⟨_, hexec, ?_⟩
  rw [settle_standing, publish_of_ne_actual hx]
  exact latch_standing_congr rfl

theorem publication_not_due {s : State} (h : ∀ p, s.eval.unit ≠ .pass p) : exec .publication s = .next s := by
  have hnone : passInFlight s = none := by
    unfold passInFlight
    split
    case h_1 p hu => exact absurd hu (h p)
    case h_2 => rfl
  have hexec : execPublication s = .next s := by rw [execPublication, dueEvent_not (by simp [hnone])]
  exact hexec

/-! ### What a pass captures (R72, R100, R101) -/

theorem exists_crane {P : CraneId → Prop} : (∃ c, P c) ↔ P .one ∨ P .two := by
  constructor
  · rintro ⟨c, hc⟩
    cases c with
    | one => exact .inl hc
    | two => exact .inr hc
  · rintro (h | h) <;> exact ⟨_, h⟩

theorem carries_iff (r : LiftRecord) : carries r = true ↔ r.state = .hoisted ∨ r.state = .lowering := by simp [carries]

theorem carries_any_iff (s : State) :
    (carries s.gate.recs.one || carries s.gate.recs.two) = true ↔
      ∃ c, (s.liftRec c).state = .hoisted ∨ (s.liftRec c).state = .lowering := by
  simp [exists_crane, carries_iff, State.liftRec, PerCrane.get]

/-- R100: ACTUAL is judged against LIFT while a crane is HOISTED or LOWERING. -/
theorem limitNameOf_eq_lift {s : State} (h : ∃ c, (s.liftRec c).state = .hoisted ∨ (s.liftRec c).state = .lowering) :
    limitNameOf s .actual = .lift :=
  if_pos ((carries_any_iff s).mpr h)

theorem limitNameOf_eq_harbour {s : State} {x : Ctx}
    (h : x ≠ .actual ∨ ¬ ∃ c, (s.liftRec c).state = .hoisted ∨ (s.liftRec c).state = .lowering) :
    limitNameOf s x = .harbour := by
  cases x with
  | actual => exact if_neg ((carries_any_iff s).not.mpr (h.resolve_left (by simp)))
  | plan => rfl
  | trial => rfl

theorem taintNow_iff (s : State) :
    taintNow s = true ↔ (∃ c, s.gate.stale.get c = true) ∨ ∃ q ∈ s.cond.tanks, q.2.stale = true := by
  simp [taintNow, anyCraneStale, anyTankStale, exists_crane, PerCrane.get]

theorem capturePass_tainted_iff (s : State) (x : Ctx) :
    (capturePass s x).tainted = true ↔
      x = .actual ∧ ((∃ c, s.gate.stale.get c = true) ∨ ∃ q ∈ s.cond.tanks, q.2.stale = true) := by
  rw [← taintNow_iff]
  simp [capturePass]

/-! ### The items counted (R38, R39, R49) -/

theorem mem_lightshipItems {ship : ShipData} {it : Item} :
    it ∈ lightshipItems ship ↔ ∃ e, ship.lightship = some e ∧ it = ⟨e.mass, e.cg, .lightship⟩ := by
  unfold lightshipItems
  split <;> simp [*]

theorem mem_bothCranes (c : CraneId) : c ∈ bothCranes := by cases c <;> decide

theorem mem_presentCranes {ship : ShipData} {p : CraneId × Crane} :
    p ∈ presentCranes ship ↔ tget ship.cranes p.1.num = some p.2 ∧ p.2.present ≠ 0 := by
  obtain ⟨c, k⟩ := p
  simp only [presentCranes, List.mem_filterMap, mem_bothCranes, true_and]
  constructor
  · rintro ⟨d, hd⟩
    split at hd
    case h_1 k' hk =>
      by_cases hz : k'.present = 0
      · simp [hz] at hd
      · simp only [hz, if_false, Option.some.injEq, Prod.mk.injEq] at hd
        obtain ⟨rfl, rfl⟩ := hd
        exact ⟨hk, hz⟩
    case h_2 => cases hd
  · rintro ⟨hk, hz⟩
    exact ⟨c, by simp [hk, hz]⟩

/-- What is formed of each present crane. -/
theorem mem_map_presentCranes {α : Type} {ship : ShipData} {f : CraneId × Crane → α} {a : α} :
    a ∈ (presentCranes ship).map f ↔ ∃ c k, tget ship.cranes c.num = some k ∧ k.present ≠ 0 ∧ a = f (c, k) := by
  simp only [List.mem_map, Prod.exists, mem_presentCranes, and_assoc, eq_comm (a := a)]

/-- R39: a tank is counted when the mass its context gives it is above 0. -/
theorem mem_tankItems {ship : ShipData} {counted : Nat → Nat × Nat} {it : Item} :
    it ∈ tankItems ship counted ↔
      ∃ q ∈ ship.tanks, 0 < (counted q.1).1 ∧ it = tankItem q.1 q.2 (counted q.1).1 (counted q.1).2 := by
  simp only [tankItems, List.mem_filterMap, Option.ite_none_left_eq_some, Option.some.injEq, Nat.pos_iff_ne_zero,
    eq_comm (a := it)]

/-- R39, column ACTUAL. -/
theorem mem_actualItems {s : State} {it : Item} :
    it ∈ actualItems s ↔
      it ∈ lightshipItems s.ship
      ∨ (∃ c k, tget s.ship.cranes c.num = some k ∧ k.present ≠ 0
          ∧ (it = boomItem k (s.cond.hooks.get c).tip ∨ it = hookItem (s.cond.hooks.get c)))
      ∨ (∃ q ∈ s.cond.lots, it ∈ actualLot s q)
      ∨ it ∈ tankItems s.ship (tankNow s) := by
  have hall : s.cond.lots.filter (fun p => decide (some p.1 ≠ none)) = s.cond.lots := by simp
  simp only [actualItems, gatherActual, hall, List.mem_append, List.mem_flatMap, mem_map_presentCranes, and_or_left,
    exists_or, List.not_mem_nil, or_false, or_assoc, tipNow, hookNow]

/-- R39, column PLAN. -/
theorem mem_planItemsOf {ship : ShipData} {lots : Table Lot} {tanks : Table TankRow} {it : Item} :
    it ∈ planItemsOf ship lots tanks ↔
      it ∈ lightshipItems ship
      ∨ (∃ c k, tget ship.cranes (CraneId.num c) = some k ∧ k.present ≠ 0 ∧ it = boomItem k k.park)
      ∨ (∃ q ∈ lots, it ∈ planLot q)
      ∨ it ∈ tankItems ship (tankPlanned tanks) := by
  simp only [planItemsOf, List.mem_append, List.mem_flatMap, mem_map_presentCranes, or_assoc]

/-- PLAN counts a tank's target mass, or its contents with no target set. -/
theorem tankPlanned_eq (tanks : Table TankRow) (t : Nat) :
    tankPlanned tanks t =
      ((match ((tget tanks t).getD TankRow.fresh).target with
        | some g => g.contents | none => ((tget tanks t).getD TankRow.fresh).contents),
       (match ((tget tanks t).getD TankRow.fresh).target with
        | some g => g.density | none => ((tget tanks t).getD TankRow.fresh).density)) := by
  unfold tankPlanned
  dsimp only
  cases ((tget tanks t).getD TankRow.fresh).target <;> rfl

/-! ### The lots counted (R39, R154) -/

/-- R154: the lead of a lift, or its single crane, from the crane flags of its lot. -/
theorem leadOf_eq {s : State} {a b : Bool} {c : CraneId}
    (h : (c = .one ∧ a = true ∧ (b = true → (s.liftRec .one).role ≠ some .partner))
      ∨ (c = .two ∧ b = true ∧ (a = true → (s.liftRec .one).role = some .partner))) : leadOf s a b = c := by
  obtain ⟨rfl, rfl, hr⟩ | ⟨rfl, rfl, hr⟩ := h
  · cases b with
    | false => rfl
    | true => simp [leadOf, hr rfl]
  · cases a with
    | false => rfl
    | true => simp [leadOf, hr rfl]

theorem lotItems_planned {s : State} {n : Nat} {k : Lot} (hk : k.state = .planned) :
    actualLot s (n, k) = [] ∧ planLot (n, k) = [lotItem n k.declared k.loc k.footprint] := by
  simp [actualLot, planLot, hk]

theorem lotItems_aboard {s : State} {n : Nat} {k : Lot} (hk : k.state = .aboard) :
    actualLot s (n, k) = [lotItem n k.mass k.loc k.footprint]
      ∧ planLot (n, k) = if k.mark then [] else [lotItem n k.mass k.loc k.footprint] := by
  simp [actualLot, planLot, hk]

theorem actualLot_lifting {s : State} {n : Nat} {k : Lot} {o : LotOrigin} {dir : Direction} {a b : Bool} {c : CraneId}
    (hk : k.state = .lifting o dir a b) (hc : leadOf s a b = c) :
    actualLot s (n, k) = aboardPart n k dir (s.liftRec c) (hookSum s a b) (s.cond.hooks.get c).tip := by
  simp [actualLot, hk, hc]

section
variable {n h : Nat} {k : Lot} {dir : Direction} {r : LiftRecord} {tip : Pos}

/-- R154: before the lot hangs it counts where it lies, and not at all while it is still ashore. -/
theorem aboardPart_before (hr : r.state ∈ [LiftState.pairing, .requested, .cleared]) :
    aboardPart n k dir r h tip = if dir = .load then [] else [lotItem n (k.mass - h) k.loc k.footprint] := by
  simp only [List.mem_cons, List.not_mem_nil, or_false] at hr
  obtain hr | hr | hr := hr <;> (simp only [aboardPart, hr]; cases dir <;> rfl)

theorem aboardPart_hoisted (hr : r.state = .hoisted) :
    aboardPart n k dir r h tip =
      if dir = .load then [tipItem n (k.measured.getD 0 - h) tip] else [lotItem n (k.mass - h) k.loc k.footprint] := by
  simp only [aboardPart, hr]
  cases dir <;> rfl

theorem aboardPart_lowering_aboard {loc : Loc} (hr : r.state = .lowering) (hl : r.landing = some (.aboard loc)) :
    aboardPart n k dir r h tip = [lotItem n (k.measured.getD 0 - h) loc k.footprint] := by
  simp [aboardPart, hr, hl]

theorem aboardPart_lowering_ashore (hr : r.state = .lowering) (hl : r.landing = some .ashore) :
    aboardPart n k dir r h tip = [] := by
  simp [aboardPart, hr, hl]

theorem aboardPart_setDown {at_ : Pos} (hr : r.state = .setDown) (ht : r.setDownTip = some at_) :
    aboardPart n k dir r h tip = [tipItem n (k.measured.getD 0) at_] := by
  simp [aboardPart, hr, ht]

end

/-- R39: PLAN counts a lot being lifted where it is to be loaded, and no more where it is discharged. -/
theorem planLot_lifting {n : Nat} {k : Lot} {o : LotOrigin} {dir : Direction} {a b : Bool}
    (hk : k.state = .lifting o dir a b) :
    planLot (n, k) = if dir = .load then [lotItem n k.declared k.loc k.footprint] else [] := by
  simp only [planLot, hk]
  cases dir <;> rfl

/-! ### The facts captured for C12 to C16 (R108, R109) -/

theorem mem_insertBy {α : Type} {key : α → Nat} {a b : α} {l : List α} : b ∈ insertBy key a l ↔ b = a ∨ b ∈ l := by
  induction l with
  | nil => simp [insertBy]
  | cons c rest ih =>
    unfold insertBy
    split
    · simp
    · simp only [List.mem_cons, ih]; tauto

theorem mem_sortBy {α : Type} {key : α → Nat} {b : α} {l : List α} : b ∈ sortBy key l ↔ b ∈ l := by
  induction l with
  | nil => rfl
  | cons c rest ih => exact mem_insertBy.trans (by simp [← ih, sortBy])

theorem mem_staleEvents {s : State} {v : Violation} :
    v ∈ staleEvents s ↔
      (∃ c, s.gate.stale.get c = true ∧ v = eventViolation .c12 c.num .event
        (match (s.liftRec c).lastReport with | some t => age s.time t | none => 0 : Nat) s.settings.hookStale)
      ∨ (∃ q ∈ s.cond.tanks, q.2.stale = true
        ∧ v = eventViolation .c12 (16 + q.1) .event (age s.time q.2.time) s.settings.tankStale) := by
  have hcrane (c : CraneId) : c ∈ bothCranes.filter (fun c => s.gate.stale.get c) ↔ s.gate.stale.get c = true := by
    simp [mem_bothCranes]
  refine List.mem_append.trans (or_congr (List.mem_map.trans ?_) (List.mem_map.trans ?_))
  · exact exists_congr fun c => and_congr (hcrane c) eq_comm
  · simp only [List.mem_filter, and_assoc, eq_comm (a := v)]

theorem headLot_eq (s : State) :
    headLot s = ((seqHead s.cond.lots s.cond.seq).bind (fun i => s.cond.seq[i]?.map SeqEntry.lot)).getD 0 := by
  unfold headLot
  cases seqHead s.cond.lots s.cond.seq <;> rfl

theorem mem_deviationEvents {s : State} {v : Violation} :
    v ∈ deviationEvents s ↔ ∃ c lr, (s.liftRec c).deviation = true ∧ (s.liftRec c).lot = some lr
      ∧ v = eventViolation .c13 lr.slot .event lr.id (headLot s) := by
  simp only [deviationEvents, mem_sortBy, List.mem_filterMap, mem_bothCranes, true_and]
  refine exists_congr fun c => ?_
  cases (s.liftRec c).deviation with
  | false => simp
  | true => cases (s.liftRec c).lot <;> simp [eq_comm (a := v)]

theorem mem_discrepancyEvents {s : State} {v : Violation} :
    v ∈ discrepancyEvents s ↔ ∃ q ∈ s.cond.lots, q.2.discrepancy = true
      ∧ v = eventViolation .c14 q.1 (if q.2.declared < q.2.measured.getD 0 then .high else .low)
          (q.2.measured.getD 0 : Nat) q.2.declared := by
  simp only [discrepancyEvents, List.mem_map, List.mem_filter, and_assoc, eq_comm (a := v)]

theorem mem_unclearedEvents {s : State} {v : Violation} :
    v ∈ unclearedEvents s ↔ ∃ c cr, tget s.ship.cranes (CraneId.num c) = some cr ∧ cr.present ≠ 0
      ∧ (s.liftRec c).state = .idle ∧ s.settings.untracked ≤ (s.cond.hooks.get c).load
      ∧ v = eventViolation .c15 c.num .high (s.cond.hooks.get c).load s.settings.untracked := by
  simp only [unclearedEvents, List.mem_map, List.mem_filter, mem_presentCranes, Bool.and_eq_true, decide_eq_true_eq,
    Prod.exists, and_assoc, eq_comm (a := v)]

theorem mem_overrunEvents {s : State} {v : Violation} :
    v ∈ overrunEvents s ↔ ∃ q ∈ s.ballast.transfers, ∃ ss sd time amount, q.2.phase = .granted ss sd time amount true
      ∧ v = eventViolation .c16 q.1 .high amount q.2.planned := by
  simp only [overrunEvents, List.mem_filterMap]
  refine exists_congr fun q => and_congr_right fun _ => ?_
  split
  case h_1 hq => simp [hq, eq_comm (a := v)]
  case h_2 hq =>
    simp only [reduceCtorEq, false_iff]
    rintro ⟨ss, sd, time, amount, hg, -⟩
    exact hq ss sd time amount hg

theorem mem_capturedEvents {s : State} {v : Violation} :
    v ∈ capturedEvents s ↔ v ∈ staleEvents s ∨ v ∈ deviationEvents s ∨ v ∈ discrepancyEvents s
      ∨ v ∈ unclearedEvents s ∨ v ∈ overrunEvents s := by
  simp only [capturedEvents, List.mem_append, or_assoc]

/-! ### The statement -/

/-- Settles O55: the publication of PLAN and TRIAL, the fields of a capture, the items of each context by its columns
of R39, the parts of a LIFTING lot by its record's state, and the captured facts class by class. -/
theorem planAndTrialPublish : Obligations.PlanAndTrialPublish := by
  unfold Obligations.PlanAndTrialPublish
  refine ⟨fun s hp => ⟨fun p hu hx => publication_publishes hp hu hx, publication_not_due⟩, fun s x => ?_,
    fun s it => ?_, fun s n k => ?_, fun s v => ?_⟩
  · refine ⟨rfl, rfl, rfl, fun hx hh => ?_, fun hx => ?_, capturePass_tainted_iff s x, fun hx => if_neg hx⟩
    · subst hx
      exact ⟨limitNameOf_eq_lift hh, congrArg (limitsOf s.settings) (limitNameOf_eq_lift hh)⟩
    · exact ⟨limitNameOf_eq_harbour hx, congrArg (limitsOf s.settings) (limitNameOf_eq_harbour hx)⟩
  · have hplan (lots : Table Lot) (tanks : Table TankRow) := mem_planItemsOf (ship := s.ship) (lots := lots)
      (tanks := tanks) (it := it)
    simp only [mem_lightshipItems, mem_tankItems, tankPlanned_eq] at hplan
    have hactual := mem_actualItems (s := s) (it := it)
    simp only [mem_lightshipItems, mem_tankItems] at hactual
    exact ⟨hactual, hplan _ _, hplan _ _⟩
  · refine ⟨lotItems_planned, lotItems_aboard, fun o dir a b c hk hc => ?_⟩
    have hlead := actualLot_lifting (n := n) hk (leadOf_eq hc)
    exact ⟨planLot_lifting hk, fun hr => hlead.trans (aboardPart_before hr),
      fun hr => hlead.trans (aboardPart_hoisted hr),
      fun hr => ⟨fun loc hl => hlead.trans (aboardPart_lowering_aboard hr hl),
        fun hl => hlead.trans (aboardPart_lowering_ashore hr hl)⟩,
      fun tip hr ht => hlead.trans (aboardPart_setDown hr ht)⟩
  · have h := mem_capturedEvents (s := s) (v := v)
    simp only [mem_staleEvents, mem_deviationEvents, mem_discrepancyEvents, mem_unclearedEvents, mem_overrunEvents,
      headLot_eq, or_assoc] at h
    exact h

end Sys2Proof.Machine
end

section
/-! Condition arithmetic: rounding, the sums of weights and buoyancies, and the classes of a result set (R47, R54 to
R56, R58, R59, R61, R65). -/

namespace Sys2Proof.Machine

/-! ### Rounding (R47) -/

/-- R47: the magnitude is that of the dividend over the divisor, a half upward. -/
theorem natAbs_rdiv {d : Int} (hd : 0 < d) (a : Int) : ((rdiv a d).natAbs : Int) = (2 * a.natAbs + d) / (2 * d) := by
  have hq : 0 ≤ (2 * (a.natAbs : Int) + d) / (2 * d) := Int.ediv_nonneg (by omega) (by omega)
  unfold rdiv
  split
  case isTrue ha =>
    have habs : (a.natAbs : Int) = -a := by omega
    rw [habs] at hq ⊢
    rw [Int.natAbs_neg, Int.natAbs_of_nonneg hq]
  case isFalse ha =>
    have habs : (a.natAbs : Int) = a := by omega
    rw [habs] at hq ⊢
    rw [Int.natAbs_of_nonneg hq]

/-- R47: the rounded quotient lies within a half of the quotient, a half moving away from zero. -/
theorem rdiv_nearest {d : Int} (hd : 0 < d) (a : Int) :
    2 * d * (rdiv a d).natAbs ≤ 2 * a.natAbs + d ∧ 2 * a.natAbs + d < 2 * d * (rdiv a d).natAbs + 2 * d := by
  rw [natAbs_rdiv hd]
  exact ⟨Int.mul_ediv_self_le (by omega), Int.lt_mul_ediv_self_add (by omega)⟩

theorem rdiv_nonneg {a d : Int} (hd : 0 < d) (ha : 0 ≤ a) : 0 ≤ rdiv a d := by
  rw [rdiv, if_neg (by omega)]
  exact Int.ediv_nonneg (by omega) (by omega)

theorem rdiv_nonpos {a d : Int} (hd : 0 < d) (ha : a ≤ 0) : rdiv a d ≤ 0 := by
  unfold rdiv
  split
  · have := Int.ediv_nonneg (a := 2 * -a + d) (b := 2 * d) (by omega) (by omega)
    omega
  · obtain rfl : a = 0 := by omega
    exact (Int.ediv_eq_zero_of_lt (by omega) (by omega)).le

/-! ### The corrected buoyancies (R61) -/

theorem sumInt_eq_sum (l : List Int) : sumInt l = l.sum := rfl

theorem argMax_lt_length {l : List Int} (h : l ≠ []) : argMax l < l.length := by
  induction l with
  | nil => exact absurd rfl h
  | cons a rest ih =>
    cases rest with
    | nil => simp [argMax]
    | cons b rest =>
      unfold argMax
      dsimp only
      split
      · simp
      · exact Nat.succ_lt_succ (ih (List.cons_ne_nil b rest))

theorem length_addAt (l : List Int) (n : Nat) (r : Int) : (addAt l n r).length = l.length := by
  induction l generalizing n with
  | nil => rfl
  | cons a rest ih =>
    cases n with
    | zero => rfl
    | succ n => exact congrArg (· + 1) (ih n)

theorem sumInt_addAt {l : List Int} {n : Nat} (h : n < l.length) (r : Int) : sumInt (addAt l n r) = sumInt l + r := by
  simp only [sumInt_eq_sum]
  induction l generalizing n with
  | nil => exact absurd h (Nat.not_lt_zero n)
  | cons a rest ih =>
    cases n with
    | zero => simp only [addAt, List.sum_cons]; omega
    | succ n =>
      have := ih (Nat.lt_of_succ_lt_succ h)
      simp only [addAt, List.sum_cons]
      omega

/-- R61: the remainder goes to one section, so the corrected buoyancies sum to the displacement. -/
theorem correctBuoyancy_balances {raw b : List Int} {rho w : Int} (h : correctBuoyancy raw rho w = some b) :
    b.length = raw.length ∧ sumInt b = w := by
  unfold correctBuoyancy at h
  dsimp only at h
  split at h
  case isTrue => cases h
  case isFalse htotal =>
    cases h
    have hraw : raw ≠ [] := by
      rintro rfl
      exact htotal rfl
    have hplace := argMax_lt_length (l := raw.map (fun v => rdiv (v * rho) 1025)) (by simpa using hraw)
    refine ⟨by simp [length_addAt], ?_⟩
    rw [sumInt_addAt (by simpa using hplace)]
    omega

/-! ### The section weights (R59) -/

theorem sumBy_eq_sum (f : Item → Int) (items : List Item) : sumBy f items = (items.map f).sum := by
  induction items with
  | nil => rfl
  | cons i items ih =>
    rw [List.map_cons, List.sum_cons, ← ih]
    rfl

/-- A sum over the sections that counts a mass in one of them is that mass. -/
theorem sum_range_single {n k : Nat} (h : k < n) (m : Int) :
    ((List.range n).map (fun s => if k = s then m else 0)).sum = m := by
  change ∑ s ∈ Finset.range n, (if k = s then m else 0) = m
  rw [Finset.sum_ite_eq, if_pos (Finset.mem_range.mpr h)]

/-- R59: every item but the lightship adds its mass to one section. -/
theorem sum_sections_items {xs : List Int} {n : Nat} {items : List Item} (h : ∀ i ∈ items, itemSection xs i < n) :
    ((List.range n).map (fun s =>
      sumBy (fun i => if i.isLightship then 0 else if itemSection xs i = s then (i.mass : Int) else 0) items)).sum
      = sumBy (fun i => if i.isLightship then 0 else (i.mass : Int)) items := by
  simp only [sumBy_eq_sum]
  induction items with
  | nil => simp
  | cons i items ih =>
    simp only [List.map_cons, List.sum_cons, List.sum_map_add]
    rw [ih fun j hj => h j (List.mem_cons_of_mem i hj)]
    congr 1
    split
    · simp
    · exact sum_range_single (h i List.mem_cons_self) _

/-- The lightship's masses by section sum to its own. -/
theorem sum_sections_light (light : List Nat) :
    ((List.range light.length).map (fun s => (light.getD s 0 : Int))).sum = (light.sum : Int) := by
  have hmap : (List.range light.length).map (fun s => (light.getD s 0 : Int))
      = light.map (fun (m : Nat) => (m : Int)) := by
    refine List.ext_getElem (by simp) fun s hs _ => ?_
    simp only [List.length_map, List.length_range] at hs
    simp [hs]
  rw [hmap]
  exact (map_list_sum (Nat.castAddMonoidHom Int) light).symm

theorem sumMass_split (items : List Item) :
    sumMass items = sumBy (fun i => if i.isLightship then (i.mass : Int) else 0) items
      + sumBy (fun i => if i.isLightship then 0 else (i.mass : Int)) items := by
  rw [sumMass, sumBy_eq_sum, sumBy_eq_sum, sumBy_eq_sum, ← List.sum_map_add]
  refine congrArg List.sum (List.map_congr_left fun i _ => ?_)
  split <;> simp

/-- R59: the section weights sum to the displacement. -/
theorem sectionWeights_balance {xs : List Int} {light : List Nat} {items : List Item} {n : Nat}
    (hlight : light.length = n)
    (hmass : sumBy (fun i => if i.isLightship then (i.mass : Int) else 0) items = (light.sum : Int))
    (hsec : ∀ i ∈ items, itemSection xs i < n) :
    sumInt ((List.range n).map (sectionWeight xs light items)) = sumMass items := by
  have hsplit : sectionWeight xs light items = fun s => (light.getD s 0 : Int)
      + sumBy (fun i => if i.isLightship then 0 else if itemSection xs i = s then (i.mass : Int) else 0) items := rfl
  rw [sumInt_eq_sum, hsplit, List.sum_map_add, sum_sections_items hsec, ← hlight, sum_sections_light, ← hmass,
    ← sumMass_split]

/-! ### The stages S5 to S10 (R54 to R58, R65) -/

/-- The quantities of S5 to S9. -/
def ResultSet.staged (r : ResultSet) : List Quantity :=
  [r.fsc, r.km, r.gm, r.heel, r.trim, r.draft, r.draftAft, r.draftFore, r.lcb, r.lcf, r.mtcm]

/-- R58: the trim and the end drafts of a set, all OUT_OF_TABLE or all VALID. -/
def ResultSet.trimmed (r : ResultSet) : Prop :=
  (∀ q ∈ [r.trim, r.draftAft, r.draftFore], q = noValue .outOfTable)
    ∨ ∃ t aft, r.trim = valid t ∧ r.draftAft = valid aft ∧ r.draftFore = valid (aft - t)

/-- R54 to R56, R58: what the stages after S4 form on the hydrostatic table. -/
structure OnTable (r : ResultSet) : Prop where
  columns : ∀ q ∈ [r.fsc, r.km, r.draft, r.lcb, r.lcf, r.mtcm], q.cls = .valid
  gm : r.gm = valid (r.km.val - r.vcg.val - r.fsc.val)
  heel : (r.heel, r.clamped) = heelOf r.tcg.val r.gm.val
  trim : r.trimmed

section
variable (d : ShipData) (rho : Nat) (gen : Count32) (tainted : Bool) (items : List Item)

/-- R51, R53: what a set carries on and off the table. -/
theorem evaluate_sums :
    (evaluate d rho gen tainted items).gen = gen ∧ (evaluate d rho gen tainted items).tainted = tainted
      ∧ (evaluate d rho gen tainted items).w = ⟨.valid, sumMass items⟩
      ∧ (evaluate d rho gen tainted items).wStd = ⟨.valid, rdiv (sumMass items * 1025) rho⟩ := by
  unfold evaluate
  dsimp only
  split
  · exact ⟨rfl, rfl, rfl, rfl⟩
  · split
    · exact ⟨rfl, rfl, rfl, rfl⟩
    · split <;> exact ⟨rfl, rfl, rfl, rfl⟩

variable {d rho}

/-- R54, R65: with no hydrostatics every later quantity is OUT_OF_TABLE. -/
theorem evaluate_off_table (h : hydrostatics (hydroRows d) (rdiv (sumMass items * 1025) rho) = none) :
    (∀ q ∈ (evaluate d rho gen tainted items).staged, q = ⟨.outOfTable, 0⟩)
      ∧ (evaluate d rho gen tainted items).strength = .outOfTable := by
  unfold evaluate
  simp only [h]
  exact ⟨by simp [ResultSet.staged, noValue], trivial⟩

theorem evaluate_on_table {y : Hydro} (h : hydrostatics (hydroRows d) (rdiv (sumMass items * 1025) rho) = some y) :
    OnTable (evaluate d rho gen tainted items) := by
  unfold evaluate
  simp only [h]
  split
  case isTrue => exact ⟨by simp [valid], rfl, rfl, .inl (by simp)⟩
  case isFalse =>
    split <;> exact ⟨by simp [valid], rfl, rfl, .inr ⟨_, _, rfl, rfl, rfl⟩⟩

end

/-- R54: above the last row there are no hydrostatics. -/
theorem hydrostatics_above {rows : List HydroRow} {last : HydroRow} {w : Int} (hlast : rows.getLast? = some last)
    (hw : (last.disp : Int) < w) : hydrostatics rows w = none := by
  simp [hydrostatics, hlast, hw]

/-- R56: a GM of 0 or less leaves the heel UNDEFINED. -/
theorem heelOf_of_nonpos {gm : Int} (h : gm ≤ 0) (tcg : Int) : heelOf tcg gm = (⟨.undefined, 0⟩, false) := by
  simp [heelOf, h, noValue]

/-- R56: the heel is the rounded tangent held within 30,000 either way, CLAMPED where it lay beyond. -/
theorem heelOf_of_pos {gm : Int} (h : 0 < gm) (tcg : Int) :
    heelOf tcg gm = (⟨.valid, max (-30000) (min 30000 (rdiv (tcg * 10000) gm))⟩,
      decide (30000 < (rdiv (tcg * 10000) gm).natAbs)) := by
  unfold heelOf
  rw [if_neg (by omega)]
  generalize rdiv (tcg * 10000) gm = raw
  dsimp only [valid]
  by_cases hhigh : 30000 < raw
  · rw [if_pos hhigh, decide_eq_true (by omega)]
    congr 2
    omega
  · rw [if_neg hhigh]
    by_cases hlow : raw < -30000
    · rw [if_pos hlow, decide_eq_true (by omega)]
      congr 2
      omega
    · rw [if_neg hlow, decide_eq_false (by omega)]
      congr 2
      omega

/-- R65: a heel that is not VALID carries 0. -/
theorem heelOf_noValue {tcg gm : Int} (h : (heelOf tcg gm).1.cls ≠ .valid) : (heelOf tcg gm).1.val = 0 := by
  by_cases hgm : gm ≤ 0
  · rw [heelOf_of_nonpos hgm]
  · rw [heelOf_of_pos (Int.not_le.mp hgm)] at h
    exact absurd rfl h

/-- R65: on the table a quantity that is not VALID carries 0. -/
theorem OnTable.zero_of_not_valid {r : ResultSet} (h : OnTable r) : ∀ q ∈ r.staged, q.cls ≠ .valid → q.val = 0 := by
  have hheel : r.heel.cls ≠ .valid → r.heel.val = 0 := by
    rw [show r.heel = (heelOf r.tcg.val r.gm.val).1 from congrArg Prod.fst h.heel]
    exact heelOf_noValue
  have hgm : r.gm.cls = .valid := congrArg Quantity.cls h.gm
  have htrim : ∀ q ∈ [r.trim, r.draftAft, r.draftFore], q.cls ≠ .valid → q.val = 0 := by
    obtain hout | ⟨t, aft, ht, ha, hf⟩ := h.trim
    · intro q hq _
      rw [hout q hq]
      rfl
    · simp [ht, ha, hf, valid]
  have hcol := h.columns
  simp only [List.forall_mem_cons] at hcol htrim
  obtain ⟨ht, ha, hf, -⟩ := htrim
  simpa [ResultSet.staged, hcol, hgm] using ⟨hheel, ht, ha, hf⟩

/-- R56: the heel of a set on the table, by the sign of its GM. -/
theorem OnTable.heel_cases {r : ResultSet} (h : OnTable r) :
    (r.gm.val ≤ 0 → r.heel = ⟨.undefined, 0⟩ ∧ r.clamped = false)
      ∧ (0 < r.gm.val → r.heel = ⟨.valid, max (-30000) (min 30000 (rdiv (r.tcg.val * 10000) r.gm.val))⟩
        ∧ r.clamped = decide (30000 < (rdiv (r.tcg.val * 10000) r.gm.val).natAbs)) :=
  ⟨fun hgm => Prod.mk.inj (h.heel.trans (heelOf_of_nonpos hgm _)),
    fun hgm => Prod.mk.inj (h.heel.trans (heelOf_of_pos hgm _))⟩

/-- R58: the aft draft less the forward draft is the trim. -/
theorem OnTable.drafts {r : ResultSet} (h : OnTable r) (ht : r.trim.cls = .valid) :
    r.draftAft.val - r.draftFore.val = r.trim.val := by
  obtain hout | ⟨t, aft, htrim, ha, hf⟩ := h.trim
  · rw [hout _ List.mem_cons_self] at ht
    cases ht
  · rw [htrim, ha, hf]
    exact Int.sub_sub_self aft t

/-! ### The statement -/

/-- Settles O53: rounding and the two sums by their own lemmas, and the result set by whether the displacement lies on
the hydrostatic table. -/
theorem evaluationBalances : Obligations.EvaluationBalances := by
  unfold Obligations.EvaluationBalances
  refine ⟨fun a d hd => ?_, fun raw rho w b => correctBuoyancy_balances,
    fun xs light items _ hlight hmass hsec => sectionWeights_balance hlight hmass hsec,
    fun d rho gen tainted items => ?_⟩
  · obtain ⟨hlow, hhigh⟩ := rdiv_nearest hd a
    exact ⟨hlow, hhigh, rdiv_nonneg hd, rdiv_nonpos hd⟩
  · obtain ⟨hgen, htainted, hw, hstd⟩ := evaluate_sums d rho gen tainted items
    refine ⟨hgen, htainted, hw, hstd, fun last hlast habove => ?_, ?_⟩
    · rw [hstd] at habove
      exact evaluate_off_table gen tainted items (hydrostatics_above hlast habove)
    · cases hh : hydrostatics (hydroRows d) (rdiv (sumMass items * 1025) rho) with
      | none =>
        obtain ⟨hout, -⟩ := evaluate_off_table gen tainted items hh
        have hgm := hout _ (show (evaluate d rho gen tainted items).gm ∈ _ by simp [ResultSet.staged])
        have htrim := hout _ (show (evaluate d rho gen tainted items).trim ∈ _ by simp [ResultSet.staged])
        refine ⟨fun h => ?_, fun h => ?_, fun q hq _ => congrArg Quantity.val (hout q hq)⟩
        · simp [hgm] at h
        · simp [htrim] at h
      | some y =>
        have hon := evaluate_on_table gen tainted items hh
        exact ⟨fun _ => ⟨congrArg Quantity.val hon.gm, hon.heel_cases⟩, hon.drafts, hon.zero_of_not_valid⟩

end Sys2Proof.Machine
end

section
/-! Prediction demands and decision rounds: which demands are held after each operation, and what a round makes of each
entry of the gate queue (R78, R139, R140, R164). -/

namespace Sys2Proof.Machine

/-! ### Prediction demands (R77, R78) -/

/-- R78: the demand is held, WAITING or IN FLIGHT. -/
def State.demanded (s : State) (k : DemandKey) : Prop := k ∈ s.eval.waiting ∨ s.eval.unit.predictsFor k = true

theorem demanded_congr {s t : State} (hw : t.eval.waiting = s.eval.waiting) (hu : t.eval.unit = s.eval.unit)
    (k : DemandKey) : t.demanded k ↔ s.demanded k := by
  simp only [State.demanded, hw, hu]

theorem demanded_postDemand (j k : DemandKey) (s : State) :
    (postDemand k s).demanded j ↔ j = k ∨ s.demanded j := by
  unfold postDemand
  split
  case isTrue hheld =>
    have hk : s.demanded k := by simpa [State.demanded] using hheld
    refine ⟨.inr, ?_⟩
    rintro (rfl | hj)
    · exact hk
    · exact hj
  case isFalse =>
    simp only [State.demanded, List.mem_append, List.mem_singleton]
    tauto

theorem demanded_withdrawDemand (j k : DemandKey) (s : State) :
    (withdrawDemand k s).demanded j ↔ j ≠ k ∧ s.demanded j := by
  have hunit : (if s.eval.unit.predictsFor k then UnitState.idle else s.eval.unit).predictsFor j = true
      ↔ j ≠ k ∧ s.eval.unit.predictsFor j = true := by
    cases s.eval.unit with
    | idle => simp [UnitState.predictsFor]
    | pass p => simp [UnitState.predictsFor]
    | predicting p =>
      by_cases hp : p.key = k
      · simp only [UnitState.predictsFor, hp, decide_true, if_true, decide_eq_true_eq, Bool.false_eq_true, false_iff]
        rintro ⟨hne, rfl⟩
        exact hne rfl
      · simp only [UnitState.predictsFor, hp, decide_false, Bool.false_eq_true, if_false, decide_eq_true_eq]
        refine ⟨fun h => ⟨?_, h⟩, And.right⟩
        rintro rfl
        exact hp h
  simp only [State.demanded, withdrawDemand, List.mem_filter, decide_eq_true_eq, hunit]
  tauto

theorem mem_waiting_of_firstDemand {s : State} {k : DemandKey} (h : firstDemand s = some k) : k ∈ s.eval.waiting := by
  have := List.find?_some h
  simp only [Bool.and_eq_true, List.contains_iff_mem] at this
  exact this.1

theorem demanded_beginPass {s : State} (h : s.eval.unit = .idle) (x : Ctx) (n : Nat) (k : DemandKey) :
    (beginPass x n s).demanded k ↔ s.demanded k := by
  cases x <;> simp [State.demanded, beginPass, Eval.clean, UnitState.predictsFor, h]

/-- R79: a demand that becomes IN FLIGHT is still held, and no other goes. -/
theorem demanded_beginPrediction {s : State} (h : s.eval.unit = .idle) {j : DemandKey} (hj : j ∈ s.eval.waiting)
    (k : DemandKey) : (beginPrediction j s).demanded k ↔ s.demanded k := by
  have hkey : (capturePrediction s j).key = j := by
    unfold capturePrediction
    dsimp only
    repeat' split
    all_goals rfl
  by_cases hk : k = j
  · subst hk
    simp [State.demanded, beginPrediction, UnitState.predictsFor, hkey, hj]
  · simp [State.demanded, beginPrediction, UnitState.predictsFor, hkey, h, hk, Ne.symm hk]

/-- R77: the arbiter's choice takes up a demand or a pass, and every demand held stays so. -/
theorem demanded_choose {s : State} (h : s.eval.unit = .idle) (k : DemandKey) :
    (choose s).demanded k ↔ s.demanded k := by
  unfold choose
  split
  · exact demanded_beginPass h _ _ k
  · split
    case h_1 j hj => exact demanded_beginPrediction h (mem_waiting_of_firstDemand hj) k
    case h_2 =>
      split
      · exact demanded_beginPass h _ _ k
      · split
        · exact demanded_beginPass h _ _ k
        · rfl

theorem demanded_settle (s : State) (k : DemandKey) : (settle s).demanded k ↔ s.demanded k := by
  have hkick : (kick s).demanded k ↔ s.demanded k := by
    unfold kick
    split
    case isTrue h => exact demanded_choose h.2 k
    case isFalse => rfl
  exact (demanded_congr (by simp [settle]) (by simp [settle]) k).trans hkick

/-! ### The ruling on an entry (R140, R164) -/

/-- R140, R164: what stops an entry, if anything does. -/
def ruling (s : State) : GateEntry → Option Pending
  | .lift r => liftStop s r (actualTainted s)
  | .transfer id => if actualTainted s || !endsFresh s id then some .stale else none

/-- An entry that is stopped: its reason is written and its demand withdrawn. -/
def stopEntry (p : Pending) (s : State) : GateEntry → State
  | .lift r => stopLift r p s
  | .transfer id => withdrawDemand (.transfer id) (setTransferReason id p s)

theorem decideEntry_eq (s : State) (e : GateEntry) :
    decideEntry s e = (ruling s e).elim (postDemand e.key s) (fun p => stopEntry p s e) := by
  cases e with
  | lift r =>
    simp only [decideEntry, ruling]
    cases liftStop s r (actualTainted s) <;> rfl
  | transfer id =>
    simp only [decideEntry, ruling]
    split <;> rfl

/-- R140: the steps that stop a lift entry, in their order. -/
theorem ruling_lift (s : State) (r : LiftRef) :
    ruling s (.lift r) =
      if s.gate.slot ≠ none then some .exclusive
      else if s.suspended = true then some .suspended
      else if actualTainted s = true ∨ ∃ c ∈ r.cranes, hookFresh s c = false then some .stale
      else if s.gate.window = false then some .window
      else none := by
  simp only [ruling, liftStop, Option.isSome_iff_ne_none, Bool.or_eq_true, List.any_eq_true, Bool.not_eq_true']

/-- R164: what stops a transfer entry. -/
theorem ruling_transfer (s : State) (id : Nat) :
    ruling s (.transfer id) = if actualTainted s = true ∨ endsFresh s id = false then some .stale else none := by
  simp only [ruling, Bool.or_eq_true, Bool.not_eq_true']

/-- The last accepted report of a crane is no part of what a round writes. -/
theorem hookFresh_congr {s t : State} {c : CraneId} (hr : (t.liftRec c).lastReport = (s.liftRec c).lastReport)
    (ht : t.time = s.time) (hs : t.settings = s.settings) : hookFresh t c = hookFresh s c := by
  simp only [hookFresh, hr, ht, hs]

theorem RoundLeaves.hookFresh {s t : State} (h : RoundLeaves s t) (c : CraneId) : hookFresh t c = hookFresh s c := by
  have hreport := congrArg LiftRecord.lastReport (h.reasons c)
  exact hookFresh_congr hreport (by rw [h.form]) (by rw [h.form])

theorem tankFresh_congr {s t : State} (hc : t.cond = s.cond) (ht : t.time = s.time) (hs : t.settings = s.settings)
    (k : Nat) : tankFresh t k = tankFresh s k := by
  rw [tankFresh, State.tankRow, hc, ht, hs]
  rfl

/-- The tank ends of the transfer under an id. -/
def State.endsOf (s : State) (id : Nat) : Option (List Nat) := (tget s.ballast.transfers id).map Transfer.tankEnds

theorem endsOf_congr {s t : State} (h : t.ballast = s.ballast) (id : Nat) : t.endsOf id = s.endsOf id := by
  rw [State.endsOf, h]
  rfl

/-- R164: whether the readings of a transfer's ends are fresh, from its ends alone. -/
theorem endsFresh_eq (s : State) (id : Nat) : endsFresh s id = (s.endsOf id).any (fun ks => ks.all (tankFresh s)) := by
  unfold endsFresh State.endsOf
  cases tget s.ballast.transfers id <;> rfl

theorem endsFresh_congr {s t : State} (hx : ∀ j, t.endsOf j = s.endsOf j)
    (hc : t.cond = s.cond) (ht : t.time = s.time) (hs : t.settings = s.settings) (id : Nat) :
    endsFresh t id = endsFresh s id := by
  have htank : tankFresh t = tankFresh s := funext (tankFresh_congr hc ht hs)
  rw [endsFresh_eq, endsFresh_eq, hx, htank]

theorem tget_setTransferReason (id j : Nat) (p : Pending) (s : State) :
    tget (setTransferReason id p s).ballast.transfers j =
      if j = id then (tget s.ballast.transfers j).map (Transfer.setReason p) else tget s.ballast.transfers j := by
  unfold setTransferReason
  by_cases hj : j = id
  · subst hj
    cases hx : tget s.ballast.transfers j <;> simp [hx, State.setTransfers]
  · rw [if_neg hj]
    split
    · exact tget_tput_ne hj
    · rfl

theorem tankEnds_setReason (p : Pending) (x : Transfer) : (x.setReason p).tankEnds = x.tankEnds := by
  unfold Transfer.setReason
  split <;> rfl

theorem setReason_setReason (p : Pending) (x : Transfer) : (x.setReason p).setReason p = x.setReason p := by
  obtain ⟨a, b, m, phase⟩ := x
  cases phase <;> rfl

/-! ### One entry of a round -/

/-- What a ruling writes of a lift record. -/
def LiftRecord.ruled (v : Option Pending) (r : LiftRecord) : LiftRecord := v.elim r (fun p => setReason p r)

/-- What a ruling writes of a transfer. -/
def Transfer.ruled (v : Option Pending) (x : Transfer) : Transfer := v.elim x (fun p => x.setReason p)

section
variable (s : State) (e : GateEntry)

theorem decideEntry_demanded_self : (decideEntry s e).demanded e.key ↔ ruling s e = none := by
  rw [decideEntry_eq]
  cases ruling s e with
  | none => simp [demanded_postDemand]
  | some p => cases e <;> simp [stopEntry, stopLift, GateEntry.key, demanded_withdrawDemand]

theorem decideEntry_demanded_other {k : DemandKey} (h : e.key ≠ k) :
    (decideEntry s e).demanded k ↔ s.demanded k := by
  rw [decideEntry_eq]
  cases ruling s e with
  | none => simp [demanded_postDemand, h.symm]
  | some p =>
    cases e with
    | lift r =>
      have hne : k ≠ .lift r.lead := Ne.symm h
      rw [Option.elim_some, stopEntry, stopLift, demanded_withdrawDemand, and_iff_right hne]
      exact demanded_congr (by simp) (by simp) k
    | transfer id =>
      have hne : k ≠ .transfer id := Ne.symm h
      rw [Option.elim_some, stopEntry, demanded_withdrawDemand, and_iff_right hne]
      exact demanded_congr (by simp) (by simp) k

theorem decideEntry_liftRec_self {r : LiftRef} {c : CraneId} (hc : c ∈ r.cranes) :
    (decideEntry s (.lift r)).liftRec c = (s.liftRec c).ruled (ruling s (.lift r)) := by
  rw [decideEntry_eq]
  cases ruling s (.lift r) with
  | none => simp [State.liftRec, LiftRecord.ruled]
  | some p => exact (onRecs_liftRec (f := setReason p) (fun _ => rfl) r.cranes c s).trans (if_pos hc)

theorem decideEntry_liftRec_other {c : CraneId} (h : ∀ r, e = .lift r → c ∉ r.cranes) :
    (decideEntry s e).liftRec c = s.liftRec c := by
  rw [decideEntry_eq]
  cases ruling s e with
  | none => simp [State.liftRec]
  | some p =>
    cases e with
    | lift r => exact (onRecs_liftRec (f := setReason p) (fun _ => rfl) r.cranes c s).trans (if_neg (h r rfl))
    | transfer id => simp [stopEntry, State.liftRec]

theorem decideEntry_transfer_self (id : Nat) :
    tget (decideEntry s (.transfer id)).ballast.transfers id =
      (tget s.ballast.transfers id).map (Transfer.ruled (ruling s (.transfer id))) := by
  rw [decideEntry_eq]
  cases ruling s (.transfer id) with
  | none => cases h : tget s.ballast.transfers id <;> simp [Transfer.ruled, h]
  | some p => exact (tget_setTransferReason id id p s).trans (if_pos rfl)

theorem decideEntry_transfer_other {id : Nat} (h : e ≠ .transfer id) :
    tget (decideEntry s e).ballast.transfers id = tget s.ballast.transfers id := by
  rw [decideEntry_eq]
  cases ruling s e with
  | none => simp
  | some p =>
    cases e with
    | lift r => simp [stopEntry, stopLift]
    | transfer j =>
      refine (tget_setTransferReason j id p s).trans (if_neg ?_)
      rintro rfl
      exact h rfl

theorem decideEntry_ends (id : Nat) : (decideEntry s e).endsOf id = s.endsOf id := by
  unfold State.endsOf
  by_cases h : e = .transfer id
  · subst h
    rw [decideEntry_transfer_self, Option.map_map]
    congr 1
    funext x
    cases ruling s (.transfer id) with
    | none => rfl
    | some p => exact tankEnds_setReason p x
  · rw [decideEntry_transfer_other s e h]

end

/-- No entry's ruling turns on what a round writes. -/
theorem ruling_congr {s t : State} (h : RoundLeaves s t) (hx : ∀ j, t.endsOf j = s.endsOf j)
    (e : GateEntry) : ruling t e = ruling s e := by
  have hslot : t.gate.slot = s.gate.slot := by rw [h.form]
  have hwindow : t.gate.window = s.gate.window := by rw [h.form]
  have hsusp : t.suspended = s.suspended := by rw [h.form]; rfl
  have hset : actualTainted t = actualTainted s := by
    have hactual : t.eval.actual = s.eval.actual := by rw [h.form]
    simp only [actualTainted, hactual]
  cases e with
  | lift r => simp only [ruling_lift, hslot, hwindow, hset, hsusp, h.hookFresh]
  | transfer id =>
    rw [ruling_transfer, ruling_transfer, hset,
      endsFresh_congr hx (by rw [h.form]) (by rw [h.form]) (by rw [h.form])]

theorem ruling_decideEntry (s : State) (d e : GateEntry) : ruling (decideEntry s d) e = ruling s e :=
  ruling_congr (decideEntry_leaves s d) (decideEntry_ends s d) e

/-! ### A whole round (R139)

A part of the state that only the entries of one kind touch reads after a round as their common ruling left it. -/

section
variable {β : Type} {read : State → β} {touches : GateEntry → Prop} {write : Option Pending → β → β}

theorem foldl_decideEntry_skips (hskip : ∀ s e, ¬ touches e → read (decideEntry s e) = read s) {q : List GateEntry}
    {s : State} (hq : ∀ e ∈ q, ¬ touches e) : read (q.foldl decideEntry s) = read s := by
  induction q generalizing s with
  | nil => rfl
  | cons e q ih =>
    exact (ih fun d hd => hq d (List.mem_cons_of_mem e hd)).trans (hskip s e (hq e List.mem_cons_self))

theorem foldl_decideEntry_writes (hskip : ∀ s e, ¬ touches e → read (decideEntry s e) = read s)
    (hdo : ∀ s e, touches e → read (decideEntry s e) = write (ruling s e) (read s))
    (htwice : ∀ v b, write v (write v b) = write v b) {q : List GateEntry} {s : State} {v : Option Pending}
    (hv : ∀ e ∈ q, touches e → ruling s e = v) (hq : ∃ e ∈ q, touches e) :
    read (q.foldl decideEntry s) = write v (read s) := by
  induction q generalizing s with
  | nil =>
    obtain ⟨e, he, -⟩ := hq
    cases he
  | cons e q ih =>
    have htail : ∀ d ∈ q, touches d → ruling (decideEntry s e) d = v := fun d hd hc =>
      (ruling_decideEntry s e d).trans (hv d (List.mem_cons_of_mem e hd) hc)
    have hhead (hc : touches e) : read (decideEntry s e) = write v (read s) := by
      rw [hdo s e hc, hv e List.mem_cons_self hc]
    by_cases hrest : ∃ d ∈ q, touches d
    · refine (ih htail hrest).trans ?_
      by_cases hc : touches e
      · rw [hhead hc, htwice]
      · rw [hskip s e hc]
    · obtain ⟨d, hd, hc⟩ := hq
      obtain rfl : d = e := (List.mem_cons.mp hd).resolve_right fun hd => hrest ⟨d, hd, hc⟩
      exact (foldl_decideEntry_skips hskip fun d hd hc => hrest ⟨d, hd, hc⟩).trans (hhead hc)

end

section
variable {s : State} {v : Option Pending}

theorem ruling_decisionRound (s : State) (e : GateEntry) : ruling (decisionRound s) e = ruling s e :=
  foldl_decideEntry_skips (read := fun u => ruling u e) (touches := fun _ => False)
    (fun u d _ => ruling_decideEntry u d e) fun _ _ => not_false

theorem decisionRound_ends (s : State) (id : Nat) : (decisionRound s).endsOf id = s.endsOf id :=
  foldl_decideEntry_skips (read := fun u => u.endsOf id) (touches := fun _ => False)
    (fun u d _ => decideEntry_ends u d id) fun _ _ => not_false

/-- R139: the demand of the entries under a key is held after the round when their ruling stops none of them. -/
theorem decisionRound_demanded {k : DemandKey} (hv : ∀ e ∈ s.gate.queue, e.key = k → ruling s e = v)
    (hq : ∃ e ∈ s.gate.queue, e.key = k) : (decisionRound s).demanded k ↔ v = none := by
  refine iff_of_eq (foldl_decideEntry_writes (read := fun u => u.demanded k) (touches := fun e => e.key = k)
    (write := fun v _ => v = none) (fun u e h => propext (decideEntry_demanded_other u e h)) (fun u e h => ?_)
    (fun _ _ => rfl) hv hq)
  subst h
  exact propext (decideEntry_demanded_self u e)

theorem decisionRound_demanded_other {k : DemandKey} (hq : ∀ e ∈ s.gate.queue, e.key ≠ k) :
    (decisionRound s).demanded k ↔ s.demanded k :=
  iff_of_eq (foldl_decideEntry_skips (read := fun u => u.demanded k) (touches := fun e => e.key = k)
    (fun u e h => propext (decideEntry_demanded_other u e h)) hq)

theorem LiftRecord.ruled_ruled (v : Option Pending) (r : LiftRecord) : (r.ruled v).ruled v = r.ruled v := by
  cases v <;> rfl

theorem Transfer.ruled_ruled (v : Option Pending) (x : Transfer) : (x.ruled v).ruled v = x.ruled v := by
  cases v with
  | none => rfl
  | some p => exact setReason_setReason p x

/-- R139: the record of a crane of an entry carries the entry's ruling after the round. -/
theorem decisionRound_liftRec {c : CraneId}
    (hv : ∀ r, GateEntry.lift r ∈ s.gate.queue → c ∈ r.cranes → ruling s (.lift r) = v)
    (hq : ∃ r, GateEntry.lift r ∈ s.gate.queue ∧ c ∈ r.cranes) :
    (decisionRound s).liftRec c = (s.liftRec c).ruled v := by
  refine foldl_decideEntry_writes (read := fun u => u.liftRec c)
    (touches := fun e => ∃ r, e = .lift r ∧ c ∈ r.cranes)
    (fun u e h => decideEntry_liftRec_other u e fun r he hc => h ⟨r, he, hc⟩) ?_ LiftRecord.ruled_ruled ?_ ?_
  · rintro u _ ⟨r, rfl, hc⟩
    exact decideEntry_liftRec_self u hc
  · rintro _ he ⟨r, rfl, hc⟩
    exact hv r he hc
  · obtain ⟨r, hr, hc⟩ := hq
    exact ⟨_, hr, r, rfl, hc⟩

theorem decisionRound_liftRec_other {c : CraneId} (hq : ∀ r, GateEntry.lift r ∈ s.gate.queue → c ∉ r.cranes) :
    (decisionRound s).liftRec c = s.liftRec c := by
  refine foldl_decideEntry_skips (read := fun u => u.liftRec c)
    (touches := fun e => ∃ r, e = .lift r ∧ c ∈ r.cranes)
    (fun u e h => decideEntry_liftRec_other u e fun r he hc => h ⟨r, he, hc⟩) ?_
  rintro _ he ⟨r, rfl, hc⟩
  exact hq r he hc

/-- R139: a transfer with an entry carries the entry's ruling after the round. -/
theorem decisionRound_transfer {id : Nat} (hq : GateEntry.transfer id ∈ s.gate.queue) :
    tget (decisionRound s).ballast.transfers id =
      (tget s.ballast.transfers id).map (Transfer.ruled (ruling s (.transfer id))) := by
  refine foldl_decideEntry_writes (read := fun u => tget u.ballast.transfers id) (touches := fun e => e = .transfer id)
    (write := fun v => Option.map (Transfer.ruled v)) (fun u e => decideEntry_transfer_other u e) ?_ (fun v b => ?_)
    ?_ ⟨_, hq, rfl⟩
  · rintro u _ rfl
    exact decideEntry_transfer_self u id
  · cases b <;> simp [Transfer.ruled_ruled]
  · rintro _ - rfl
    rfl

end

end Sys2Proof.Machine
end

section
/-! The events of a link, and the stages of a publication of ACTUAL before the gate decides (R73, R111, R113, R117). -/

namespace Sys2Proof.Machine

/-! ### Latched events (R182) -/

/-- The event is latched on the link. -/
def State.noted (s : State) (l : Link) (e : Event) : Prop := (s.links.get l).notices.getLsbD e.bit = true

theorem noted_congr {s t : State} {l : Link} (h : (t.links.get l).notices = (s.links.get l).notices) (e : Event) :
    t.noted l e ↔ s.noted l e := by
  rw [State.noted, State.noted, h]

theorem event_bit_injective : Function.Injective Event.bit := by
  intro e k
  cases e <;> cases k <;> simp [Event.bit]

theorem flag_bit (e k : Event) : e.flag.getLsbD k.bit = true ↔ k = e := by
  have hbit : k.bit < 16 := by cases k <;> decide
  simp only [Event.flag, BitVec.getLsbD_twoPow, Bool.and_eq_true, decide_eq_true_eq]
  refine ⟨fun h => (event_bit_injective h.2).symm, ?_⟩
  rintro rfl
  exact ⟨hbit, rfl⟩

/-- R182: latching an event on some links notes it there and nothing else. -/
theorem latchOn_noted (e k : Event) (ls : List Link) (s : State) (l : Link) :
    (latchOn e ls s).noted l k ↔ s.noted l k ∨ (k = e ∧ l ∈ ls) := by
  have hflag : (if l ∈ ls then e.flag else 0#16).getLsbD k.bit = true ↔ k = e ∧ l ∈ ls := by
    split
    case isTrue hl => simp [flag_bit, hl]
    case isFalse hl => simp [hl]
  rw [State.noted, latchOn_notices, BitVec.getLsbD_or, Bool.or_eq_true, hflag, State.noted]

theorem latchOn_noted_ne {e k : Event} (h : k ≠ e) (ls : List Link) (s : State) (l : Link) :
    (latchOn e ls s).noted l k ↔ s.noted l k := by
  simp [latchOn_noted, h]

theorem settle_noted (s : State) (l : Link) (k : Event) : (settle s).noted l k ↔ s.noted l k :=
  noted_congr (settle_notices s l) k

/-! ### What the monitor does with a judgement (R111, R113, R117) -/

/-- The records, the STOP count and the latched events of a state are the only part of it that changed. -/
def RecordsOnly (s t : State) : Prop :=
  t = { s with
    links := t.links
    monitor :=
      { s.monitor with first := t.monitor.first, next := t.monitor.next, stopCount := t.monitor.stopCount } }

theorem RecordsOnly.trans {a b c : State} (h : RecordsOnly a b) (g : RecordsOnly b c) : RecordsOnly a c := by
  unfold RecordsOnly at *
  rw [g, h]

theorem latchOn_recordsOnly (e : Event) (ls : List Link) (s : State) : RecordsOnly s (latchOn e ls s) := by
  rw [latchOn_form]
  rfl

theorem noteViolations_recordsOnly (kept new : List Violation) (s : State) :
    RecordsOnly s (noteViolations kept new s) := by
  have hnew : RecordsOnly s
      (if (newlyAppearing kept new).isEmpty then s else latchOn .violationNew allLinks s) := by
    split
    · exact rfl
    · exact latchOn_recordsOnly _ _ _
  unfold noteViolations
  dsimp only
  split
  · exact hnew.trans (latchOn_recordsOnly _ _ _)
  · exact hnew

theorem noteViolations_noted_ne {kept new : List Violation} {k : Event} (hn : k ≠ .violationNew)
    (hc : k ≠ .violationCleared) (s : State) (l : Link) : (noteViolations kept new s).noted l k ↔ s.noted l k := by
  unfold noteViolations
  dsimp only
  repeat' split
  all_goals simp only [latchOn_noted_ne hn, latchOn_noted_ne hc]

/-- R113: a newly appearing pair is noted on every link. -/
theorem noteViolations_noted_new {kept new : List Violation} (h : ∃ v ∈ new, standsIn kept v = false) (s : State)
    (l : Link) : (noteViolations kept new s).noted l .violationNew := by
  have hnew : (newlyAppearing kept new).isEmpty = false := by
    simpa [newlyAppearing] using h
  simp only [noteViolations, hnew, Bool.false_eq_true, if_false]
  split
  · exact (latchOn_noted_ne (by simp) _ _ _).mpr ((latchOn_noted _ _ _ _ _).mpr (.inr ⟨rfl, mem_allLinks l⟩))
  · exact (latchOn_noted _ _ _ _ _).mpr (.inr ⟨rfl, mem_allLinks l⟩)

theorem fillRecord_recordsOnly (gen : Count32) (s : State) (v : Violation) : RecordsOnly s (fillRecord gen s v) := by
  unfold fillRecord
  dsimp only
  split
  · refine RecordsOnly.trans ?_ (latchOn_recordsOnly _ _ _)
    rfl
  · exact rfl

theorem fillRecord_noted_ne {k : Event} (h : k ≠ .record) (gen : Count32) (s : State) (v : Violation) (l : Link) :
    (fillRecord gen s v).noted l k ↔ s.noted l k := by
  unfold fillRecord
  dsimp only
  split
  · exact latchOn_noted_ne h _ _ l
  · rfl

theorem fillRecords_recordsOnly (gen : Count32) (vs : List Violation) (s : State) :
    RecordsOnly s (fillRecords gen vs s) := by
  unfold fillRecords
  generalize vs.filter _ = us
  induction us generalizing s with
  | nil => rfl
  | cons v us ih => exact (fillRecord_recordsOnly gen s v).trans (ih _)

theorem fillRecords_noted_ne {k : Event} (h : k ≠ .record) (gen : Count32) (vs : List Violation) (s : State)
    (l : Link) : (fillRecords gen vs s).noted l k ↔ s.noted l k := by
  unfold fillRecords
  generalize vs.filter _ = us
  induction us generalizing s with
  | nil => rfl
  | cons v us ih => exact (ih _).trans (fillRecord_noted_ne h gen s v l)

/-! ### The set, the list and the records published (R73 steps 1 and 2) -/

/-- The state of a publication of ACTUAL when its set, its list and its records stand and suspension is judged next. -/
def observed (p : Pass) (s : State) : State :=
  let new := judgePass s.ship p (passSet s.ship p)
  fillRecords p.gen (newlyAppearing s.monitor.actual.kept new)
    (noteViolations s.monitor.actual.kept new (updateListOf p new (publishSet p (passSet s.ship p) s)))

/-- R73: a publication of ACTUAL, stage by stage. -/
theorem publish_actual {p : Pass} (h : p.ctx = .actual) (s : State) :
    publish p s = latchOn .results allLinks
      (decisionRound (recheckClearance (judgeWindow (passSet s.ship p) (autoSuspend (observed p s))))) := by
  simp only [publish, h]
  rfl

theorem observed_form {p : Pass} (h : p.ctx = .actual) (s : State) :
    observed p s = { s with
      links := (observed p s).links
      eval := { s.eval with actual := s.eval.actual.published (passSet s.ship p), unit := .idle }
      monitor :=
        { s.monitor with
          actual := updateList s.time p.gen p.limitName (judgePass s.ship p (passSet s.ship p)) s.monitor.actual
          first := (observed p s).monitor.first, next := (observed p s).monitor.next
          stopCount := (observed p s).monitor.stopCount } } := by
  have hbase (new : List Violation) : updateListOf p new (publishSet p (passSet s.ship p) s) = { s with
      eval := { s.eval with actual := s.eval.actual.published (passSet s.ship p), unit := .idle }
      monitor := { s.monitor with actual := updateList s.time p.gen p.limitName new s.monitor.actual } } := by
    simp only [updateListOf, publishSet, h, Eval.mapCtx, Monitor.setList, listOf]
  have hrec : RecordsOnly (updateListOf p (judgePass s.ship p (passSet s.ship p)) (publishSet p (passSet s.ship p) s))
      (observed p s) := (noteViolations_recordsOnly _ _ _).trans (fillRecords_recordsOnly _ _ _)
  rw [hbase] at hrec
  exact hrec

theorem observed_noted_ne {k : Event} (hn : k ≠ .violationNew) (hc : k ≠ .violationCleared) (hr : k ≠ .record)
    (p : Pass) (s : State) (l : Link) : (observed p s).noted l k ↔ s.noted l k :=
  (fillRecords_noted_ne hr _ _ _ l).trans (noteViolations_noted_ne hn hc _ l)

theorem observed_noted_new {p : Pass} {s : State}
    (h : ∃ v ∈ judgePass s.ship p (passSet s.ship p), standsIn s.monitor.actual.kept v = false) (l : Link) :
    (observed p s).noted l .violationNew :=
  (fillRecords_noted_ne (by simp) _ _ _ l).mpr (noteViolations_noted_new h _ l)

end Sys2Proof.Machine
end

section
/-! The lift gate at a publication of ACTUAL: suspension, the standing clearance and the decision round that follows
(R120, R122, R139, R141, R145). -/

namespace Sys2Proof.Machine

/-! ### What the gate leaves alone -/

/-- What suspension, a withdrawal and a decision round leave of a state. -/
structure GateActs (s t : State) : Prop where
  frame : Untouched s t
  mode : t.mode = s.mode
  cond : t.cond = s.cond
  log : t.ballast.log = s.ballast.log
  lists : ∀ x, listOf t x = listOf s x
  set : t.eval.actual.set = s.eval.actual.set
  sticky : t.eval.actual.sticky = s.eval.actual.sticky
  notices : ∀ l e, e ≠ .suspend → e ≠ .lift → (t.noted l e ↔ s.noted l e)

theorem GateActs.refl (s : State) : GateActs s s :=
  ⟨.refl s, rfl, rfl, rfl, fun _ => rfl, rfl, rfl, fun _ _ _ _ => Iff.rfl⟩

theorem GateActs.trans {a b c : State} (h : GateActs a b) (g : GateActs b c) : GateActs a c where
  frame := h.frame.trans g.frame
  mode := g.mode.trans h.mode
  cond := g.cond.trans h.cond
  log := g.log.trans h.log
  lists := fun x => (g.lists x).trans (h.lists x)
  set := g.set.trans h.set
  sticky := g.sticky.trans h.sticky
  notices := fun l e hs hl => (g.notices l e hs hl).trans (h.notices l e hs hl)

/-- The state of a withdrawal before its decision round. -/
def requeueLift (r : LiftRef) (p : Pending) (s : State) : State :=
  let s := (withdrawDemand .recheck s).onRecs r.cranes (LiftRecord.requeued s.time p)
  let s := clearStale r.cranes (s.setSlot none)
  advanceActual (latchLift r.cranes (s.setQueue (.lift r :: s.gate.queue)))

theorem withdrawClearance_eq (r : LiftRef) (p : Pending) (s : State) :
    withdrawClearance r p s = decisionRound (requeueLift r p s) := rfl

/-- Suspension in force from a cause, with its event latched. -/
def suspendedBy (c : SuspendCause) (s : State) : State :=
  latchOn .suspend allLinks
    { s with monitor := { s.monitor with suspension := some { cause := c, time := s.time } } }

theorem decisionRound_noted (s : State) (l : Link) (e : Event) : (decisionRound s).noted l e ↔ s.noted l e :=
  noted_congr (by simp) e

theorem decisionRound_gateActs (s : State) : GateActs s (decisionRound s) where
  frame := ⟨by simp, by simp, by simp, by simp, by simp, by simp, by simp, by simp, by simp, by simp, by simp, by simp,
    by simp⟩
  mode := by simp
  cond := by simp
  log := by simp
  lists := fun x => by cases x <;> simp [listOf]
  set := by simp
  sticky := by simp
  notices := fun l e _ _ => decisionRound_noted s l e

theorem requeueLift_noted (r : LiftRef) (p : Pending) (s : State) (j : Link) (e : Event) :
    (requeueLift r p s).noted j e ↔ s.noted j e ∨ (e = .lift ∧ (j = .l0 ∨ j ∈ r.cranes.map CraneId.link)) := by
  have hlinks := latchOn_noted .lift e (r.cranes.map CraneId.link ++ [.l0])
    ((clearStale r.cranes (((withdrawDemand .recheck s).onRecs r.cranes (LiftRecord.requeued s.time p)).setSlot
      none)).setQueue (.lift r :: s.gate.queue)) j
  refine ((noted_congr (by simp [requeueLift, latchLift]) e).trans hlinks).trans (or_congr ?_ ?_)
  · exact noted_congr (by simp) e
  · simp only [List.mem_append, List.mem_singleton, or_comm]

theorem requeueLift_gateActs (r : LiftRef) (p : Pending) (s : State) : GateActs s (requeueLift r p s) where
  frame := by
    refine ⟨?_, ?_, ?_, ?_, ?_, ?_, ?_, ?_, ?_, ?_, ?_, ?_, ?_⟩
    all_goals simp [requeueLift]
  mode := by simp [requeueLift]
  cond := by simp [requeueLift]
  log := by simp [requeueLift]
  lists := fun x => by cases x <;> simp [listOf, requeueLift]
  set := by simp [requeueLift, advanceActual, CtxState.advance]
  sticky := by simp [requeueLift, advanceActual, CtxState.advance]
  notices := fun l e _ hl => by simp [requeueLift_noted, hl]

theorem suspendedBy_gateActs (c : SuspendCause) (s : State) : GateActs s (suspendedBy c s) where
  frame := by
    refine ⟨?_, ?_, ?_, ?_, ?_, ?_, ?_, ?_, ?_, ?_, ?_, ?_, ?_⟩
    all_goals simp [suspendedBy]
  mode := by simp [suspendedBy]
  cond := by simp [suspendedBy]
  log := by simp [suspendedBy]
  lists := fun x => by cases x <;> simp [listOf, suspendedBy]
  set := by simp [suspendedBy]
  sticky := by simp [suspendedBy]
  notices := fun l e hs _ => latchOn_noted_ne hs _ _ l

theorem withdrawClearance_gateActs (r : LiftRef) (p : Pending) (s : State) :
    GateActs s (withdrawClearance r p s) :=
  (requeueLift_gateActs r p s).trans (decisionRound_gateActs _)

theorem judgeWindow_gateActs (r : ResultSet) (s : State) : GateActs s (judgeWindow r s) :=
  ⟨⟨rfl, rfl, rfl, rfl, rfl, rfl, rfl, ⟨rfl, rfl⟩, ⟨rfl, rfl⟩, rfl, rfl, rfl, rfl⟩, rfl, rfl, rfl,
    fun x => by cases x <;> rfl, rfl, rfl, fun _ _ _ _ => Iff.rfl⟩

theorem postDemand_gateActs (k : DemandKey) (s : State) : GateActs s (postDemand k s) where
  frame := ⟨by simp, by simp, by simp, by simp, by simp, by simp, by simp, by simp, by simp, by simp, by simp, by simp,
    by simp⟩
  mode := by simp
  cond := by simp
  log := by simp
  lists := fun x => by cases x <;> simp [listOf]
  set := by simp
  sticky := by simp
  notices := fun l e _ _ => noted_congr (by simp) e

/-! ### Suspension entered automatically (R120, R122) -/

theorem standingClearance_congr {s t : State} (hr : t.gate.recs = s.gate.recs) (hs : t.gate.slot = s.gate.slot) :
    standingClearance t = standingClearance s := by
  unfold standingClearance State.liftRec
  rw [hr, hs]

theorem standingClearance_suspendedBy (c : SuspendCause) (s : State) :
    standingClearance (suspendedBy c s) = standingClearance s :=
  standingClearance_congr (by simp [suspendedBy]) (by simp [suspendedBy])

theorem enterSuspension_of_none {s : State} (h : standingClearance s = none) (c : SuspendCause) :
    enterSuspension c s = suspendedBy c s := by
  have hs := (standingClearance_suspendedBy c s).trans h
  unfold suspendedBy at hs
  simp only [enterSuspension, hs]
  rfl

theorem enterSuspension_of_some {s : State} {r : LiftRef} (h : standingClearance s = some r) (c : SuspendCause) :
    enterSuspension c s = withdrawClearance r .suspended (suspendedBy c s) := by
  have hs := (standingClearance_suspendedBy c s).trans h
  unfold suspendedBy at hs
  simp only [enterSuspension, hs]
  rfl

theorem enterSuspension_gateActs (c : SuspendCause) (s : State) : GateActs s (enterSuspension c s) := by
  cases h : standingClearance s with
  | none =>
    rw [enterSuspension_of_none h]
    exact suspendedBy_gateActs c s
  | some r =>
    rw [enterSuspension_of_some h]
    exact (suspendedBy_gateActs c s).trans (withdrawClearance_gateActs _ _ _)

theorem suspendedBy_suspension (c : SuspendCause) (s : State) :
    (suspendedBy c s).monitor.suspension = some ⟨c, s.time⟩ := by simp [suspendedBy]

theorem enterSuspension_suspension (c : SuspendCause) (s : State) :
    (enterSuspension c s).monitor.suspension = some ⟨c, s.time⟩ := by
  cases h : standingClearance s with
  | none => rw [enterSuspension_of_none h, suspendedBy_suspension]
  | some r => rw [enterSuspension_of_some h, withdrawClearance_monitor, suspendedBy_suspension]

theorem suspended_iff (s : State) : s.suspended = true ↔ s.monitor.suspension ≠ none := Option.isSome_iff_ne_none

/-- R120: suspension enters at this publication. -/
def Enters (s : State) : Prop := s.monitor.suspension = none ∧ firstAtTrigger s ≠ none

theorem autoSuspend_of_not_enters {s : State} (h : ¬ Enters s) : autoSuspend s = s := by
  unfold autoSuspend
  split
  · rfl
  · next hs =>
    have hnone : s.monitor.suspension = none := not_not.mp (mt (suspended_iff s).mpr hs)
    have hfirst : firstAtTrigger s = none := not_not.mp fun hv => h ⟨hnone, hv⟩
    simp only [hfirst]

theorem autoSuspend_of_first {s : State} (h : s.monitor.suspension = none) {v : Violation}
    (hv : firstAtTrigger s = some v) : autoSuspend s = enterSuspension (.automatic v.cls v.index) s := by
  have hs : s.suspended = false := by simp [State.suspended, h]
  simp [autoSuspend, hs, hv]

theorem autoSuspend_of_enters {s : State} (h : Enters s) : ∃ a, autoSuspend s = enterSuspension a s := by
  obtain ⟨hnone, hfirst⟩ := h
  obtain ⟨v, hv⟩ := Option.ne_none_iff_exists'.mp hfirst
  exact ⟨_, autoSuspend_of_first hnone hv⟩

theorem autoSuspend_gateActs (s : State) : GateActs s (autoSuspend s) := by
  unfold autoSuspend
  split
  · exact .refl s
  split
  · exact enterSuspension_gateActs _ s
  · exact .refl s

/-- R120: the cause is the first standing violation at or above the trigger. -/
theorem autoSuspend_suspension {s : State} (h : s.monitor.suspension = none) :
    (autoSuspend s).monitor.suspension =
      (firstAtTrigger s).map (fun v => ⟨.automatic v.cls v.index, s.time⟩) := by
  cases hv : firstAtTrigger s with
  | none => rw [autoSuspend_of_not_enters fun he => he.2 hv, h, Option.map_none]
  | some v => rw [autoSuspend_of_first h hv, enterSuspension_suspension, Option.map_some]

theorem autoSuspend_window (s : State) : (autoSuspend s).gate.window = s.gate.window := by
  unfold autoSuspend
  split
  · rfl
  split
  · exact enterSuspension_gate_window _ s
  · rfl

/-! ### The hoist window and the standing clearance (R141, R145) -/

theorem judgeWindow_noted (r : ResultSet) (s : State) (l : Link) (e : Event) :
    (judgeWindow r s).noted l e ↔ s.noted l e := Iff.rfl

theorem windowAfter_eq (w : Settings) (o : Bool) (h : Quantity) :
    windowAfter w o h = (decide (h.cls = .valid)
      && (decide (h.val.natAbs ≤ w.wIn) || (o && decide (h.val.natAbs ≤ w.wOut)))) := by
  unfold windowAfter Quantity.isValid
  repeat' split
  all_goals simp [*]

theorem recheckClearance_of_none {s : State} (h : standingClearance s = none) : recheckClearance s = s := by
  simp only [recheckClearance, h]

theorem recheckClearance_of_fresh {s : State} {r : LiftRef} (h : standingClearance s = some r)
    (ht : actualTainted s = false) (hf : ∀ c ∈ r.cranes, hookFresh s c = true) :
    recheckClearance s = postDemand .recheck s := by
  have hany : r.cranes.any (fun c => !hookFresh s c) = false := by simpa using hf
  simp [recheckClearance, h, ht, hany]

theorem recheckClearance_of_stale {s : State} {r : LiftRef} (h : standingClearance s = some r)
    (hs : ¬ (actualTainted s = false ∧ ∀ c ∈ r.cranes, hookFresh s c = true)) :
    recheckClearance s = withdrawClearance r .stale s := by
  have hany : (actualTainted s || r.cranes.any (fun c => !hookFresh s c)) = true := by
    simpa [imp_iff_not_or] using hs
  simp only [recheckClearance, h, hany, if_true]

theorem recheckClearance_gateActs (s : State) : GateActs s (recheckClearance s) := by
  unfold recheckClearance
  split
  · exact .refl s
  split
  · exact withdrawClearance_gateActs _ _ s
  · exact postDemand_gateActs _ s

theorem recheckClearance_monitor (s : State) : (recheckClearance s).monitor = s.monitor := by
  unfold recheckClearance
  repeat' split
  all_goals simp

theorem recheckClearance_window (s : State) : (recheckClearance s).gate.window = s.gate.window := by
  unfold recheckClearance
  repeat' split
  all_goals simp

/-! ### The standing clearance of a sound gate (R132) -/

theorem lead_mem_cranes (r : LiftRef) : r.lead ∈ r.cranes := by
  unfold LiftRef.cranes
  split <;> exact List.mem_cons_self

section
variable {u : State} {c : LiftRef}

theorem standingClearance_some (h : standingClearance u = some c) :
    u.gate.slot = some c ∧ (u.liftRec c.lead).state = .cleared := by
  unfold standingClearance at h
  split at h
  case h_1 r hr =>
    split at h
    case isTrue hc =>
      cases h
      exact ⟨hr, hc⟩
    case isFalse => cases h
  case h_2 => cases h

theorem cleared_of_standing (hg : GateSound u) (h : standingClearance u = some c) {d : CraneId} (hd : d ∈ c.cranes) :
    (u.liftRec d).state = .cleared := by
  obtain ⟨hslot, hlead⟩ := standingClearance_some h
  obtain ⟨-, hstate, -⟩ := hg.holder c hslot d hd
  exact hstate.trans hlead

theorem not_suspended_of_standing (hg : GateSound u) (h : standingClearance u = some c) : u.suspended = false :=
  Bool.eq_false_iff.mpr fun hs => hg.suspended hs c.lead (cleared_of_standing hg h (lead_mem_cranes c))

/-- R138: the cranes of an entry are REQUESTED, so none of them holds the clearance. -/
theorem entry_not_standing (hg : GateSound u) (h : standingClearance u = some c) {r : LiftRef}
    (hr : GateEntry.lift r ∈ u.gate.queue) {d : CraneId} (hd : d ∈ r.cranes) : d ∉ c.cranes := by
  intro hc
  obtain ⟨-, hrequested⟩ := hg.entries r hr d hd
  have := (cleared_of_standing hg h hc).symm.trans hrequested
  cases this

/-- R138: two entries that share a crane are one. -/
theorem entries_apart (hg : GateSound u) {r r' : LiftRef} (hr : GateEntry.lift r ∈ u.gate.queue)
    (hr' : GateEntry.lift r' ∈ u.gate.queue) {d : CraneId} (hd : d ∈ r.cranes) (hd' : d ∈ r'.cranes) : r = r' :=
  (hg.entries r hr d hd).1.symm.trans (hg.entries r' hr' d hd').1

end

/-! ### Before the last round of a publication

`Prepared u v` says that `v` puts to a decision round what `u` does; `Stood u v` and `Withdrawn c p u v` say what has
become of the clearance. -/

/-- The facts a round decides by are those of `u`, and what an earlier round wrote agrees with them. -/
structure Prepared (u v : State) : Prop where
  fresh : ∀ d, hookFresh v d = hookFresh u d
  tainted : actualTainted v = actualTainted u
  ends : ∀ id, endsFresh v id = endsFresh u id
  apart : ∀ r r', GateEntry.lift r ∈ v.gate.queue → GateEntry.lift r' ∈ v.gate.queue →
    ∀ d ∈ r.cranes, d ∈ r'.cranes → r = r'
  reasons : ∀ r, GateEntry.lift r ∈ v.gate.queue → ruling v (.lift r) = none →
    ∀ d ∈ r.cranes, (v.liftRec d).reason = (u.liftRec d).reason
  transfers : ∀ id x, GateEntry.transfer id ∈ v.gate.queue → tget u.ballast.transfers id = some x →
    tget v.ballast.transfers id = some x
      ∨ (ruling v (.transfer id) = some .stale ∧ tget v.ballast.transfers id = some (x.setReason .stale))

/-- The slot, the queue and the lift records stand but for pending reasons, and those of a cleared lift too. -/
structure Stood (u v : State) : Prop where
  cleared : ∀ c, standingClearance u = some c → ∀ d ∈ c.cranes, v.liftRec d = u.liftRec d
  silent : ∀ d, (v.liftRec d).silent = (u.liftRec d).silent
  slot : v.gate.slot = u.gate.slot
  queue : v.gate.queue = u.gate.queue
  gen : v.eval.actual.gen = u.eval.actual.gen
  lift : ∀ j, v.noted j .lift ↔ u.noted j .lift

/-- R145: the clearance of `c` is withdrawn with the reason `p`. -/
structure Withdrawn (c : LiftRef) (p : Pending) (u v : State) : Prop where
  mine : ∀ d ∈ c.cranes, v.liftRec d = (u.liftRec d).requeued u.time p ∧ v.gate.stale.get d = false
  others : ∀ d, d ∉ c.cranes → (v.liftRec d).silent = (u.liftRec d).silent
  slot : v.gate.slot = none
  queue : v.gate.queue = .lift c :: u.gate.queue
  gen : v.eval.actual.gen = u.eval.actual.gen + 1
  recheck : ¬ v.demanded .recheck
  lift : ∀ j, v.noted j .lift ↔ u.noted j .lift ∨ j = .l0 ∨ j ∈ c.cranes.map CraneId.link

section
variable {u v : State} {c : LiftRef} {p : Pending}

/-- No entry of the queue is the re-check. -/
theorem decisionRound_recheck (v : State) : (decisionRound v).demanded .recheck ↔ v.demanded .recheck :=
  decisionRound_demanded_other fun e _ => by cases e <;> simp [GateEntry.key]

theorem Prepared.liftRec_round (h : Prepared u v) {r : LiftRef} (hr : GateEntry.lift r ∈ v.gate.queue) {d : CraneId}
    (hd : d ∈ r.cranes) : (decisionRound v).liftRec d = (v.liftRec d).ruled (ruling v (.lift r)) := by
  refine decisionRound_liftRec (fun r' hr' hd' => ?_) ⟨r, hr, hd⟩
  rw [h.apart r r' hr hr' d hd hd']

theorem Prepared.round (h : Prepared u v) : Prepared u (decisionRound v) where
  fresh d := ((decisionRound_leaves v).hookFresh d).trans (h.fresh d)
  tainted := by
    rw [← h.tainted]
    simp [actualTainted]
  ends id := (endsFresh_congr (decisionRound_ends v) (by simp) (by simp) (by simp) id).trans (h.ends id)
  apart := by simpa using h.apart
  reasons r hr hn d hd := by
    rw [decisionRound_gate_queue] at hr
    rw [ruling_decisionRound] at hn
    rw [h.liftRec_round hr hd, hn]
    exact h.reasons r hr hn d hd
  transfers id x hq hx := by
    rw [decisionRound_gate_queue] at hq
    rw [decisionRound_transfer hq, ruling_decisionRound]
    obtain hv | ⟨hstop, hv⟩ := h.transfers id x hq hx
    · rw [hv, Option.map_some]
      rw [ruling_transfer]
      split
      · exact .inr ⟨rfl, rfl⟩
      · exact .inl rfl
    · rw [hv, hstop, Option.map_some]
      exact .inr ⟨rfl, congrArg some (setReason_setReason .stale x)⟩

theorem Stood.round (hg : GateSound u) (h : Stood u v) : Stood u (decisionRound v) where
  cleared c hc d hd := by
    refine (decisionRound_liftRec_other fun r hr hmem => ?_).trans (h.cleared c hc d hd)
    rw [h.queue] at hr
    exact entry_not_standing hg hc hr hmem hd
  silent d := (decisionRound_silent v d).trans (h.silent d)
  slot := (decisionRound_gate_slot v).trans h.slot
  queue := (decisionRound_gate_queue v).trans h.queue
  gen := (congrArg CtxState.gen (decisionRound_eval_actual v)).trans h.gen
  lift j := (decisionRound_noted v j _).trans (h.lift j)

theorem Withdrawn.round (hp : Prepared u v) (h : Withdrawn c p u v) (hr : ruling v (.lift c) = some p) :
    Withdrawn c p u (decisionRound v) where
  mine d hd := by
    obtain ⟨hrec, hstale⟩ := h.mine d hd
    rw [hp.liftRec_round (by simp [h.queue]) hd, hr, hrec, decisionRound_gate_stale]
    exact ⟨rfl, hstale⟩
  others d hd := (decisionRound_silent v d).trans (h.others d hd)
  slot := (decisionRound_gate_slot v).trans h.slot
  queue := (decisionRound_gate_queue v).trans h.queue
  gen := (congrArg CtxState.gen (decisionRound_eval_actual v)).trans h.gen
  recheck := mt (decisionRound_recheck v).mp h.recheck
  lift j := (decisionRound_noted v j _).trans (h.lift j)

/-- Under suspension the window stops no entry that is not stopped already. -/
theorem Prepared.window (h : Prepared u v) (hs : v.suspended = true) (r : ResultSet) :
    Prepared u (judgeWindow r v) where
  fresh := h.fresh
  tainted := h.tainted
  ends := h.ends
  apart := h.apart
  reasons e _ hn := by
    have hsusp : (judgeWindow r v).suspended = true := hs
    rw [ruling_lift, hsusp] at hn
    simp only [if_true] at hn
    split at hn <;> cases hn
  transfers := h.transfers

theorem Withdrawn.window (h : Withdrawn c p u v) (r : ResultSet) : Withdrawn c p u (judgeWindow r v) :=
  ⟨h.mine, h.others, h.slot, h.queue, h.gen, h.recheck, h.lift⟩

/-! ### States alike to the gate -/

/-- Two states that agree in all that the gate's operations read or write but the window, suspension, demands and the
events other than LIFT. -/
structure Alike (u w : State) : Prop where
  recs : w.gate.recs = u.gate.recs
  queue : w.gate.queue = u.gate.queue
  slot : w.gate.slot = u.gate.slot
  ballast : w.ballast = u.ballast
  cond : w.cond = u.cond
  time : w.time = u.time
  settings : w.settings = u.settings
  actual : w.eval.actual = u.eval.actual
  lift : ∀ j, w.noted j .lift ↔ u.noted j .lift

variable {w : State}

theorem Alike.liftRec (h : Alike u w) (d : CraneId) : w.liftRec d = u.liftRec d := by rw [State.liftRec, h.recs]; rfl

theorem Alike.standing (h : Alike u w) : standingClearance w = standingClearance u :=
  standingClearance_congr h.recs h.slot

theorem Alike.fresh (h : Alike u w) (d : CraneId) : hookFresh w d = hookFresh u d :=
  hookFresh_congr (by rw [h.liftRec]) h.time h.settings

theorem Alike.tainted (h : Alike u w) : actualTainted w = actualTainted u := by
  simp only [actualTainted, h.actual]

theorem Alike.stood (h : Alike u w) : Stood u w :=
  ⟨fun _ _ d _ => h.liftRec d, fun d => congrArg LiftRecord.silent (h.liftRec d), h.slot, h.queue,
    congrArg CtxState.gen h.actual, h.lift⟩

theorem Alike.prepared (hg : GateSound u) (h : Alike u w) : Prepared u w where
  fresh := h.fresh
  tainted := h.tainted
  ends := endsFresh_congr (endsOf_congr h.ballast) h.cond h.time h.settings
  apart r r' hr hr' d hd hd' := by
    rw [h.queue] at hr hr'
    exact entries_apart hg hr hr' hd hd'
  reasons _ _ _ d _ := congrArg LiftRecord.reason (h.liftRec d)
  transfers id x _ hx := .inl (by rw [h.ballast]; exact hx)

theorem alike_judgeWindow (r : ResultSet) (u : State) : Alike u (judgeWindow r u) :=
  ⟨rfl, rfl, rfl, rfl, rfl, rfl, rfl, rfl, fun _ => Iff.rfl⟩

theorem alike_suspendedBy (a : SuspendCause) (u : State) : Alike u (suspendedBy a u) :=
  ⟨by simp [suspendedBy], by simp [suspendedBy], by simp [suspendedBy], by simp [suspendedBy], by simp [suspendedBy],
    by simp [suspendedBy], by simp [suspendedBy], by simp [suspendedBy], fun j => latchOn_noted_ne (by simp) _ _ j⟩

theorem alike_postDemand (k : DemandKey) (u : State) : Alike u (postDemand k u) :=
  ⟨by simp, by simp, by simp, by simp, by simp, by simp, by simp, by simp, fun j => noted_congr (by simp) _⟩

theorem Alike.trans {x : State} (h : Alike u w) (g : Alike w x) : Alike u x :=
  ⟨g.recs.trans h.recs, g.queue.trans h.queue, g.slot.trans h.slot, g.ballast.trans h.ballast, g.cond.trans h.cond,
    g.time.trans h.time, g.settings.trans h.settings, g.actual.trans h.actual, fun j => (g.lift j).trans (h.lift j)⟩

/-! ### A clearance withdrawn (R145) -/

theorem clearStale_get (cs : List CraneId) (s : State) (d : CraneId) :
    (clearStale cs s).gate.stale.get d = (!decide (d ∈ cs) && s.gate.stale.get d) := by
  induction cs generalizing s with
  | nil => simp [clearStale]
  | cons c cs ih =>
    change (clearStale cs (s.setStale c false)).gate.stale.get d = _
    have hset : (s.setStale c false).gate.stale.get d = if d = c then false else s.gate.stale.get d :=
      perCrane_get_set _ _ _ _
    rw [ih, hset]
    by_cases hc : d = c <;> simp [hc]

theorem requeueLift_liftRec (c : LiftRef) (p : Pending) (s : State) (d : CraneId) :
    (requeueLift c p s).liftRec d = if d ∈ c.cranes then (s.liftRec d).requeued s.time p else s.liftRec d := by
  refine Eq.trans ?_ (onRecs_liftRec (f := LiftRecord.requeued s.time p) (fun _ => rfl) c.cranes d
    (withdrawDemand .recheck s))
  simp [State.liftRec, requeueLift]

theorem Alike.withdrawn (h : Alike u w) : Withdrawn c p u (requeueLift c p w) where
  mine d hd := by
    rw [requeueLift_liftRec, if_pos hd, h.time, h.liftRec]
    refine ⟨rfl, ?_⟩
    simp [requeueLift, clearStale_get, hd]
  others d hd := by rw [requeueLift_liftRec, if_neg hd, h.liftRec]
  slot := by simp [requeueLift]
  queue := by simp [requeueLift, h.queue]
  gen := by simp [requeueLift, advanceActual, CtxState.advance, h.actual]
  recheck := by
    have hw := demanded_withdrawDemand .recheck .recheck w
    refine fun hd => ((hw.mp ((demanded_congr ?_ ?_ _).mp hd)).1 rfl) <;> simp [requeueLift, advanceActual]
  lift j := by rw [requeueLift_noted, h.lift]; simp

theorem Alike.prepared_requeued (hg : GateSound u) (hc : standingClearance u = some c) (h : Alike u w)
    (hstop : ruling (requeueLift c p w) (.lift c) = some p) : Prepared u (requeueLift c p w) where
  fresh d := by
    refine (hookFresh_congr ?_ (by simp [requeueLift]) (by simp [requeueLift])).trans (h.fresh d)
    rw [requeueLift_liftRec]
    split <;> rfl
  tainted := by
    rw [← h.tainted]
    simp [actualTainted, requeueLift, advanceActual, CtxState.advance]
  ends id := by
    refine endsFresh_congr (endsOf_congr ?_) ?_ ?_ ?_ id
    all_goals simp [requeueLift, h.ballast, h.cond, h.time, h.settings]
  apart r r' hr hr' d hd hd' := by
    have hqueue : (requeueLift c p w).gate.queue = .lift c :: u.gate.queue := h.withdrawn.queue
    simp only [hqueue, List.mem_cons, GateEntry.lift.injEq] at hr hr'
    obtain rfl | hr := hr
    · obtain rfl | hr' := hr'
      · rfl
      · exact absurd hd (entry_not_standing hg hc hr' hd')
    · obtain rfl | hr' := hr'
      · exact absurd hd' (entry_not_standing hg hc hr hd)
      · exact entries_apart hg hr hr' hd hd'
  reasons r hq hn d hd := by
    have hqueue : (requeueLift c p w).gate.queue = .lift c :: u.gate.queue := h.withdrawn.queue
    simp only [hqueue, List.mem_cons, GateEntry.lift.injEq] at hq
    obtain rfl | hq := hq
    · rw [hstop] at hn
      cases hn
    · rw [requeueLift_liftRec, if_neg (entry_not_standing hg hc hq hd), h.liftRec]
  transfers id x _ hx := .inl (by simp [requeueLift, h.ballast, hx])

end

end Sys2Proof.Machine
end

section
/-! The publication of ACTUAL: the clearance and the entries of the queue in a sound gate, and the statement (R66, R73,
R120, R122, R139, R140, R141, R145, R164). -/

namespace Sys2Proof.Machine

/-! ### What suspension and the re-check make of the clearance (R122, R145) -/

/-- R145: the clearance stands: no suspension enters, the set is not TAINTED and its cranes have fresh reports. -/
def Holds (u : State) (c : LiftRef) : Prop :=
  ¬ Enters u ∧ actualTainted u = false ∧ ∀ d ∈ c.cranes, hookFresh u d = true

/-- The state before the last round of a publication of ACTUAL. -/
def judged (r : ResultSet) (u : State) : State := recheckClearance (judgeWindow r (autoSuspend u))

/-- R122, R145: what is decided of suspension and of the clearance. -/
structure Judged (u v : State) : Prop where
  prepared : Prepared u v
  suspend : ∀ j, v.noted j .suspend ↔ u.noted j .suspend ∨ Enters u
  stood : (standingClearance u = none ∨ ∃ c, standingClearance u = some c ∧ Holds u c) → Stood u v
  recheck : ∀ c, standingClearance u = some c → Holds u c → v.demanded .recheck
  withdrawn : ∀ c, standingClearance u = some c → ¬ Holds u c → ∃ p, (Enters u → p = .suspended)
    ∧ (¬ Enters u → p = .stale) ∧ Withdrawn c p u v ∧ ruling v (.lift c) = some p

theorem ruling_of_suspended {v : State} (hslot : v.gate.slot = none) (hs : v.suspended = true) (r : LiftRef) :
    ruling v (.lift r) = some .suspended := by
  simp [ruling_lift, hslot, hs]

theorem ruling_of_stale {v : State} {r : LiftRef} (hslot : v.gate.slot = none) (hs : v.suspended = false)
    (h : ¬ (actualTainted v = false ∧ ∀ d ∈ r.cranes, hookFresh v d = true)) :
    ruling v (.lift r) = some .stale := by
  have hstale : actualTainted v = true ∨ ∃ d ∈ r.cranes, hookFresh v d = false := by
    simpa [imp_iff_not_or] using h
  simp only [ruling_lift, hslot, hs, hstale, ne_eq, not_true_eq_false, Bool.false_eq_true, if_false, if_true]

section
variable {u : State}

theorem suspendedBy_noted (a : SuspendCause) (u : State) (j : Link) : (suspendedBy a u).noted j .suspend :=
  (latchOn_noted _ _ _ _ _).mpr (.inr ⟨rfl, mem_allLinks j⟩)

/-- R120: suspension enters and no clearance stands. -/
theorem judged_enters_none (hg : GateSound u) (he : Enters u) (hc : standingClearance u = none) (r : ResultSet) :
    Judged u (judged r u) := by
  obtain ⟨a, ha⟩ := autoSuspend_of_enters he
  have halike : Alike u (judgeWindow r (suspendedBy a u)) :=
    (alike_suspendedBy _ u).trans (alike_judgeWindow r _)
  have heq : judged r u = judgeWindow r (suspendedBy a u) := by
    rw [judged, ha, enterSuspension_of_none hc,
      recheckClearance_of_none (halike.standing.trans hc)]
  rw [heq]
  exact
    { prepared := halike.prepared hg
      suspend := fun j => iff_of_true ((judgeWindow_noted _ _ _ _).mpr (suspendedBy_noted _ u j)) (.inr he)
      stood := fun _ => halike.stood
      recheck := fun c hs => by simp [hc] at hs
      withdrawn := fun c hs => by simp [hc] at hs }

/-- R122: suspension enters and the clearance is withdrawn with SUSPENDED. -/
theorem judged_enters_some (hg : GateSound u) (he : Enters u) {c : LiftRef} (hc : standingClearance u = some c)
    (r : ResultSet) : Judged u (judged r u) := by
  obtain ⟨a, ha⟩ := autoSuspend_of_enters he
  have halike : Alike u (suspendedBy a u) := alike_suspendedBy _ u
  have hwith : Withdrawn c .suspended u (requeueLift c .suspended (suspendedBy a u)) := halike.withdrawn
  have hsusp : (requeueLift c .suspended (suspendedBy a u)).suspended = true := by
    simp [State.suspended, requeueLift, suspendedBy_suspension]
  have hrule := ruling_of_suspended hwith.slot hsusp c
  have hprep := halike.prepared_requeued hg hc hrule
  have hdone := (hwith.round hprep hrule).window r
  have hsusp' : (judgeWindow r (decisionRound (requeueLift c .suspended (suspendedBy a u)))).suspended = true := by
    simpa [judgeWindow, State.suspended] using hsusp
  have heq : judged r u = judgeWindow r (decisionRound (requeueLift c .suspended (suspendedBy a u))) := by
    rw [judged, ha, enterSuspension_of_some hc, withdrawClearance_eq]
    exact recheckClearance_of_none (by simp [standingClearance, hdone.slot])
  rw [heq]
  exact
    { prepared := hprep.round.window hsusp' r
      suspend := fun j => iff_of_true
        ((judgeWindow_noted _ _ _ _).mpr ((decisionRound_noted _ _ _).mpr
          ((requeueLift_noted _ _ _ _ _).mpr (.inl (suspendedBy_noted _ u j))))) (.inr he)
      stood := by
        rintro (hs | ⟨d, -, hd, -⟩)
        · simp [hc] at hs
        · exact absurd he hd
      recheck := fun d _ hd => absurd he hd.1
      withdrawn := fun d hd _ => by
        obtain rfl : c = d := Option.some.inj (hc.symm.trans hd)
        exact ⟨_, fun _ => rfl, fun hn => absurd he hn, hdone, ruling_of_suspended hdone.slot hsusp' c⟩ }

/-- R145: no suspension enters and no clearance stands. -/
theorem judged_none (hg : GateSound u) (he : ¬ Enters u) (hc : standingClearance u = none) (r : ResultSet) :
    Judged u (judged r u) := by
  have halike := alike_judgeWindow r u
  have heq : judged r u = judgeWindow r u := by
    rw [judged, autoSuspend_of_not_enters he, recheckClearance_of_none (halike.standing.trans hc)]
  rw [heq]
  exact
    { prepared := halike.prepared hg
      suspend := fun j => ⟨.inl, fun h => h.resolve_right he⟩
      stood := fun _ => halike.stood
      recheck := fun c hs => by simp [hc] at hs
      withdrawn := fun c hs => by simp [hc] at hs }

/-- R145: the clearance stands and its re-check is demanded. -/
theorem judged_holds (hg : GateSound u) {c : LiftRef} (hc : standingClearance u = some c) (hh : Holds u c)
    (r : ResultSet) : Judged u (judged r u) := by
  obtain ⟨he, ht, hf⟩ := hh
  have hwindow := alike_judgeWindow r u
  have halike := hwindow.trans (alike_postDemand .recheck _)
  have heq : judged r u = postDemand .recheck (judgeWindow r u) := by
    rw [judged, autoSuspend_of_not_enters he, recheckClearance_of_fresh (hwindow.standing.trans hc)
      (hwindow.tainted.trans ht) fun d hd => (hwindow.fresh d).trans (hf d hd)]
  rw [heq]
  exact
    { prepared := halike.prepared hg
      suspend := fun j => (noted_congr (by simp [judgeWindow]) _).trans ⟨.inl, fun h => h.resolve_right he⟩
      stood := fun _ => halike.stood
      recheck := fun d _ _ => (demanded_postDemand _ _ _).mpr (.inl rfl)
      withdrawn := fun d hd hn => by
        obtain rfl : c = d := Option.some.inj (hc.symm.trans hd)
        exact absurd ⟨he, ht, hf⟩ hn }

/-- R145: the clearance is withdrawn with STALE. -/
theorem judged_stale (hg : GateSound u) (he : ¬ Enters u) {c : LiftRef} (hc : standingClearance u = some c)
    (hh : ¬ Holds u c) (r : ResultSet) : Judged u (judged r u) := by
  have halike := alike_judgeWindow r u
  have hfacts : ¬ (actualTainted u = false ∧ ∀ d ∈ c.cranes, hookFresh u d = true) := fun h => hh ⟨he, h⟩
  have hwith : Withdrawn c .stale u (requeueLift c .stale (judgeWindow r u)) := halike.withdrawn
  have hnot : (requeueLift c .stale (judgeWindow r u)).suspended = false := by
    simpa [State.suspended, requeueLift, judgeWindow] using not_suspended_of_standing hg hc
  have hsame := requeueLift_gateActs c .stale (judgeWindow r u)
  have htaint : actualTainted (requeueLift c .stale (judgeWindow r u)) = actualTainted u := by
    simp only [actualTainted, hsame.set]
    rfl
  have hfresh (d : CraneId) : hookFresh (requeueLift c .stale (judgeWindow r u)) d = hookFresh u d := by
    refine hookFresh_congr ?_ hsame.frame.time hsame.frame.settings
    rw [requeueLift_liftRec]
    split <;> rfl
  have hrule : ruling (requeueLift c .stale (judgeWindow r u)) (.lift c) = some .stale :=
    ruling_of_stale hwith.slot hnot (by simpa only [htaint, hfresh] using hfacts)
  have hprep := halike.prepared_requeued hg hc hrule
  have heq : judged r u = decisionRound (requeueLift c .stale (judgeWindow r u)) := by
    rw [judged, autoSuspend_of_not_enters he, ← withdrawClearance_eq]
    refine recheckClearance_of_stale (halike.standing.trans hc) ?_
    simpa only [halike.tainted, halike.fresh] using hfacts
  rw [heq]
  exact
    { prepared := hprep.round
      suspend := fun j => (decisionRound_noted _ _ _).trans
        ((requeueLift_noted _ _ (judgeWindow r u) _ _).trans
          ⟨fun h => .inl (h.resolve_right (by simp)), fun h => .inl (h.resolve_right he)⟩)
      stood := by
        rintro (hs | ⟨d, hd, hd'⟩)
        · simp [hc] at hs
        · obtain rfl : c = d := Option.some.inj (hc.symm.trans hd)
          exact absurd hd' hh
      recheck := fun d hd hd' => by
        obtain rfl : c = d := Option.some.inj (hc.symm.trans hd)
        exact absurd hd' hh
      withdrawn := fun d hd _ => by
        obtain rfl : c = d := Option.some.inj (hc.symm.trans hd)
        exact ⟨_, fun h => absurd h he, fun _ => rfl, hwith.round hprep hrule,
          (ruling_decisionRound _ _).trans hrule⟩ }

theorem judged_judged (hg : GateSound u) (r : ResultSet) : Judged u (judged r u) := by
  by_cases he : Enters u
  · cases hc : standingClearance u with
    | none => exact judged_enters_none hg he hc r
    | some c => exact judged_enters_some hg he hc r
  · cases hc : standingClearance u with
    | none => exact judged_none hg he hc r
    | some c =>
      by_cases hh : Holds u c
      · exact judged_holds hg hc hh r
      · exact judged_stale hg he hc hh r

variable {v : State}

/-- What is decided of the clearance stands through a round. -/
theorem Judged.round (hg : GateSound u) (h : Judged u v) : Judged u (decisionRound v) where
  prepared := h.prepared.round
  suspend j := (decisionRound_noted v j _).trans (h.suspend j)
  stood hs := (h.stood hs).round hg
  recheck c hc hh := (decisionRound_recheck v).mpr (h.recheck c hc hh)
  withdrawn c hc hh := by
    obtain ⟨p, hin, hout, hw, hr⟩ := h.withdrawn c hc hh
    exact ⟨p, hin, hout, hw.round h.prepared hr, (ruling_decisionRound v _).trans hr⟩

/-- A lift's lot and its mark of deviation stand through a withdrawal. -/
theorem Judged.lot (h : Judged u v) (d : CraneId) :
    (v.liftRec d).lot = (u.liftRec d).lot ∧ (v.liftRec d).deviation = (u.liftRec d).deviation := by
  have ofSilent (hs : (v.liftRec d).silent = (u.liftRec d).silent) :
      (v.liftRec d).lot = (u.liftRec d).lot ∧ (v.liftRec d).deviation = (u.liftRec d).deviation := by
    have hlot := congrArg LiftRecord.lot hs
    have hdev := congrArg LiftRecord.deviation hs
    exact ⟨hlot, hdev⟩
  cases hc : standingClearance u with
  | none => exact ofSilent ((h.stood (.inl hc)).silent d)
  | some c =>
    by_cases hh : Holds u c
    · exact ofSilent ((h.stood (.inr ⟨c, hc, hh⟩)).silent d)
    · obtain ⟨p, -, -, hw, -⟩ := h.withdrawn c hc hh
      by_cases hd : d ∈ c.cranes
      · rw [(hw.mine d hd).1]
        exact ⟨rfl, rfl⟩
      · exact ofSilent (hw.others d hd)

/-! ### The entries after the last round (R139, R140, R164) -/

theorem Prepared.demanded_lift (h : Prepared u v) {r : LiftRef} (hr : GateEntry.lift r ∈ v.gate.queue) :
    (decisionRound v).demanded (.lift r.lead) ↔ ruling v (.lift r) = none := by
  refine decisionRound_demanded (fun e he hk => ?_) ⟨_, hr, rfl⟩
  cases e with
  | lift r' =>
    have hlead : r'.lead = r.lead := DemandKey.lift.inj hk
    have hmem : r.lead ∈ r'.cranes := hlead ▸ lead_mem_cranes r'
    rw [h.apart r r' hr he r.lead (lead_mem_cranes r) hmem]
  | transfer id => cases hk

/-- R140: a lift entry that a step stops carries its reason and no demand; any other is demanded. -/
theorem Prepared.lift_entry (h : Prepared u v) {r : LiftRef} (hr : GateEntry.lift r ∈ v.gate.queue) :
    (∀ w, ruling v (.lift r) = some w →
      (∀ d ∈ r.cranes, ((decisionRound v).liftRec d).reason = some w) ∧ ¬ (decisionRound v).demanded (.lift r.lead))
    ∧ (ruling v (.lift r) = none →
      (∀ d ∈ r.cranes, ((decisionRound v).liftRec d).reason = (u.liftRec d).reason)
        ∧ (decisionRound v).demanded (.lift r.lead)) := by
  refine ⟨fun w hw => ⟨fun d hd => ?_, ?_⟩, fun hn => ⟨fun d hd => ?_, (h.demanded_lift hr).mpr hn⟩⟩
  · rw [h.liftRec_round hr hd, hw]
    rfl
  · rw [h.demanded_lift hr, hw]
    exact Option.some_ne_none w
  · rw [h.liftRec_round hr hd, hn]
    exact h.reasons r hr hn d hd

/-- R164: a transfer entry that is stopped carries STALE and no demand; any other is demanded. -/
theorem Prepared.transfer_entry (h : Prepared u v) {id : Nat} {x : Transfer}
    (hq : GateEntry.transfer id ∈ v.gate.queue) (hx : tget u.ballast.transfers id = some x) :
    (ruling v (.transfer id) = some .stale →
      tget (decisionRound v).ballast.transfers id = some (x.setReason .stale)
        ∧ ¬ (decisionRound v).demanded (.transfer id))
    ∧ (ruling v (.transfer id) = none →
      tget (decisionRound v).ballast.transfers id = some x ∧ (decisionRound v).demanded (.transfer id)) := by
  have hdemand : (decisionRound v).demanded (.transfer id) ↔ ruling v (.transfer id) = none := by
    refine decisionRound_demanded (fun e _ hk => ?_) ⟨_, hq, rfl⟩
    cases e with
    | lift r => cases hk
    | transfer j => rw [DemandKey.transfer.inj hk]
  refine ⟨fun hstop => ⟨?_, ?_⟩, fun hn => ⟨?_, hdemand.mpr hn⟩⟩
  · rw [decisionRound_transfer hq, hstop]
    obtain hv | ⟨-, hv⟩ := h.transfers id x hq hx
    · rw [hv]
      rfl
    · rw [hv]
      exact congrArg some (setReason_setReason .stale x)
  · rw [hdemand, hstop]
    exact Option.some_ne_none _
  · obtain hv | ⟨hstop, -⟩ := h.transfers id x hq hx
    · rw [decisionRound_transfer hq, hn, hv]
      rfl
    · simp [hn] at hstop

end

end Sys2Proof.Machine
end

section
/-! The statement about a publication of ACTUAL: the state before suspension is judged, the close of the step, and the
parts of the statement in their order. -/

namespace Sys2Proof.Machine

/-! ### What the monitor's part of a publication leaves to the gate -/

/-- The soundness of a gate is a fact of the gate and of the suspension. -/
theorem gateSound_congr {s t : State} (hg : t.gate = s.gate) (hs : t.monitor.suspension = s.monitor.suspension)
    (h : GateSound s) : GateSound t := by
  have hrec (c : CraneId) : t.liftRec c = s.liftRec c := by
    rw [State.liftRec, hg]
    rfl
  have hlift (c : CraneId) : liftOf t c = liftOf s c := liftOf_congr (hrec c)
  have hsusp : t.suspended = s.suspended := by rw [State.suspended, hs]; rfl
  constructor
  · simpa only [hg, hrec, hlift] using h.holder
  · simpa only [hg, hrec, hlift] using h.others
  · simpa only [hg, hrec, hlift] using h.entries
  · simpa only [hg, hrec, hlift] using h.queued
  · simpa only [hg] using h.once
  · simpa only [hrec] using h.pairing
  · simpa only [hsusp, hrec] using h.suspended

section
variable {p : Pass} {s : State}

theorem observed_untouched (hx : p.ctx = .actual) : Untouched s (observed p s) := by
  rw [observed_form hx]
  exact ⟨rfl, rfl, rfl, rfl, rfl, rfl, rfl, ⟨rfl, rfl⟩, ⟨rfl, rfl⟩, rfl, rfl, rfl, rfl⟩

theorem observed_gate (hx : p.ctx = .actual) : (observed p s).gate = s.gate := by rw [observed_form hx]

theorem observed_ballast (hx : p.ctx = .actual) : (observed p s).ballast = s.ballast := by rw [observed_form hx]

theorem observed_cond (hx : p.ctx = .actual) : (observed p s).cond = s.cond := by rw [observed_form hx]

theorem observed_mode (hx : p.ctx = .actual) : (observed p s).mode = s.mode := by rw [observed_form hx]

theorem observed_suspension (hx : p.ctx = .actual) : (observed p s).monitor.suspension = s.monitor.suspension := by
  rw [observed_form hx]

theorem observed_actual (hx : p.ctx = .actual) :
    (observed p s).eval.actual = s.eval.actual.published (passSet s.ship p) := by rw [observed_form hx]

theorem observed_gen (hx : p.ctx = .actual) : (observed p s).eval.actual.gen = s.eval.actual.gen := by
  rw [observed_actual hx]
  rfl

theorem observed_list (hx : p.ctx = .actual) : (observed p s).monitor.actual =
    updateList s.time p.gen p.limitName (judgePass s.ship p (passSet s.ship p)) s.monitor.actual := by
  rw [observed_form hx]

theorem observed_lists (hx : p.ctx = .actual) :
    (observed p s).monitor.plan = s.monitor.plan ∧ (observed p s).monitor.trial = s.monitor.trial := by
  rw [observed_form hx]
  exact ⟨rfl, rfl⟩

theorem observed_liftRec (hx : p.ctx = .actual) (d : CraneId) : (observed p s).liftRec d = s.liftRec d := by
  rw [State.liftRec, observed_gate hx]
  rfl

theorem observed_standing (hx : p.ctx = .actual) : standingClearance (observed p s) = standingClearance s :=
  standingClearance_congr (by rw [observed_gate hx]) (by rw [observed_gate hx])

theorem observed_fresh (hx : p.ctx = .actual) (d : CraneId) : hookFresh (observed p s) d = hookFresh s d :=
  hookFresh_congr (by rw [observed_liftRec hx]) (observed_untouched hx).time (observed_untouched hx).settings

theorem observed_ends (hx : p.ctx = .actual) (id : Nat) : endsFresh (observed p s) id = endsFresh s id :=
  endsFresh_congr (endsOf_congr (observed_ballast hx)) (observed_cond hx) (observed_untouched hx).time
    (observed_untouched hx).settings id

/-- R67: the published set carries the mark of its pass. -/
theorem observed_tainted (hx : p.ctx = .actual) : actualTainted (observed p s) = p.tainted := by
  rw [actualTainted, observed_actual hx]
  exact (evaluate_sums s.ship p.rho p.gen p.tainted p.items).2.1

theorem observed_firstAtTrigger (hx : p.ctx = .actual) : firstAtTrigger (observed p s) =
    (judgePass s.ship p (passSet s.ship p)).find?
      (fun v => atTrigger s.settings.trigger (s.settings.severity.get v.cls)) := by
  rw [firstAtTrigger, observed_list hx, (observed_untouched hx).settings]
  rfl

theorem observed_enters (hx : p.ctx = .actual) : Enters (observed p s) ↔ s.monitor.suspension = none
    ∧ (judgePass s.ship p (passSet s.ship p)).find?
      (fun v => atTrigger s.settings.trigger (s.settings.severity.get v.cls)) ≠ none := by
  rw [Enters, observed_suspension hx, observed_firstAtTrigger hx]

theorem observed_gateSound (hx : p.ctx = .actual) (h : GateSound s) : GateSound (observed p s) :=
  gateSound_congr (observed_gate hx) (observed_suspension hx) h

end

/-! ### The close of a publication of ACTUAL (R73 step 4) -/

/-- RESULTS is latched on every link and the step is closed. -/
def announced (s : State) : State := settle (latchOn .results allLinks s)

section
variable (s : State)

theorem announced_untouched : Untouched s (announced s) :=
  Untouched.trans ⟨by simp, by simp, by simp, by simp, by simp, by simp, by simp, by simp, by simp, by simp, by simp,
    by simp, by simp⟩ (settle_untouched (latchOn .results allLinks s))

theorem announced_results (l : Link) : (announced s).noted l .results :=
  (settle_noted _ l _).mpr ((latchOn_noted _ _ _ _ _).mpr (.inr ⟨rfl, mem_allLinks l⟩))

theorem announced_noted {e : Event} (h : e ≠ .results) (l : Link) : (announced s).noted l e ↔ s.noted l e :=
  (settle_noted _ l e).trans (latchOn_noted_ne h _ s l)

theorem announced_demanded (k : DemandKey) : (announced s).demanded k ↔ s.demanded k :=
  (demanded_settle _ k).trans (demanded_congr (by simp) (by simp) k)

theorem announced_liftRec (d : CraneId) : (announced s).liftRec d = s.liftRec d := by
  simp [announced, State.liftRec]

theorem announced_actual : (announced s).eval.actual.set = s.eval.actual.set
    ∧ (announced s).eval.actual.sticky = s.eval.actual.sticky ∧ (announced s).eval.actual.gen = s.eval.actual.gen := by
  have hset := settle_ctx_set (latchOn .results allLinks s) .actual
  have hsticky := settle_ctx_sticky (latchOn .results allLinks s) .actual
  have hgen := settle_ctx_gen (latchOn .results allLinks s) .actual
  simp only [State.ctx, latchOn_eval] at hset hsticky hgen
  exact ⟨hset, hsticky, hgen⟩

theorem announced_gate : (announced s).gate.slot = s.gate.slot ∧ (announced s).gate.queue = s.gate.queue
    ∧ (announced s).gate.stale = s.gate.stale := by
  simp [announced]

theorem announced_window : (announced s).gate.window = s.gate.window := by simp [announced]

theorem announced_ballast : (announced s).ballast = s.ballast := by simp [announced]

theorem announced_lists (x : Ctx) : listOf (announced s) x = listOf s x := by
  cases x <;> simp [announced, listOf]

end

/-- The state of a publication of ACTUAL before its close. -/
def gateDone (p : Pass) (s : State) : State := decisionRound (judged (passSet s.ship p) (observed p s))

section
variable {p : Pass} {s : State}

theorem exec_publication_actual (hp : s.powered = true) (hu : s.eval.unit = .pass p) (hx : p.ctx = .actual) :
    exec .publication s = .next (announced (gateDone p s)) := by
  have hpass : passInFlight s = some p := by simp [passInFlight, hu]
  have hexec : execPublication s = .next (settle (publish p s)) := by
    rw [execPublication, dueEvent_due hp (by simp [hpass])]
    simp only [hpass]
  rw [publish_actual hx] at hexec
  exact hexec

theorem gateDone_gateActs (p : Pass) (s : State) : GateActs (observed p s) (gateDone p s) :=
  (((autoSuspend_gateActs _).trans (judgeWindow_gateActs _ _)).trans (recheckClearance_gateActs _)).trans
    (decisionRound_gateActs _)

theorem gateDone_suspension (p : Pass) (s : State) :
    (gateDone p s).monitor.suspension = (autoSuspend (observed p s)).monitor.suspension := by
  rw [gateDone, decisionRound_monitor, judged, recheckClearance_monitor]
  rfl

/-- R141: the window is judged by the heel of the set. -/
theorem gateDone_window (hx : p.ctx = .actual) :
    (gateDone p s).gate.window = windowAfter s.settings s.gate.window (passSet s.ship p).heel := by
  rw [gateDone, decisionRound_gate_window, judged, recheckClearance_window, judgeWindow]
  dsimp only
  rw [autoSuspend_window, (autoSuspend_gateActs _).frame.settings, (observed_untouched hx).settings, observed_gate hx]

theorem not_demanded_iff (s : State) (k : DemandKey) :
    ¬ s.demanded k ↔ k ∉ s.eval.waiting ∧ s.eval.unit.predictsFor k = false := by
  simp [State.demanded]

/-! ### The parts of the statement about a sound gate -/

section
variable (hx : p.ctx = .actual) (hg : GateSound s)
include hx hg

theorem judged_observed : Judged (observed p s) (judged (passSet s.ship p) (observed p s)) :=
  judged_judged (observed_gateSound hx hg) _

theorem judged_gateDone : Judged (observed p s) (gateDone p s) :=
  (judged_observed hx hg).round (observed_gateSound hx hg)

theorem published_suspend (j : Link) :
    (announced (gateDone p s)).noted j .suspend ↔ s.noted j .suspend ∨ Enters (observed p s) :=
  ((announced_noted _ (by simp) j).trans ((judged_gateDone hx hg).suspend j)).trans
    (or_congr (observed_noted_ne (by simp) (by simp) (by simp) p s j) Iff.rfl)

theorem published_lot (d : CraneId) : ((announced (gateDone p s)).liftRec d).lot = (s.liftRec d).lot
    ∧ ((announced (gateDone p s)).liftRec d).deviation = (s.liftRec d).deviation := by
  have hlot := (judged_gateDone hx hg).lot d
  rw [observed_liftRec hx] at hlot
  rw [announced_liftRec]
  exact hlot

/-- R145: where no clearance is withdrawn the slot, the queue and the generation stand. -/
theorem published_stood
    (h : standingClearance s = none ∨ ∃ c, standingClearance s = some c ∧ Holds (observed p s) c) :
    (announced (gateDone p s)).gate.slot = s.gate.slot ∧ (announced (gateDone p s)).gate.queue = s.gate.queue
      ∧ (announced (gateDone p s)).eval.actual.gen = s.eval.actual.gen
      ∧ (∀ j, (announced (gateDone p s)).noted j .lift ↔ s.noted j .lift)
      ∧ ∀ d, ((announced (gateDone p s)).liftRec d).silent = (s.liftRec d).silent := by
  rw [← observed_standing (p := p) hx] at h
  have hstood := (judged_gateDone hx hg).stood h
  obtain ⟨hslot, hqueue, -⟩ := announced_gate (gateDone p s)
  obtain ⟨-, -, hgen⟩ := announced_actual (gateDone p s)
  refine ⟨?_, ?_, ?_, fun j => ?_, fun d => ?_⟩
  · rw [hslot, hstood.slot, observed_gate hx]
  · rw [hqueue, hstood.queue, observed_gate hx]
  · rw [hgen, hstood.gen, observed_gen hx]
  · exact ((announced_noted _ (by simp) j).trans (hstood.lift j)).trans
      (observed_noted_ne (by simp) (by simp) (by simp) p s j)
  · rw [announced_liftRec, hstood.silent, observed_liftRec hx]

/-- R145: a clearance that stands has its re-check demanded, and the records of its cranes stand. -/
theorem published_recheck {c : LiftRef} (hc : standingClearance s = some c) (hh : Holds (observed p s) c) :
    (announced (gateDone p s)).demanded .recheck
      ∧ ∀ d ∈ c.cranes, (announced (gateDone p s)).liftRec d = s.liftRec d := by
  rw [← observed_standing (p := p) hx] at hc
  have hj := judged_gateDone hx hg
  refine ⟨(announced_demanded _ _).mpr (hj.recheck c hc hh), fun d hd => ?_⟩
  rw [announced_liftRec, (hj.stood (.inr ⟨c, hc, hh⟩)).cleared c hc d hd, observed_liftRec hx]

/-- R122, R145: a clearance that does not stand is withdrawn, with SUSPENDED or with STALE. -/
theorem published_withdrawn {c : LiftRef} (hc : standingClearance s = some c) (hh : ¬ Holds (observed p s) c) :
    ∃ q, (Enters (observed p s) → q = .suspended) ∧ (¬ Enters (observed p s) → q = .stale)
      ∧ (∀ d ∈ c.cranes, (announced (gateDone p s)).liftRec d = (s.liftRec d).requeued s.time q
        ∧ (announced (gateDone p s)).gate.stale.get d = false)
      ∧ (announced (gateDone p s)).gate.slot = none
      ∧ (announced (gateDone p s)).gate.queue = .lift c :: s.gate.queue
      ∧ ¬ (announced (gateDone p s)).demanded .recheck
      ∧ (announced (gateDone p s)).eval.actual.gen = s.eval.actual.gen + 1
      ∧ ∀ j, (announced (gateDone p s)).noted j .lift
        ↔ s.noted j .lift ∨ j = .l0 ∨ j ∈ c.cranes.map CraneId.link := by
  rw [← observed_standing (p := p) hx] at hc
  obtain ⟨q, hin, hout, hw, -⟩ := (judged_gateDone hx hg).withdrawn c hc hh
  obtain ⟨hslot, hqueue, hstale⟩ := announced_gate (gateDone p s)
  obtain ⟨-, -, hgen⟩ := announced_actual (gateDone p s)
  refine ⟨q, hin, hout, fun d hd => ?_, hslot.trans hw.slot, ?_, ?_, ?_, fun j => ?_⟩
  · obtain ⟨hrec, hfresh⟩ := hw.mine d hd
    rw [announced_liftRec, hrec, hstale, observed_liftRec hx, (observed_untouched hx).time]
    exact ⟨rfl, hfresh⟩
  · rw [hqueue, hw.queue, observed_gate hx]
  · exact mt (announced_demanded _ _).mp hw.recheck
  · rw [hgen, hw.gen, observed_gen hx]
  · exact ((announced_noted _ (by simp) j).trans (hw.lift j)).trans
      (or_congr (observed_noted_ne (by simp) (by simp) (by simp) p s j) Iff.rfl)

/-- R140: the steps that stop a lift entry, read from the state the publication leaves. -/
theorem published_ruling (e : LiftRef) : ruling (judged (passSet s.ship p) (observed p s)) (.lift e) =
    if (announced (gateDone p s)).gate.slot ≠ none then some .exclusive
    else if (announced (gateDone p s)).suspended = true then some .suspended
    else if p.tainted = true ∨ ∃ d ∈ e.cranes, hookFresh s d = false then some .stale
    else if (announced (gateDone p s)).gate.window = false then some .window
    else none := by
  have hprep := (judged_observed hx hg).prepared
  have hsusp : (announced (gateDone p s)).suspended = (judged (passSet s.ship p) (observed p s)).suspended := by
    simp [announced, gateDone, State.suspended]
  obtain ⟨hslot, -⟩ := announced_gate (gateDone p s)
  rw [ruling_lift, hslot, hsusp, announced_window, gateDone, decisionRound_gate_slot, decisionRound_gate_window,
    hprep.tainted, observed_tainted hx]
  simp only [hprep.fresh, observed_fresh hx]

/-- R139, R140: what the round leaves of a lift entry. -/
theorem published_lift_entry {e : LiftRef} (he : GateEntry.lift e ∈ (announced (gateDone p s)).gate.queue) :
    (∀ w, ruling (judged (passSet s.ship p) (observed p s)) (.lift e) = some w →
      (∀ d ∈ e.cranes, ((announced (gateDone p s)).liftRec d).reason = some w)
        ∧ ¬ (announced (gateDone p s)).demanded (.lift e.lead))
    ∧ (ruling (judged (passSet s.ship p) (observed p s)) (.lift e) = none →
      (∀ d ∈ e.cranes, ((announced (gateDone p s)).liftRec d).reason = (s.liftRec d).reason)
        ∧ (announced (gateDone p s)).demanded (.lift e.lead)) := by
  obtain ⟨-, hqueue, -⟩ := announced_gate (gateDone p s)
  rw [hqueue, gateDone, decisionRound_gate_queue] at he
  have hentry := (judged_observed hx hg).prepared.lift_entry he
  simp only [observed_liftRec hx] at hentry
  simp only [announced_liftRec, announced_demanded, gateDone]
  exact hentry

/-- R139, R164: what the round leaves of a transfer entry. -/
theorem published_transfer_entry {id : Nat} {x : Transfer} {was : Pending} {timer : Count32}
    (he : GateEntry.transfer id ∈ (announced (gateDone p s)).gate.queue)
    (ht : tget s.ballast.transfers id = some x) (hph : x.phase = .requested was timer) :
    ((p.tainted = true ∨ ∃ k ∈ x.tankEnds, tankFresh s k = false) →
      tget (announced (gateDone p s)).ballast.transfers id = some { x with phase := .requested .stale timer }
        ∧ ¬ (announced (gateDone p s)).demanded (.transfer id))
    ∧ (¬ (p.tainted = true ∨ ∃ k ∈ x.tankEnds, tankFresh s k = false) →
      tget (announced (gateDone p s)).ballast.transfers id = some x
        ∧ (announced (gateDone p s)).demanded (.transfer id)) := by
  have hprep := (judged_observed hx hg).prepared
  have hends : endsFresh s id = false ↔ ∃ k ∈ x.tankEnds, tankFresh s k = false := by
    simp [endsFresh_eq, State.endsOf, ht]
  have hstopped : (actualTainted (judged (passSet s.ship p) (observed p s)) = true
      ∨ endsFresh (judged (passSet s.ship p) (observed p s)) id = false)
      ↔ (p.tainted = true ∨ ∃ k ∈ x.tankEnds, tankFresh s k = false) := by
    rw [hprep.tainted, hprep.ends, observed_tainted hx, observed_ends hx, hends]
  have hreason : x.setReason .stale = { x with phase := .requested .stale timer } := by
    simp only [Transfer.setReason, hph]
  obtain ⟨-, hqueue, -⟩ := announced_gate (gateDone p s)
  rw [hqueue, gateDone, decisionRound_gate_queue] at he
  rw [← observed_ballast (p := p) hx] at ht
  obtain ⟨hstop, hpass⟩ := hprep.transfer_entry he ht
  rw [announced_ballast, announced_demanded, gateDone, ← hreason]
  exact ⟨fun h => hstop ((ruling_transfer _ _).trans (if_pos (hstopped.mpr h))),
    fun h => hpass ((ruling_transfer _ _).trans (if_neg (mt hstopped.mp h)))⟩

end

end

/-! ### The statement -/

/-- Settles O56: the set, the list, the window, the suspension and the notices stage by stage, and in a sound gate what
is decided of the clearance before the last round and what that round leaves of each entry. -/
theorem actualPublishes : Obligations.ActualPublishes := by
  unfold Obligations.ActualPublishes
  intro s p hp hu hx r new
  have hacts := gateDone_gateActs p s
  have hframe := ((observed_untouched hx).trans hacts.frame).trans (announced_untouched (gateDone p s))
  obtain ⟨hset, hsticky, hgen⟩ := announced_actual (gateDone p s)
  obtain ⟨hplan, htrial⟩ := observed_lists (s := s) hx
  have hsusp : (announced (gateDone p s)).monitor.suspension = (autoSuspend (observed p s)).monitor.suspension := by
    rw [← gateDone_suspension]
    simp [announced]
  refine ⟨_, exec_publication_actual hp hu hx, ?_, ?_, ?_, ?_, ?_, fun hs => ?_, fun hs => ?_,
    announced_results _, fun l hv => ?_, ?_, ?_, ?_, hframe, ?_, fun hg => ?_⟩
  · rw [hset, hacts.set, observed_actual hx]
    rfl
  · exact ((announced_lists _ .actual).trans (hacts.lists .actual)).trans (observed_list hx)
  · exact ((announced_lists _ .plan).trans (hacts.lists .plan)).trans hplan
  · exact ((announced_lists _ .trial).trans (hacts.lists .trial)).trans htrial
  · rw [announced_window, gateDone_window hx]
    exact windowAfter_eq _ _ _
  · rw [hsusp, autoSuspend_of_not_enters, observed_suspension hx]
    exact fun he => hs ((observed_enters hx).mp he).1
  · rw [hsusp, autoSuspend_suspension ((observed_suspension hx).trans hs), observed_firstAtTrigger hx,
      (observed_untouched hx).time]
    rfl
  · exact (announced_noted _ (by simp) l).mpr ((hacts.notices l _ (by simp) (by simp)).mpr (observed_noted_new hv l))
  · rw [show (announced (gateDone p s)).cond = (gateDone p s).cond by simp [announced], hacts.cond, observed_cond hx]
  · rw [announced_ballast, hacts.log,
      observed_ballast hx]
  · rw [show (announced (gateDone p s)).mode = (gateDone p s).mode by simp [announced], hacts.mode, observed_mode hx]
  · rw [hsticky, hacts.sticky, observed_actual hx]
    rfl
  · intro enters holds recheck lifted
    have henters : Enters (observed p s) ↔ enters := observed_enters hx
    have hholds (c : LiftRef) : Holds (observed p s) c ↔ holds c := by
      simp only [Holds, henters, observed_tainted hx, observed_fresh hx, holds]
    refine ⟨fun j => (published_suspend hx hg j).trans (or_congr Iff.rfl henters), published_lot hx hg, fun h => ?_,
      fun c hc hh => published_recheck hx hg hc ((hholds c).mpr hh), fun c hc hh => ?_, fun e he => ?_,
      fun id x was timer he ht hph => ?_⟩
    · simp only [← hholds] at h
      obtain ⟨hslot, hqueue, hgen', hlift, hsilent⟩ := published_stood hx hg h
      exact ⟨hslot, hqueue, hgen', fun j => (hlift j).trans (or_false _).symm.to_iff, hsilent⟩
    · obtain ⟨q, hin, hout, hmine, hslot, hqueue, hrecheck, hgen', hlift⟩ :=
        published_withdrawn hx hg hc (mt (hholds c).mp hh)
      have hq : q = if enters then .suspended else .stale := by
        split
        case isTrue he => exact hin (henters.mpr he)
        case isFalse he => exact hout (mt henters.mp he)
      subst hq
      exact ⟨hmine, hslot, hqueue, hrecheck, hgen', hlift⟩
    · intro why
      obtain ⟨hstop, hpass⟩ := published_lift_entry hx hg he
      have hwhy : ruling (judged (passSet s.ship p) (observed p s)) (.lift e) = why := published_ruling hx hg e
      rw [hwhy] at hstop hpass
      refine ⟨fun w hw => ?_, hpass⟩
      obtain ⟨hreason, hnot⟩ := hstop w hw
      exact ⟨hreason, (not_demanded_iff _ _).mp hnot⟩
    · intro stopped
      obtain ⟨hstop, hpass⟩ := published_transfer_entry hx hg he ht hph
      refine ⟨fun h => ?_, hpass⟩
      obtain ⟨hstale, hnot⟩ := hstop h
      exact ⟨hstale, (not_demanded_iff _ _).mp hnot⟩

end Sys2Proof.Machine
end

section
/-! What a command can make of the evaluation unit before its step is closed: changes by which no pass and no prediction
begins (R70 to R72, R76 to R83). -/

namespace Sys2Proof.Machine

/-! ### Changes by which no pass begins -/

/-- What the currency of a context rests on: its dirty flag, its generation, and the generation of its set. -/
def CtxState.stamp (c : CtxState) : Bool × Count32 × Option Count32 := (c.dirty, c.gen, c.set.map ResultSet.gen)

/-- The part of a state that the evaluation unit's invariants read, but for the gate queue and the suspension. -/
def State.pace (s : State) : Mode × List (List Move) × Eval := (s.mode, s.frames, s.eval)

/-- A change by which no pass and no prediction begins: each context keeps its stamp or is dirty, and the unit goes on
with what it does or is freed, of a pass only when the pass's context is dirty. -/
structure Yields (s t : State) : Prop where
  mode : t.mode = s.mode
  alt : t.eval.alt = s.eval.alt
  stack : t.frames = s.frames ∨ t.eval.trial.dirty = true
  ctx : ∀ x, (t.ctx x).stamp = (s.ctx x).stamp ∨ (t.ctx x).dirty = true
  unit : t.eval.unit = s.eval.unit
    ∨ t.eval.unit = .idle ∧ ∀ p, s.eval.unit = .pass p → (t.ctx p.ctx).dirty = true

theorem dirty_of_stamp {c d : CtxState} (h : c.stamp = d.stamp) : c.dirty = d.dirty := congrArg Prod.fst h

theorem Yields.dirty {s t : State} (h : Yields s t) {x : Ctx} (hx : (s.ctx x).dirty = true) :
    (t.ctx x).dirty = true :=
  (h.ctx x).elim (fun e => (dirty_of_stamp e).trans hx) id

theorem Yields.trans {a b c : State} (h : Yields a b) (g : Yields b c) : Yields a c where
  mode := g.mode.trans h.mode
  alt := g.alt.trans h.alt
  stack := by
    rcases g.stack with e | hd
    · exact h.stack.imp e.trans (g.dirty (x := .trial))
    · exact .inr hd
  ctx x := by
    rcases g.ctx x with e | hd
    · exact (h.ctx x).imp e.trans (dirty_of_stamp e).trans
    · exact .inr hd
  unit := by
    rcases g.unit with e | ⟨hi, hd⟩
    · exact h.unit.imp e.trans fun ⟨hi, hd⟩ => ⟨e.trans hi, fun p hp => g.dirty (hd p hp)⟩
    · refine .inr ⟨hi, fun p hp => ?_⟩
      rcases h.unit with e | ⟨_, hd'⟩
      · exact hd p (e.trans hp)
      · exact g.dirty (hd' p hp)

theorem ctx_of_eval {s t : State} (h : t.eval = s.eval) (x : Ctx) : t.ctx x = s.ctx x := by
  cases x <;> simp only [State.ctx, h]

theorem Yields.of_pace {s t : State} (h : t.pace = s.pace) : Yields s t := by
  simp only [State.pace, Prod.mk.injEq] at h
  obtain ⟨hm, hf, he⟩ := h
  exact ⟨hm, by rw [he], .inl hf, fun x => .inl (by rw [ctx_of_eval he]), .inl (by rw [he])⟩

theorem Yields.refl (s : State) : Yields s s := .of_pace rfl

theorem Yields.then {s u t : State} (h : Yields s u) (e : t.pace = u.pace) : Yields s t := h.trans (.of_pace e)

theorem Yields.after {s u t : State} (h : Yields u t) (e : u.pace = s.pace) : Yields s t :=
  (Yields.of_pace e).trans h

theorem Yields.foldl {α : Type} {f : State → α → State} (h : ∀ s a, Yields s (f s a)) (l : List α) (s : State) :
    Yields s (l.foldl f s) := by
  induction l generalizing s with
  | nil => exact .refl s
  | cons a l ih => exact (h s a).trans (ih _)

/-! ### Generations (R70, R71) -/

theorem advanceActual_yields (s : State) : Yields s (advanceActual s) :=
  ⟨rfl, rfl, .inl rfl, fun x => by cases x <;> first | exact .inl rfl | exact .inr rfl, .inl rfl⟩

theorem advanceTrial_yields (s : State) : Yields s (advanceTrial s) :=
  ⟨rfl, rfl, .inl rfl, fun x => by cases x <;> first | exact .inl rfl | exact .inr rfl, .inl rfl⟩

/-- An advance of PLAN alone. -/
theorem planAdvanced_yields (s : State) : Yields s { s with eval := { s.eval with plan := s.eval.plan.advance } } :=
  ⟨rfl, rfl, .inl rfl, fun x => by cases x <;> first | exact .inl rfl | exact .inr rfl, .inl rfl⟩

theorem advancePlan_yields (s : State) : Yields s (advancePlan s) := by
  unfold advancePlan
  dsimp only
  split
  · exact planAdvanced_yields s
  · exact (planAdvanced_yields s).trans (advanceTrial_yields _)

theorem advance_yields (a p : Bool) (s : State) : Yields s (advance a p s) := by
  have hactual : Yields s (if a then advanceActual s else s) := by
    split
    · exact advanceActual_yields s
    · exact .refl s
  unfold advance
  dsimp only
  split
  · exact hactual.trans (advancePlan_yields _)
  · exact hactual

theorem advanceAllContexts_yields (s : State) : Yields s (advanceAllContexts s) :=
  ((advanceActual_yields s).trans (planAdvanced_yields _)).trans (advanceTrial_yields _)

/-- An advance behind a change that the evaluation unit does not see. -/
theorem Yields.advanced {s u : State} (a p : Bool) (e : u.pace = s.pace) : Yields s (advance a p u) :=
  (advance_yields a p u).after e

theorem Yields.planned {s u : State} (e : u.pace = s.pace) : Yields s (advancePlan u) := (advancePlan_yields u).after e

/-! ### Demands and rounds (R78, R139) -/

theorem postDemand_yields (k : DemandKey) (s : State) : Yields s (postDemand k s) := by
  rw [postDemand_form]
  exact ⟨rfl, rfl, .inl rfl, fun x => .inl (by cases x <;> rfl), .inl rfl⟩

/-- R83: a withdrawal abandons a prediction, and never a pass. -/
theorem withdrawDemand_yields (k : DemandKey) (s : State) : Yields s (withdrawDemand k s) := by
  refine ⟨rfl, rfl, .inl rfl, fun x => .inl (by cases x <;> rfl), ?_⟩
  change (if s.eval.unit.predictsFor k then UnitState.idle else s.eval.unit) = s.eval.unit ∨ _
  by_cases h : s.eval.unit.predictsFor k = true
  · refine .inr ⟨if_pos h, fun p hp => ?_⟩
    rw [hp] at h
    cases h
  · exact .inl (if_neg h)

theorem setTransferReason_pace (id : Nat) (p : Pending) (s : State) : (setTransferReason id p s).pace = s.pace := by
  unfold setTransferReason
  split <;> rfl

theorem stopLift_yields (r : LiftRef) (p : Pending) (s : State) : Yields s (stopLift r p s) :=
  (withdrawDemand_yields _ _).after (by simp [State.pace])

theorem decideEntry_yields (s : State) (e : GateEntry) : Yields s (decideEntry s e) := by
  unfold decideEntry
  split
  · split
    · exact stopLift_yields _ _ s
    · exact postDemand_yields _ s
  · split
    · exact (withdrawDemand_yields _ _).after (setTransferReason_pace _ _ s)
    · exact postDemand_yields _ s

theorem decisionRound_yields (s : State) : Yields s (decisionRound s) := .foldl decideEntry_yields _ s

/-- A round over a queue that the change has written. -/
theorem Yields.round {s u : State} (h : Yields s u) (q : List GateEntry) : Yields s (decisionRound (u.setQueue q)) :=
  h.trans ((decisionRound_yields (u.setQueue q)).after rfl)

theorem freeSlotOf_yields (r : LiftRef) (s : State) : Yields s (freeSlotOf r s) := by
  unfold freeSlotOf
  split
  · exact (decisionRound_yields _).after rfl
  · exact .refl s

/-! ### The ends of lifts and transfers (R122, R143, R145, R147, R153, R166, R170) -/

theorem releaseLift_yields (r : LiftRef) (kind : EndKind) (s : State) : Yields s (releaseLift r kind s) := by
  have hlot (u : State) (hu : Yields s u) :
      Yields s (clearStale r.cranes ((u.onLiftLot r Lot.returned).onRecs r.cranes (LiftRecord.ended kind))) :=
    hu.then (by simp [State.pace])
  have hleft : Yields s (withdrawDemand (.lift r.lead) (leaveQueue (.lift r) s)) :=
    (withdrawDemand_yields _ _).after rfl
  have hended : Yields s (liftEnded r kind s) := by
    unfold liftEnded
    dsimp only
    split
    · exact hlot _ (hleft.trans (withdrawDemand_yields _ _))
    · exact hlot _ hleft
  rw [releaseLift_eq]
  exact hended.trans ((freeSlotOf_yields r _).after (by simp [State.pace]))

theorem landLot_pace (d : Direction) (w : Landing) (l : LotRef) (s : State) : (landLot d w l s).pace = s.pace := by
  unfold landLot
  split <;> simp [State.pace]

theorem completeLift_yields (r : LiftRef) (s : State) : Yields s (completeLift r s) := by
  have hend (u : State) : Yields u
      (freeSlotOf r (latchLift r.cranes (clearStale r.cranes (u.onRecs r.cranes (LiftRecord.ended .completed))))) :=
    (freeSlotOf_yields r _).after (by simp [State.pace])
  unfold completeLift
  dsimp only
  split
  · exact (hend _).after (landLot_pace _ _ _ s)
  · exact hend s

theorem withdrawClearance_yields (r : LiftRef) (p : Pending) (s : State) : Yields s (withdrawClearance r p s) := by
  have hgone : Yields s (clearStale r.cranes
      (((withdrawDemand .recheck s).onRecs r.cranes (LiftRecord.requeued s.time p)).setSlot none)) :=
    (withdrawDemand_yields .recheck s).then (by simp [State.pace])
  have hadvanced (u : State) : Yields u (advanceActual (latchLift r.cranes (u.setQueue (.lift r :: u.gate.queue)))) :=
    (advanceActual_yields _).after (by simp [State.pace])
  exact (hgone.trans (hadvanced _)).trans (decisionRound_yields _)

theorem enterSuspension_yields (c : SuspendCause) (s : State) : Yields s (enterSuspension c s) := by
  have hlatched : Yields s (latchOn .suspend allLinks
      { s with monitor := { s.monitor with suspension := some { cause := c, time := s.time } } }) :=
    .of_pace (by simp [State.pace])
  unfold enterSuspension
  dsimp only
  split
  · exact hlatched.trans (withdrawClearance_yields _ _ _)
  · exact hlatched

theorem grantLift_yields (r : LiftRef) (s : State) : Yields s (grantLift r s) :=
  (advanceActual_yields _).after (by simp [State.pace, leaveQueue])

theorem removeTransfer_yields (id : Nat) (x : Transfer) (kind : EndKind) (s : State) :
    Yields s (removeTransfer id x kind s) := by
  have hleft : Yields s (withdrawDemand (.transfer id) (leaveQueue (.transfer id) s)) :=
    (withdrawDemand_yields _ _).after rfl
  unfold removeTransfer
  dsimp only
  rw [releaseTanks_form]
  exact hleft.then (by simp [State.pace, logEnd])

theorem grantTransfer_yields (id : Nat) (x : Transfer) (s : State) : Yields s (grantTransfer id x s) :=
  (advanceActual_yields _).after (by simp [State.pace, leaveQueue])

end Sys2Proof.Machine
end

section
/-! No body of a request begins a pass or a prediction, but for the changes of the mode (R8 to R11). -/

namespace Sys2Proof.Machine

/-! ### Lots, sequence, tanks -/

theorem namedLot_yields {id : Nat} {s : State} {f : Nat → Lot → State × Answer} (h : ∀ n k, Yields s (f n k).1) :
    Yields s (namedLot id s f).1 := by
  unfold namedLot
  split
  · exact .refl s
  · split
    · exact .refl s
    · exact h _ _

theorem bodyPlanLot_yields (a : PlanLotArgs) (s : State) : Yields s (bodyPlanLot a s).1 := by
  unfold bodyPlanLot
  split
  · exact .refl s
  split
  · split
    · exact .refl s
    · exact .planned rfl
  · split
    · exact .refl s
    split
    · exact .planned rfl
    · exact .refl s

theorem bodyUnplanLot_yields (id : Nat) (s : State) : Yields s (bodyUnplanLot id s).1 :=
  namedLot_yields fun n k => by
    split
    · exact .refl s
    · exact .planned rfl

theorem bodyPlaceLot_yields (a : PlaceLotArgs) (s : State) : Yields s (bodyPlaceLot a s).1 := by
  unfold bodyPlaceLot
  split
  · exact .refl s
  split
  · split
    · exact .refl s
    split
    · exact .refl s
    · exact .advanced true true rfl
  · split
    · exact .refl s
    · exact .advanced true true rfl

theorem bodyRemoveLot_yields (id : Nat) (s : State) : Yields s (bodyRemoveLot id s).1 :=
  namedLot_yields fun n k => by
    split
    · exact .refl s
    · exact .advanced true _ rfl

theorem bodyMarkDischarge_yields (id : Nat) (s : State) : Yields s (bodyMarkDischarge id s).1 :=
  namedLot_yields fun n k => by
    repeat' split
    · exact .refl s
    · exact .refl s
    · exact .planned rfl

theorem bodyUnmarkDischarge_yields (id : Nat) (s : State) : Yields s (bodyUnmarkDischarge id s).1 :=
  namedLot_yields fun n k => by
    repeat' split
    · exact .refl s
    · exact .refl s
    · exact .planned rfl

theorem bodyAcceptWeight_yields (id : Nat) (s : State) : Yields s (bodyAcceptWeight id s).1 :=
  namedLot_yields fun n k => by
    split
    · exact .refl s
    split
    · exact .refl s
    split
    · exact .refl s
    split
    · exact .advanced true _ rfl
    · exact .refl s

theorem bodySetTankManual_yields (k c d : Nat) (s : State) : Yields s (bodySetTankManual k c d s).1 := by
  unfold bodySetTankManual
  split
  · exact .refl s
  split
  · exact .refl s
  split
  · exact .refl s
  split
  · exact .refl s
  · exact .advanced _ _ rfl

theorem bodySetTankTarget_yields (k : Nat) (g : Option Target) (s : State) :
    Yields s (bodySetTankTarget k g s).1 := by
  unfold bodySetTankTarget
  split
  · exact .refl s
  split
  · exact .refl s
  split
  · exact .refl s
  split
  · exact .refl s
  · exact .planned rfl

theorem bodyInsertInSequence_pace (n d p : Nat) (s : State) : (bodyInsertInSequence n d p s).1.pace = s.pace := by
  unfold bodyInsertInSequence
  repeat' split
  all_goals rfl

theorem bodyRemoveFromSequence_pace (n : Nat) (s : State) : (bodyRemoveFromSequence n s).1.pace = s.pace := by
  unfold bodyRemoveFromSequence
  repeat' split
  all_goals rfl

/-! ### The trial stack (R81, R89, R95) -/

/-- R81: the emptied stack frees the unit of a TRIAL pass, and of nothing else. -/
theorem emptyTrial_unit (s : State) :
    ((emptyTrial s).eval.unit = s.eval.unit ∧ ∀ p, s.eval.unit = .pass p → p.ctx ≠ .trial)
    ∨ ((emptyTrial s).eval.unit = .idle ∧ ∃ p, s.eval.unit = .pass p ∧ p.ctx = .trial) := by
  unfold emptyTrial
  dsimp only
  split
  case h_1 p hp =>
    split
    case isTrue hx => exact .inr ⟨rfl, p, hp, hx⟩
    case isFalse hx =>
      refine .inl ⟨rfl, fun q hq => ?_⟩
      cases hp.symm.trans hq
      exact hx
  case h_2 hu => exact .inl ⟨rfl, fun p hp => absurd hp (hu p)⟩

/-- R81, R89: a change of the stack leaves TRIAL dirty, and its emptying frees the unit of a TRIAL pass alone. -/
theorem changeStack_yields (f : List (List Move)) (s : State) : Yields s (changeStack f s) := by
  have hadvanced : Yields s (advanceTrial (s.setFrames f)) :=
    ⟨rfl, rfl, .inr rfl, fun x => by cases x <;> first | exact .inl rfl | exact .inr rfl, .inl rfl⟩
  have hemptied (u : State) (hu : u.eval.trial.dirty = true) : Yields u (emptyTrial u) := by
    refine ⟨rfl, rfl, .inl rfl, fun x => ?_, ?_⟩
    · cases x
      case trial => exact .inr hu
      all_goals exact .inl rfl
    · rcases emptyTrial_unit u with ⟨he, _⟩ | ⟨hi, p, hp, hx⟩
      · exact .inl he
      · refine .inr ⟨hi, fun q hq => ?_⟩
        cases hp.symm.trans hq
        rw [hx]
        exact hu
  unfold changeStack
  dsimp only
  split
  · exact hadvanced.trans (hemptied _ rfl)
  · exact hadvanced

theorem bodyOpenFrame_yields (s : State) : Yields s (bodyOpenFrame s).1 := by
  unfold bodyOpenFrame
  split
  · exact changeStack_yields _ s
  · exact .of_pace rfl

theorem bodyAddMoves_yields (p : List Byte) (s : State) : Yields s (bodyAddMoves p s).1 := by
  unfold bodyAddMoves
  split
  · exact .refl s
  split
  · exact .of_pace rfl
  dsimp only
  split
  · exact .refl s
  · exact changeStack_yields _ s

theorem bodyDropFrame_yields (s : State) : Yields s (bodyDropFrame s).1 := by
  unfold bodyDropFrame
  split
  · exact .of_pace rfl
  · exact changeStack_yields _ s

theorem foldIntoPlan_yields (ms : List Move) (s : State) : Yields s (foldIntoPlan ms s).1 := by
  unfold foldIntoPlan
  split
  · exact .refl s
  · refine .trans ?_ (changeStack_yields [] _)
    split
    · exact .of_pace rfl
    · exact (planAdvanced_yields _).after rfl

theorem bodyFoldFrame_yields (s : State) : Yields s (bodyFoldFrame s).1 := by
  unfold bodyFoldFrame
  split
  · exact .of_pace rfl
  · exact foldIntoPlan_yields _ s
  · exact changeStack_yields _ s

/-! ### Readouts, suspension, snapshots and images -/

theorem clearSticky_yields (x : Ctx) (s : State) : Yields s (clearSticky x s) := by
  cases x <;> exact ⟨rfl, rfl, .inl rfl, fun y => .inl (by cases y <;> rfl), .inl rfl⟩

theorem bodyReadResults_yields (l : Link) (x p n c : Nat) (s : State) : Yields s (bodyReadResults l x p n c s).1 := by
  unfold bodyReadResults
  split
  · exact .refl s
  split
  · exact .refl s
  split
  · exact .refl s
  split
  · exact .refl s
  split
  · exact .refl s
  dsimp only
  split
  · exact clearSticky_yields _ s
  · exact .refl s

theorem bodySuspendWork_yields (s : State) : Yields s (bodySuspendWork s).1 := by
  unfold bodySuspendWork
  split
  · exact .refl s
  · exact enterSuspension_yields _ s

theorem bodyResumeWork_yields (s : State) : Yields s (bodyResumeWork s).1 := by
  unfold bodyResumeWork
  split
  · exact .refl s
  split
  · exact .refl s
  · exact (decisionRound_yields _).after (by simp [State.pace])

theorem bodyOpenSnapshot_pace (s : State) : (bodyOpenSnapshot s).1.pace = s.pace := by
  unfold bodyOpenSnapshot
  split <;> rfl

theorem bodyCloseSnapshot_pace (s : State) : (bodyCloseSnapshot s).1.pace = s.pace := by
  unfold bodyCloseSnapshot
  split <;> rfl

theorem bodyWriteImagePage_pace (n : Nat) (b : List Byte) (s : State) :
    (bodyWriteImagePage n b s).1.pace = s.pace := by
  unfold bodyWriteImagePage
  repeat' split
  all_goals rfl

theorem bodyApplyImage_yields (s : State) : Yields s (bodyApplyImage s).1 := by
  unfold bodyApplyImage
  split
  · exact .refl s
  split
  · exact .refl s
  · exact .advanced true true rfl

/-! ### Lifts -/

theorem acceptLift_yields (c : CraneId) (a : RequestLiftArgs) (d : Direction) (n : Nat) (k : Lot) (s : State) :
    Yields s (acceptLift c a d n k s).1 := by
  unfold acceptLift
  dsimp only
  split
  · exact .advanced true true rfl
  · refine .round (.advanced true true ?_) _
    rfl

theorem judgeLift_yields (c : CraneId) (a : RequestLiftArgs) (d : Direction) (n : Nat) (k : Lot) (s : State) :
    Yields s (judgeLift c a d n k s).1 := by
  have haccept (p : Prop) [Decidable p] :
      Yields s (if p then refuse .sequence s else acceptLift c a d n k s).1 := by
    split
    · exact .refl s
    · exact acceptLift_yields c a d n k s
  unfold judgeLift
  split
  · exact .refl s
  split
  · split
    · exact .refl s
    · exact haccept _
  · exact haccept _

theorem joinLift_yields (c : CraneId) (a : RequestLiftArgs) (t : TandemArgs) (d : Direction) (n : Nat) (k : Lot)
    (s : State) : Yields s (joinLift c a t d n k s).1 := by
  have hjoined (cs : List CraneId) (q : List GateEntry) (u : State) (hu : u.pace = s.pace) :
      Yields s (decisionRound (latchLift cs ((advanceActual u).setQueue q))) :=
    (((advanceActual_yields u).after hu).then (by simp [State.pace])).trans (decisionRound_yields _)
  unfold joinLift
  dsimp only
  split
  · exact .refl s
  split
  · exact .refl s
  · exact hjoined _ _ _ rfl

theorem bodyRequestLift_yields (l : Link) (a : RequestLiftArgs) (s : State) : Yields s (bodyRequestLift l a s).1 := by
  unfold bodyRequestLift
  dsimp only
  split
  · exact .refl s
  split
  · exact .refl s
  split
  · exact .refl s
  split
  · split
    · split
      · exact joinLift_yields _ _ _ _ _ _ s
      · exact judgeLift_yields _ _ _ _ _ s
    · exact judgeLift_yields _ _ _ _ _ s
  · exact .refl s

theorem timedRelease_yields (r : LiftRef) (kind : EndKind) (s : State) :
    Yields s (advance true true (releaseLift r kind s)) :=
  (releaseLift_yields r kind s).trans (advance_yields _ _ _)

theorem bodyCancelLift_yields (l : Link) (s : State) : Yields s (bodyCancelLift l s).1 := by
  unfold bodyCancelLift
  dsimp only
  split
  · exact timedRelease_yields _ _ s
  · exact .refl s

theorem hoist_yields (r : LiftRef) (m : Nat) (s : State) : Yields s (hoist r m s) := by
  have hweighed : ((s.onLiftLot r (Lot.weighed s.settings.discrepancyTol m)).onRecs r.cranes
      LiftRecord.hoisted).pace = s.pace := by simp [State.pace]
  exact ((withdrawDemand_yields .recheck _).after hweighed).then (by simp [State.pace, hoist])

theorem testLoadOn_yields (c : CraneId) (n : Nat) (s : State) : Yields s (testLoadOn c n s) := by
  have hconfirm (u : State) : Yields u (confirmOn c n u) := by
    unfold confirmOn
    split
    · exact hoist_yields _ _ u
    split
    · exact hoist_yields _ _ u
    · exact .of_pace rfl
  unfold testLoadOn
  dsimp only
  split
  · exact .refl s
  split
  · exact (hconfirm _).after rfl
  · exact .of_pace rfl

theorem liftOff_yields (r : LiftRef) (s : State) : Yields s (liftOff r s) := by
  unfold liftOff
  dsimp only
  split
  · exact (completeLift_yields r _).after (by simp [State.pace])
  · exact .of_pace (by simp [State.pace])

theorem testLoadOff_yields (c : CraneId) (n : Nat) (s : State) : Yields s (testLoadOff c n s) := by
  have hconfirm (u : State) : Yields u (confirmOff c u) := by
    unfold confirmOff
    split
    · exact liftOff_yields _ u
    split
    · exact liftOff_yields _ u
    · exact .of_pace rfl
  unfold testLoadOff
  dsimp only
  split
  · exact .refl s
  split
  · exact (hconfirm _).after rfl
  · exact .of_pace rfl

theorem applyReport_yields (c : CraneId) (n : Nat) (s : State) : Yields s (applyReport c n s) := by
  unfold applyReport
  split
  · exact testLoadOn_yields c n s
  · exact testLoadOff_yields c n s
  · exact testLoadOff_yields c n s
  · exact .refl s

theorem bodyHookReport_yields (l : Link) (n : Nat) (p : Pos) (s : State) : Yields s (bodyHookReport l n p s).1 := by
  have hreport (c : CraneId) (a b : Bool) (u : State) (hu : u.pace = s.pace) :
      Yields s (advance a b (applyReport c n u)) :=
    ((applyReport_yields c n u).after hu).trans (advance_yields a b _)
  unfold bodyHookReport
  dsimp only
  split
  · exact .refl s
  split
  · exact .refl s
  · exact hreport _ _ _ _ rfl

theorem bodyLandingReport_yields (l : Link) (a : LandingArgs) (s : State) : Yields s (bodyLandingReport l a s).1 := by
  have hcompleted (r : LiftRef) (u : State) (hu : u.pace = s.pace) : Yields s (advance true true (completeLift r u)) :=
    ((completeLift_yields r u).after hu).trans (advance_yields true true _)
  unfold bodyLandingReport
  dsimp only
  split
  · exact .refl s
  split
  · split
    · exact .refl s
    · exact .advanced true false (by simp [State.pace, beginLowering])
  · split
    · exact .refl s
    · exact hcompleted _ _ rfl
  · exact .refl s

/-! ### Transfers -/

theorem measure_pace (k : Nat) (s : State) : (measure k s).pace = s.pace := by
  unfold measure
  split
  · rfl
  split
  · rfl
  dsimp only
  split <;> simp [State.pace]

theorem takeReadings_pace (rs : List Reading) (s : State) : (takeReadings rs s).pace = s.pace := by
  have hone (d : ShipData) (r : Reading) (u : State) : (takeReading d r u).pace = u.pace := by
    unfold takeReading
    split
    · exact measure_pace _ _
    · exact measure_pace _ _
    · rfl
  unfold takeReadings
  induction rs generalizing s with
  | nil => rfl
  | cons r rs ih => exact (ih _).trans (hone _ r s)

theorem bodyTankReport_yields (p : List Byte) (s : State) : Yields s (bodyTankReport p s).1 := by
  unfold bodyTankReport
  split
  · exact .refl s
  dsimp only
  split
  · exact .refl s
  · exact .advanced true _ (takeReadings_pace _ s)

theorem setTankTransfers_pace (v : Option Nat) (ks : List Nat) (s : State) :
    (ks.foldl (setTankTransfer v) s).pace = s.pace := by
  induction ks generalizing s with
  | nil => rfl
  | cons k ks ih => exact ih _

theorem acceptTransfer_yields (a b : End) (n : Nat) (s : State) : Yields s (acceptTransfer a b n s).1 := by
  unfold acceptTransfer
  dsimp only
  exact (decisionRound_yields _).after (setTankTransfers_pace _ _ _)

theorem bodyRequestTransfer_yields (a b n : Nat) (s : State) : Yields s (bodyRequestTransfer a b n s).1 := by
  unfold bodyRequestTransfer
  split
  · exact .refl s
  dsimp only
  split
  · exact .refl s
  split
  · exact .refl s
  split
  · exact .refl s
  split
  · exact .refl s
  · exact acceptTransfer_yields _ _ _ s

theorem endGranted_yields (id : Nat) (x : Transfer) (kind : EndKind) (m : Nat) (o : Bool) (s : State) :
    Yields s (endGranted id x kind m o s).1 :=
  (removeTransfer_yields id x kind s).trans (advanceActual_yields _)

theorem bodyEndTransfer_yields (id : Nat) (s : State) : Yields s (bodyEndTransfer id s).1 := by
  unfold bodyEndTransfer
  split
  · exact .refl s
  split
  · exact .refl s
  · exact endGranted_yields _ _ _ _ _ s

theorem bodyCancelTransfer_yields (id : Nat) (s : State) : Yields s (bodyCancelTransfer id s).1 := by
  unfold bodyCancelTransfer
  split
  · exact .refl s
  split
  · exact removeTransfer_yields _ _ _ s
  · exact endGranted_yields _ _ _ _ _ s

/-! ### Ship data, settings and lines -/

theorem bodyWriteShipData_pace (b i : Nat) (e : List Byte) (s : State) :
    (bodyWriteShipData b i e s).1.pace = s.pace := by
  unfold bodyWriteShipData
  repeat' split
  all_goals rfl

theorem bodyCommitShipData_pace (s : State) : (bodyCommitShipData s).1.pace = s.pace := by
  unfold bodyCommitShipData
  repeat' split
  all_goals rfl

theorem bodyStoreSettings_pace (s : State) : (bodyStoreSettings s).1.pace = s.pace := by
  unfold bodyStoreSettings
  split <;> rfl

theorem bodyControlLine_pace (n m v : Nat) (s : State) : (bodyControlLine n m v s).1.pace = s.pace := by
  unfold bodyControlLine
  repeat' split
  all_goals rfl

theorem bodyClearLineStatus_pace (n : Nat) (s : State) : (bodyClearLineStatus n s).1.pace = s.pace := by
  unfold bodyClearLineStatus
  split <;> rfl

theorem rejudgedUnder_pace (w : Settings) (s : State) : (rejudgedUnder w s).pace = s.pace := by
  have hcranes (u : State) : (rejudgeCranes u).pace = u.pace := by
    obtain ⟨ls, e⟩ := rejudgeCranes_form u
    rw [e]
    rfl
  have htanks (u : State) : (rejudgeTanks u).pace = u.pace := by
    obtain ⟨ts, ls, e, _⟩ := rejudgeTanks_form u
    rw [e]
    rfl
  have hjudged : (if w.hookStale = s.settings.hookStale then { s with settings := w }
      else rejudgeCranes { s with settings := w }).pace = s.pace := by
    split
    · rfl
    · exact hcranes _
  unfold rejudgedUnder
  dsimp only
  split
  · exact hjudged
  · exact (htanks _).trans hjudged

theorem bodyWriteSetting_yields (i v : Nat) (s : State) : Yields s (bodyWriteSetting i v s).1 := by
  have happly : Yields s (applySetting i v s) := by
    rw [applySetting_eq]
    dsimp only
    split
    · exact (advanceAllContexts_yields _).after (rejudgedUnder_pace _ s)
    split
    · exact (advanceActual_yields _).after (rejudgedUnder_pace _ s)
    · exact .of_pace (rejudgedUnder_pace _ s)
  unfold bodyWriteSetting
  split
  · exact .refl s
  split
  · exact .refl s
  split
  · exact .refl s
  split
  · exact .refl s
  · exact happly

/-! ### Every request but the two that change the mode -/

theorem bodySetNoticeMask_pace (l : Link) (e m : Nat) (s : State) : (bodySetNoticeMask l e m s).1.pace = s.pace := by
  unfold bodySetNoticeMask
  dsimp only
  repeat' split
  all_goals rfl

/-- The requests that may change the operating mode. -/
def changesMode : Request → Bool
  | .enterConfiguration => true
  | .restart => true
  | _ => false

theorem bodyOf_yields (l : Link) {r : Request} (hm : changesMode r = false) (s : State) :
    Yields s (bodyOf l r s).1 := by
  by_cases hr : onlyReads r = true
  · exact .of_pace (congrArg State.pace (bodyOf_onlyReads l hr s))
  cases r <;> simp only [onlyReads, not_true_eq_false] at hr
  case enterConfiguration => cases hm
  case restart => cases hm
  case writeShipData b i e => exact .of_pace (bodyWriteShipData_pace b i e s)
  case commitShipData => exact .of_pace (bodyCommitShipData_pace s)
  case writeSetting i v => exact bodyWriteSetting_yields i v s
  case storeSettings => exact .of_pace (bodyStoreSettings_pace s)
  case controlLine n m v => exact .of_pace (bodyControlLine_pace n m v s)
  case clearLineStatus n => exact .of_pace (bodyClearLineStatus_pace n s)
  case planLot a => exact bodyPlanLot_yields a s
  case unplanLot n => exact bodyUnplanLot_yields n s
  case placeLot a => exact bodyPlaceLot_yields a s
  case removeLot n => exact bodyRemoveLot_yields n s
  case markDischarge n => exact bodyMarkDischarge_yields n s
  case unmarkDischarge n => exact bodyUnmarkDischarge_yields n s
  case acceptWeight n => exact bodyAcceptWeight_yields n s
  case insertInSequence n d p => exact .of_pace (bodyInsertInSequence_pace n d p s)
  case removeFromSequence n => exact .of_pace (bodyRemoveFromSequence_pace n s)
  case setTankManual k c d => exact bodySetTankManual_yields k c d s
  case setTankTarget k g => exact bodySetTankTarget_yields k g s
  case openFrame => exact bodyOpenFrame_yields s
  case addMoves p => exact bodyAddMoves_yields p s
  case dropFrame => exact bodyDropFrame_yields s
  case foldFrame => exact bodyFoldFrame_yields s
  case readResults c p n k => exact bodyReadResults_yields l c p n k s
  case acknowledgeRecords => exact .of_pace rfl
  case suspendWork => exact bodySuspendWork_yields s
  case resumeWork => exact bodyResumeWork_yields s
  case openSnapshot => exact .of_pace (bodyOpenSnapshot_pace s)
  case closeSnapshot => exact .of_pace (bodyCloseSnapshot_pace s)
  case writeImagePage n b => exact .of_pace (bodyWriteImagePage_pace n b s)
  case applyImage => exact bodyApplyImage_yields s
  case requestLift a => exact bodyRequestLift_yields l a s
  case cancelLift => exact bodyCancelLift_yields l s
  case hookReport n p => exact bodyHookReport_yields l n p s
  case landingReport a => exact bodyLandingReport_yields l a s
  case tankReport p => exact bodyTankReport_yields p s
  case requestTransfer a b n => exact bodyRequestTransfer_yields a b n s
  case endTransfer n => exact bodyEndTransfer_yields n s
  case cancelTransfer n => exact bodyCancelTransfer_yields n s
  case setNoticeMask e m => exact .of_pace (bodySetNoticeMask_pace l e m s)
  case readNotices => exact .of_pace rfl

end Sys2Proof.Machine
end

section
/-! What a command makes of the evaluation unit before its step is closed, the changes of the mode and the ends of
passes and predictions with it (R72, R73, R76, R79, R80, R82). -/

namespace Sys2Proof.Machine

/-! ### What a command leaves to the close of its step -/

/-- What a command leaves of `s` before the close of its step: contexts as current as they were, the alternation count
where a choice can follow, and a unit that goes on, is freed, or is at the LANDED pass of its prediction. -/
structure Opens (s u : State) : Prop where
  currency : currencySound s → currencySound u
  alt : u.mode = .service → u.eval.alt = s.eval.alt
  unit : u.eval.unit = s.eval.unit ∨ u.eval.unit = .idle
    ∨ ∃ p q, s.eval.unit = .predicting p ∧ u.eval.unit = .predicting q ∧ q.key = p.key ∧ q.phase = .landed

/-- R70 to R72: a change by which no pass begins leaves no context behind its inputs. -/
theorem Yields.currency {s t : State} (h : Yields s t) (hs : currencySound s) : currencySound t := by
  obtain ⟨hout, hin⟩ := hs
  refine ⟨fun hm => ?_, fun hm x hx => ?_⟩
  · rcases h.unit with e | ⟨hi, _⟩
    · exact e.trans (hout (h.mode ▸ hm))
    · exact hi
  · have hstamp : (t.ctx x).stamp = (s.ctx x).stamp := (h.ctx x).resolve_right (by simp [hx])
    simp only [CtxState.stamp, Prod.mk.injEq] at hstamp
    obtain ⟨hd, hg, hset⟩ := hstamp
    obtain ⟨hpass, hcur⟩ := hin (h.mode ▸ hm) x (hd ▸ hx)
    have hunit (p : Pass) (hp : p.ctx = x) : t.eval.unit = .pass p ↔ s.eval.unit = .pass p := by
      rcases h.unit with e | ⟨hi, hdirty⟩
      · rw [e]
      · rw [hi]
        refine ⟨fun hc => (by cases hc), fun hc => ?_⟩
        have := hdirty p hc
        rw [hp, hx] at this
        cases this
    refine ⟨fun p hp hpx => hg ▸ hpass p ((hunit p hpx).mp hp) hpx, ?_⟩
    rcases hcur with ⟨p, hp, hpx⟩ | hset' | ⟨rfl, hf⟩
    · exact .inl ⟨p, (hunit p hpx).mpr hp, hpx⟩
    · exact .inr (.inl (by rw [hset, hg, hset']))
    · refine .inr (.inr ⟨rfl, ?_⟩)
      rcases h.stack with e | hd'
      · rw [e, hf]
      · have : t.eval.trial.dirty = false := hx
        simp [this] at hd'

theorem Yields.opens {s t : State} (h : Yields s t) : Opens s t :=
  ⟨h.currency, fun _ => h.alt, h.unit.imp_right fun ⟨hi, _⟩ => .inl hi⟩

theorem Opens.then {s u t : State} (h : Opens s u) (g : Yields u t) : Opens s t where
  currency := g.currency ∘ h.currency
  alt hm := g.alt.trans (h.alt (g.mode ▸ hm))
  unit := by
    rcases g.unit with e | ⟨hi, _⟩
    · rw [e]; exact h.unit
    · exact .inr (.inl hi)

theorem Opens.after {s u t : State} (h : Opens u t) (e : u.pace = s.pace) : Opens s t := by
  have hs : currencySound s → currencySound u := (Yields.of_pace e).currency
  simp only [State.pace, Prod.mk.injEq] at e
  obtain ⟨_, _, he⟩ := e
  exact ⟨h.currency ∘ hs, he ▸ h.alt, he ▸ h.unit⟩

theorem Opens.refl (s : State) : Opens s s := (Yields.refl s).opens

/-- Outside SERVICE the unit is IDLE, and nothing is said of a context. -/
theorem Opens.outside {s u : State} (hm : u.mode ≠ .service) (hu : u.eval.unit = .idle) : Opens s u :=
  ⟨fun _ => ⟨fun _ => hu, fun h => absurd h hm⟩, fun h => absurd h hm, .inr (.inl hu)⟩

/-! ### Power and the modes (R8 to R11) -/

theorem changeMode_eval (m : Mode) (s : State) : (changeMode m s).eval = s.eval := latchOn_eval _ _ _

theorem changeMode_mode (m : Mode) (s : State) : (changeMode m s).mode = m := latchOn_mode _ _ _

/-- A change of the mode between two outside SERVICE. -/
theorem changeMode_opens {m : Mode} {s : State} (hs : s.mode ≠ .service) (hm : m ≠ .service) :
    Opens s (changeMode m s) := by
  have he := changeMode_eval m s
  have hmode := changeMode_mode m s
  exact ⟨fun ⟨hout, _⟩ => ⟨fun _ => by rw [he]; exact hout hs, fun h => absurd (hmode.symm.trans h) hm⟩,
    fun _ => by rw [he], .inl (by rw [he])⟩

theorem powerOnState_opens (s : State) : Opens s (powerOnState s) := .outside (by simp [powerOnState, State.reset]) rfl

theorem restartEngine_opens (s : State) : Opens s (restartEngine s) := by
  unfold restartEngine
  refine .outside ?_ ?_
  · rw [latchOn_mode]
    exact Mode.noConfusion
  · rw [latchOn_eval]
    rfl

/-- R10, R82: in SERVICE ACTUAL and PLAN are dirty, TRIAL holds no set over an empty stack, and the unit is IDLE; the
alternation count stands. -/
theorem enterService_opens (s : State) : Opens s (enterService s) := by
  have hkept : (abandonSnapshot s).eval = s.eval := by
    unfold abandonSnapshot
    split <;> rfl
  have heval : (enterService s).eval = (advance true true (clearedCondition (abandonSnapshot s))).eval :=
    changeMode_eval _ _
  have hframes : (enterService s).frames = [] :=
    (latchOn_frames _ _ _).trans (advance_frames true true (clearedCondition (abandonSnapshot s)))
  have hunit : (enterService s).eval.unit = .idle := by rw [heval]; rfl
  refine ⟨fun _ => ⟨fun _ => hunit, fun _ x hx => ?_⟩, fun _ => ?_, .inr (.inl hunit)⟩
  · cases x
    case actual =>
      have hd : (enterService s).eval.actual.dirty = true := by rw [heval]; rfl
      cases hd.symm.trans hx
    case plan =>
      have hd : (enterService s).eval.plan.dirty = true := by rw [heval]; rfl
      cases hd.symm.trans hx
    case trial =>
      refine ⟨fun p hp => ?_, .inr (.inr ⟨rfl, hframes⟩)⟩
      rw [hunit] at hp
      cases hp
  · rw [heval, ← hkept]
    rfl

theorem endInitializing_opens {s : State} (hm : s.mode = .initializing) : Opens s (endInitializing s) := by
  have hloaded : (loadShipData (loadSettings s)).pace = s.pace := by
    unfold loadSettings
    split <;> rfl
  have hmode : (loadShipData (loadSettings s)).mode = .initializing := (congrArg Prod.fst hloaded).trans hm
  unfold endInitializing
  dsimp only
  split
  · exact (enterService_opens _).after hloaded
  · exact (changeMode_opens (by rw [hmode]; exact Mode.noConfusion) Mode.noConfusion).after hloaded

theorem completeCommit_opens (s : State) : Opens s (completeCommit s) := (enterService_opens _).after rfl

theorem leaveService_opens (s : State) : Opens s (leaveService s) := by
  rw [leaveService_eq]
  exact .outside (by rw [changeMode_mode]; exact Mode.noConfusion) (by rw [changeMode_eval]; rfl)

theorem bodyEnterConfiguration_opens (s : State) : Opens s (bodyEnterConfiguration s).1 := by
  unfold bodyEnterConfiguration
  split
  · split
    · exact .refl s
    · exact leaveService_opens s
  · rename_i hm
    exact changeMode_opens (by rw [hm]; exact Mode.noConfusion) Mode.noConfusion
  · exact .refl s

/-- What every body leaves to the close of its step. -/
theorem bodyOf_opens (l : Link) (r : Request) (s : State) : Opens s (bodyOf l r s).1 := by
  by_cases hm : changesMode r = false
  · exact (bodyOf_yields l hm s).opens
  · cases r <;> simp only [changesMode, not_true_eq_false] at hm
    case enterConfiguration => exact bodyEnterConfiguration_opens s
    case restart => exact restartEngine_opens s

/-! ### Passes and predictions (R73, R79, R80) -/

/-- R72, R73: the set that a pass publishes is of the generation the pass captured. -/
theorem publishSet_opens {p : Pass} {s : State} (hu : s.eval.unit = .pass p) :
    Opens s (publishSet p (passSet s.ship p) s) := by
  have hctx (x : Ctx) : ((publishSet p (passSet s.ship p) s).ctx x).dirty = (s.ctx x).dirty
      ∧ ((publishSet p (passSet s.ship p) s).ctx x).gen = (s.ctx x).gen
      ∧ ((publishSet p (passSet s.ship p) s).ctx x).set.map ResultSet.gen
        = if p.ctx = x then some p.gen else (s.ctx x).set.map ResultSet.gen := by
    have hgen : (passSet s.ship p).gen = p.gen := (evaluate_sums s.ship p.rho p.gen p.tainted p.items).1
    rw [← hgen]
    generalize passSet s.ship p = r
    by_cases hx : p.ctx = x
    · subst hx
      rw [if_pos rfl]
      simp only [publishSet]
      cases p.ctx <;> exact ⟨rfl, rfl, rfl⟩
    · rw [if_neg hx]
      simp only [publishSet]
      cases hp : p.ctx <;> cases x <;> first | exact ⟨rfl, rfl, rfl⟩ | exact absurd hp hx
  refine ⟨fun ⟨_, hin⟩ => ⟨fun _ => rfl, fun hm x hx => ⟨fun q hq => (by cases hq), ?_⟩⟩, ?_, .inr (.inl rfl)⟩
  · obtain ⟨hd, hg, hset⟩ := hctx x
    obtain ⟨hpass, hcur⟩ := hin hm x (hd ▸ hx)
    rw [hset, hg]
    by_cases hpx : p.ctx = x
    · exact .inr (.inl (by rw [if_pos hpx, hpass p hu hpx]))
    · rw [if_neg hpx]
      refine .inr (hcur.resolve_left ?_)
      rintro ⟨q, hq, hqx⟩
      cases hu.symm.trans hq
      exact hpx hqx
  · intro _
    simp only [publishSet]
    cases p.ctx <;> rfl

theorem fillRecords_pace (g : Count32) (vs : List Violation) (s : State) : (fillRecords g vs s).pace = s.pace := by
  have hone (u : State) (v : Violation) : (fillRecord g u v).pace = u.pace := by
    unfold fillRecord
    dsimp only
    split
    · simp [State.pace]
    · rfl
  unfold fillRecords
  generalize vs.filter _ = us
  induction us generalizing s with
  | nil => rfl
  | cons v us ih => exact (ih _).trans (hone s v)

theorem noteViolations_pace (a b : List Violation) (s : State) : (noteViolations a b s).pace = s.pace := by
  unfold noteViolations
  dsimp only
  repeat' split
  all_goals simp [State.pace]

theorem autoSuspend_yields (s : State) : Yields s (autoSuspend s) := by
  unfold autoSuspend
  split
  · exact .refl s
  split
  · exact enterSuspension_yields _ s
  · exact .refl s

theorem recheckClearance_yields (s : State) : Yields s (recheckClearance s) := by
  unfold recheckClearance
  split
  · exact .refl s
  split
  · exact withdrawClearance_yields _ _ s
  · exact postDemand_yields _ s

theorem noteResults_pace (x : Ctx) (s : State) : (noteResults x s).pace = s.pace := by
  unfold noteResults
  split <;> simp [State.pace]

theorem publish_opens {p : Pass} {s : State} (hu : s.eval.unit = .pass p) : Opens s (publish p s) := by
  have hmonitor (vs : List Violation) (u : State) : Yields u (monitorActual p vs u) :=
    (autoSuspend_yields _).after
      ((fillRecords_pace _ _ _).trans ((noteViolations_pace _ _ (updateListOf p vs u)).trans rfl))
  have hgate (r : ResultSet) (u : State) : Yields u (gateActual r u) :=
    (Yields.after (s := u) (recheckClearance_yields (judgeWindow r u)) rfl).trans (decisionRound_yields _)
  have hset := publishSet_opens hu
  unfold publish
  dsimp only
  split
  · exact ((hset.then (hmonitor _ _)).then (hgate _ _)).then (.of_pace (noteResults_pace _ _))
  · exact hset.then (.of_pace (noteResults_pace _ _))

theorem predictionInFlight_eq_some {s : State} {p : Prediction} :
    predictionInFlight s = some p ↔ s.eval.unit = .predicting p := by
  unfold predictionInFlight
  split
  case h_1 q hq => simp [hq]
  case h_2 hne => exact ⟨fun h => (by cases h), fun h => absurd h (hne p)⟩

/-- R79: the LANDED pass follows for the same demand. -/
theorem completeHookPass_opens (s : State) : Opens s (completeHookPass s) := by
  unfold completeHookPass
  split
  case h_1 p hp =>
    have hu := predictionInFlight_eq_some.mp hp
    refine ⟨fun ⟨hout, hin⟩ => ⟨fun hm => ?_, fun hm x hx => ⟨fun q hq => (by cases hq), ?_⟩⟩, fun _ => rfl,
      .inr (.inr ⟨p, _, hu, rfl, rfl, rfl⟩)⟩
    · cases hu.symm.trans (hout hm)
    · obtain ⟨_, hcur⟩ := hin hm x (by cases x <;> exact hx)
      rcases hcur with ⟨q, hq, _⟩ | hset | htrial
      · cases hu.symm.trans hq
      · exact .inr (.inl (by cases x <;> exact hset))
      · exact .inr (.inr htrial)
  case h_2 => exact .refl s

theorem deliverLift_yields (r : LiftRef) (b : Bool) (w : Option CheckClass) (s : State) :
    Yields s (deliverLift r b w s) := by
  have hreason (f : LiftRecord → LiftRecord) : Yields s (s.onRecs r.cranes f) := .of_pace (by simp [State.pace])
  unfold deliverLift
  split
  · exact .refl s
  split
  · exact hreason _
  split
  · exact hreason _
  · exact grantLift_yields r s

theorem deliverRecheck_yields (b : Bool) (w : Option CheckClass) (s : State) : Yields s (deliverRecheck b w s) := by
  unfold deliverRecheck
  split
  · exact .refl s
  split
  · exact withdrawClearance_yields _ _ s
  split
  · exact withdrawClearance_yields _ _ s
  · exact .refl s

theorem deliverTransfer_yields (id : Nat) (b : Bool) (vs : List Violation) (s : State) :
    Yields s (deliverTransfer id b vs s) := by
  have hreason (p : Pending) : Yields s (setTransferReason id p s) := .of_pace (setTransferReason_pace id p s)
  unfold deliverTransfer
  split
  · exact .refl s
  split
  · exact .refl s
  split
  · exact .refl s
  split
  · exact hreason _
  split
  · split
    · exact grantTransfer_yields _ _ s
    · exact hreason _
  split
  · exact hreason _
  · exact grantTransfer_yields _ _ s

theorem passInFlight_eq_some {s : State} {p : Pass} : passInFlight s = some p ↔ s.eval.unit = .pass p := by
  unfold passInFlight
  split
  case h_1 q hq => simp [hq]
  case h_2 hne => exact ⟨fun h => (by cases h), fun h => absurd h (hne p)⟩

theorem completePrediction_yields (s : State) : Yields s (completePrediction s) := by
  unfold completePrediction
  split
  · exact .refl s
  rename_i p hp
  have hfreed (ks : List DemandKey) : Yields s { s with eval := { s.eval with unit := .idle, waiting := ks } } :=
    ⟨rfl, rfl, .inl rfl, fun x => .inl (by cases x <;> rfl), .inr ⟨rfl, fun q hq => by
      cases (predictionInFlight_eq_some.mp hp).symm.trans hq⟩⟩
  dsimp only
  split
  · unfold deliver
    split
    · exact (hfreed s.eval.waiting).trans (deliverRecheck_yields _ _ _)
    · exact (hfreed s.eval.waiting).trans (deliverLift_yields _ _ _ _)
    · exact (hfreed s.eval.waiting).trans (deliverTransfer_yields _ _ _ _)
  · exact hfreed _

end Sys2Proof.Machine
end

section
/-! The close of a step: the arbiter's choice (R76 to R79), and the evaluation unit's invariants over every step. -/

namespace Sys2Proof.Machine

/-! ### The arbiter's choice (R77, R122) -/

theorem demandRuns_eq_false {s : State} {k : DemandKey} :
    demandRuns s k = false ↔ (∃ c, k = .lift c) ∧ s.suspended = true := by
  cases k <;> simp [demandRuns]

/-- No demand of `ks` that is WAITING may be run. -/
def NoneWaits (s : State) (ks : List DemandKey) : Prop :=
  ∀ k ∈ ks, k ∈ s.eval.waiting → (∃ c, k = .lift c) ∧ s.suspended = true

theorem not_candidate_iff {s : State} {k : DemandKey} :
    (s.eval.waiting.contains k && demandRuns s k) = false
      ↔ (k ∈ s.eval.waiting → (∃ c, k = .lift c) ∧ s.suspended = true) := by
  rw [← demandRuns_eq_false, Bool.and_eq_false_iff]
  simp only [← Bool.not_eq_true, List.contains_iff_mem]
  tauto

theorem firstDemand_eq_none {s : State} : firstDemand s = none ↔ NoneWaits s (demandOrder s) := by
  simp only [firstDemand, List.find?_eq_none, Bool.not_eq_true, not_candidate_iff, NoneWaits]

/-- R77, R78: the demand chosen is the first in the demand order that may be run. -/
theorem firstDemand_first {s : State} {k : DemandKey} (h : firstDemand s = some k) :
    (∃ before after, demandOrder s = before ++ k :: after ∧ NoneWaits s before)
      ∧ ∀ c, k = .lift c → s.suspended = false := by
  obtain ⟨hk, before, after, horder, hbefore⟩ := List.find?_eq_some_iff_append.mp h
  refine ⟨⟨before, after, horder, fun j hj => ?_⟩, ?_⟩
  · exact not_candidate_iff.mp (by simpa only [Bool.not_eq_true'] using hbefore j hj)
  · rintro c rfl
    simpa [demandRuns] using (Bool.and_eq_true_iff.mp hk).2

/-- What the arbiter can choose. -/
inductive Choice (s : State) : State → Prop
  | actual (hd : s.eval.actual.dirty = true) (ha : s.eval.alt < 2 ∨ nonActualWaits s = false) :
      Choice s (beginPass .actual (min (s.eval.alt + 1) 2) s)
  | demand (k : DemandKey) (hk : firstDemand s = some k) (ha : s.eval.actual.dirty = true → 2 ≤ s.eval.alt) :
      Choice s (beginPrediction k s)
  | plan (hk : firstDemand s = none) (hd : s.eval.plan.dirty = true)
      (ha : s.eval.actual.dirty = true → 2 ≤ s.eval.alt) :
      Choice s (beginPass .plan 0 s)
  | trial (hk : firstDemand s = none) (hp : s.eval.plan.dirty = false) (hd : trialEligible s = true)
      (ha : s.eval.actual.dirty = true → 2 ≤ s.eval.alt) : Choice s (beginPass .trial 0 s)
  | idle (ha : s.eval.actual.dirty = false) (hn : nonActualWaits s = false) : Choice s s

theorem choose_choice (s : State) : Choice s (choose s) := by
  unfold choose
  split
  case isTrue h =>
    simp only [Bool.and_eq_true, Bool.or_eq_true, decide_eq_true_eq, Bool.not_eq_true'] at h
    exact .actual h.1 h.2
  case isFalse h =>
    simp only [Bool.and_eq_true, Bool.or_eq_true, decide_eq_true_eq, Bool.not_eq_true', not_and, not_or,
      Nat.not_lt, Bool.not_eq_false] at h
    have ha (hd : s.eval.actual.dirty = true) : 2 ≤ s.eval.alt := (h hd).1
    split
    case h_1 k hk => exact .demand k hk ha
    case h_2 hk =>
      split
      case isTrue hp => exact .plan hk hp ha
      case isFalse hp =>
        have hp : s.eval.plan.dirty = false := by simpa using hp
        split
        case isTrue ht => exact .trial hk hp ht ha
        case isFalse ht =>
          have hn : nonActualWaits s = false := by simp [nonActualWaits, hk, hp, ht]
          refine .idle ?_ hn
          by_contra hd
          rw [(h (by simpa using hd)).2] at hn
          cases hn

/-! ### The close of a step -/

theorem settle_eval (s : State) : (settle s).eval = (kick s).eval := by simp [settle]

/-- The close of a step takes the arbiter's choice in SERVICE from an IDLE unit, and leaves the unit otherwise. -/
theorem settle_eval_cases (s : State) :
    (s.mode = .service ∧ s.eval.unit = .idle ∧ ∃ c, Choice s c ∧ (settle s).eval = c.eval)
    ∨ (¬ (s.mode = .service ∧ s.eval.unit = .idle) ∧ (settle s).eval = s.eval) := by
  rw [settle_eval]
  unfold kick
  split
  case isTrue h => exact .inl ⟨h.1, h.2, _, choose_choice s, rfl⟩
  case isFalse h => exact .inr ⟨h, rfl⟩

@[simp] theorem settle_suspended (s : State) : (settle s).suspended = s.suspended := by simp [State.suspended]

@[simp] theorem settle_demandOrder (s : State) : demandOrder (settle s) = demandOrder s := by simp [demandOrder]

/-- The part of a state that `arbiterBusy` reads. -/
def State.candidates (s : State) : Mode × List (List Move) × UnitState × (Bool × Bool × Bool) × List DemandKey
    × List GateEntry × Bool :=
  (s.mode, s.frames, s.eval.unit, (s.eval.actual.dirty, s.eval.plan.dirty, s.eval.trial.dirty), s.eval.waiting,
    s.gate.queue, s.suspended)

theorem demandRuns_congr {s t : State} (h : t.suspended = s.suspended) : demandRuns t = demandRuns s := by
  funext k
  cases k <;> simp only [demandRuns, h]

theorem arbiterBusy_congr {s t : State} (h : t.candidates = s.candidates) : arbiterBusy t = arbiterBusy s := by
  simp only [State.candidates, Prod.mk.injEq] at h
  obtain ⟨hm, hf, hu, ⟨ha, hp, ht⟩, hw, hq, hs⟩ := h
  simp only [arbiterBusy, firstDemand, demandOrder, trialEligible, demandRuns_congr hs, hm, hf, hu, ha, hp, ht, hw, hq]

theorem arbiterBusy_of_busy {s : State} (h : ¬ (s.mode = .service ∧ s.eval.unit = .idle)) : arbiterBusy s = true := by
  have : (decide (s.mode = .service) && decide (s.eval.unit = .idle)) = false := by
    rw [← Bool.decide_and, decide_eq_false_iff_not]
    exact h
  simp [arbiterBusy, this]

/-- R76: no step that is closed leaves the unit IDLE over a candidate. -/
theorem arbiterBusy_settle (s : State) : arbiterBusy (settle s) = true := by
  rcases settle_eval_cases s with ⟨hm, hu, c, hc, he⟩ | ⟨hn, he⟩
  · cases hc with
    | idle ha hn =>
      have hkept : arbiterBusy (settle s) = arbiterBusy s :=
        arbiterBusy_congr (by simp only [State.candidates, he, settle_mode, settle_frames, settle_gate_queue,
          settle_suspended])
      simp only [nonActualWaits, Bool.or_eq_false_iff] at hn
      obtain ⟨⟨hd, hp⟩, ht⟩ := hn
      rw [hkept]
      simp [arbiterBusy, ha, hd, hp, ht]
    | actual _ _ => exact arbiterBusy_of_busy (by simp [he, beginPass])
    | demand _ _ _ => exact arbiterBusy_of_busy (by simp [he, beginPrediction])
    | plan _ _ _ => exact arbiterBusy_of_busy (by simp [he, beginPass])
    | trial _ _ _ _ => exact arbiterBusy_of_busy (by simp [he, beginPass])
  · exact arbiterBusy_of_busy (by rw [he, settle_mode]; exact hn)

/-- R72: a pass that begins captures the present generation of its context and leaves it clean; the others stand. -/
theorem currencySound_beginPass {s : State} (hm : s.mode = .service) (hu : s.eval.unit = .idle) (h : currencySound s)
    (x : Ctx) (n : Nat) : currencySound (beginPass x n s) := by
  obtain ⟨_, hin⟩ := h
  have hother (y : Ctx) (hy : y ≠ x) : (beginPass x n s).ctx y = s.ctx y := by
    cases x <;> cases y <;> first | rfl | exact absurd rfl hy
  have hgen : ((beginPass x n s).ctx x).gen = (s.ctx x).gen := by cases x <;> rfl
  refine ⟨fun h => absurd hm h, fun _ y hy => ?_⟩
  by_cases hyx : y = x
  · subst hyx
    refine ⟨fun p hp _ => ?_, .inl ⟨capturePass s y, rfl, rfl⟩⟩
    cases hp
    exact hgen.symm
  · rw [hother y hyx] at hy ⊢
    obtain ⟨_, hcur⟩ := hin hm y hy
    refine ⟨fun p hp hpy => ?_, .inr (hcur.resolve_left ?_)⟩
    · cases hp
      exact absurd hpy.symm hyx
    · rintro ⟨p, hp, _⟩
      cases hu.symm.trans hp

theorem currencySound_beginPrediction {s : State} (hm : s.mode = .service) (hu : s.eval.unit = .idle)
    (h : currencySound s) (k : DemandKey) : currencySound (beginPrediction k s) := by
  obtain ⟨_, hin⟩ := h
  refine ⟨fun h => absurd hm h, fun _ y hy => ?_⟩
  have hctx : (beginPrediction k s).ctx y = s.ctx y := by cases y <;> rfl
  rw [hctx] at hy ⊢
  obtain ⟨_, hcur⟩ := hin hm y hy
  refine ⟨fun p hp => (by cases hp), .inr (hcur.resolve_left ?_)⟩
  rintro ⟨p, hp, _⟩
  cases hu.symm.trans hp

theorem currencySound_choice {s c : State} (hm : s.mode = .service) (hu : s.eval.unit = .idle) (h : currencySound s)
    (hc : Choice s c) : currencySound c := by
  cases hc with
  | actual _ _ => exact currencySound_beginPass hm hu h _ _
  | demand k _ _ => exact currencySound_beginPrediction hm hu h k
  | plan _ _ _ => exact currencySound_beginPass hm hu h _ _
  | trial _ _ _ _ => exact currencySound_beginPass hm hu h _ _
  | idle _ _ => exact h

theorem choice_frame {s c : State} (h : Choice s c) : c.mode = s.mode ∧ c.frames = s.frames := by
  cases h <;> exact ⟨rfl, rfl⟩

theorem currencySound_settle {s : State} (h : currencySound s) : currencySound (settle s) := by
  rcases settle_eval_cases s with ⟨hm, hu, c, hc, he⟩ | ⟨_, he⟩
  · obtain ⟨hmode, hframes⟩ := choice_frame hc
    exact (Yields.of_pace (by simp [State.pace, hmode, hframes, he])).currency
      (currencySound_choice hm hu h hc)
  · exact (Yields.of_pace (by simp [State.pace, he])).currency h

end Sys2Proof.Machine
end

section
/-! The evaluation unit's invariants over every command, and the work that a step begins (R70 to R72, R76 to R79). -/

namespace Sys2Proof.Machine

/-! ### Answers that close no step (R178) -/

def Answer.isQuiet : Answer → Bool
  | .quiet _ => true
  | _ => false

/-- A body that answers quietly leaves what the arbiter chooses among as it is. -/
def Quiet (s : State) (a : State × Answer) : Prop := a.2.isQuiet = false ∨ a.1.candidates = s.candidates

theorem clearSticky_candidates (x : Ctx) (s : State) : (clearSticky x s).candidates = s.candidates := by
  cases x <;> rfl

theorem bodyReadResults_quiet (l : Link) (x p n c : Nat) (s : State) : Quiet s (bodyReadResults l x p n c s) := by
  unfold bodyReadResults
  dsimp only
  repeat' split
  case h_2.isFalse.isFalse.isFalse.isFalse.isTrue => exact .inr (clearSticky_candidates _ s)
  all_goals exact .inr rfl

/-- Every quiet answer of the other bodies is given with the state as it was. -/
theorem bodyOf_quiet (l : Link) (r : Request) (s : State) : Quiet s (bodyOf l r s) := by
  by_cases hr : onlyReads r = true
  · exact .inr (congrArg State.candidates (bodyOf_onlyReads l hr s))
  cases r <;> simp only [onlyReads, not_true_eq_false] at hr
  case readResults c p n k => exact bodyReadResults_quiet l c p n k s
  all_goals
    simp only [bodyOf, bodyEnterConfiguration, bodyWriteShipData, bodyCommitShipData, bodyWriteSetting,
      bodyStoreSettings, bodyControlLine, bodyClearLineStatus, bodyRestart, bodyPlanLot, bodyUnplanLot, bodyPlaceLot,
      bodyRemoveLot, bodyMarkDischarge, bodyUnmarkDischarge, bodyAcceptWeight, namedLot, bodyInsertInSequence,
      bodyRemoveFromSequence, bodySetTankManual, bodySetTankTarget, bodyOpenFrame, bodyAddMoves, bodyDropFrame,
      bodyFoldFrame, foldIntoPlan, bodyAcknowledgeRecords, bodySuspendWork, bodyResumeWork, bodyOpenSnapshot,
      bodyCloseSnapshot, bodyWriteImagePage, bodyApplyImage, bodyRequestLift, judgeLift, joinLift, acceptLift,
      bodyCancelLift, bodyHookReport, bodyLandingReport, bodyTankReport, bodyRequestTransfer, acceptTransfer,
      bodyEndTransfer, bodyCancelTransfer, bodySetNoticeMask, bodyReadNotices, endGranted]
    repeat' split
    all_goals first | exact .inl rfl | exact .inr rfl

/-! ### What a command leaves (R76) -/

/-- What a command leaves of `s`: the close of what it opens, or, unclosed, a state with no candidate more. -/
def Leaves (s t : State) : Prop :=
  (∃ u, Opens s u ∧ t = settle u) ∨ (Opens s t ∧ (arbiterBusy s = true → arbiterBusy t = true))

theorem Opens.closed {s u : State} (h : Opens s u) : Leaves s (settle u) := .inl ⟨u, h, rfl⟩

theorem Leaves.of_candidates {s t : State} (h : Opens s t) (e : t.candidates = s.candidates) : Leaves s t :=
  .inr ⟨h, fun hb => (arbiterBusy_congr e).trans hb⟩

/-- A change of what neither the arbiter nor the currency of a context reads. -/
theorem Leaves.unseen {s t : State} (hp : t.pace = s.pace) (e : t.candidates = s.candidates) : Leaves s t :=
  .of_candidates (Yields.of_pace hp).opens e

theorem Leaves.refl (s : State) : Leaves s s := .unseen rfl rfl

theorem Leaves.onLink (l : Link) (f : LinkUnit → LinkUnit) (s : State) : Leaves s (s.onLink l f) :=
  .unseen rfl rfl

/-- Outside SERVICE there is no candidate. -/
theorem Leaves.outside {s t : State} (h : Opens s t) (hm : t.mode ≠ .service) : Leaves s t :=
  .inr ⟨h, fun _ => arbiterBusy_of_busy fun hc => hm hc.1⟩

theorem Leaves.after {s u t : State} (h : Leaves u t) (e : u.candidates = s.candidates) (hp : u.pace = s.pace) :
    Leaves s t := by
  rcases h with ⟨v, hv, rfl⟩ | ⟨ht, hb⟩
  · exact (hv.after hp).closed
  · exact .inr ⟨ht.after hp, fun hs => hb ((arbiterBusy_congr e).trans hs)⟩

theorem finish_leaves {s : State} {l : Link} {a : State × Answer} (ho : Opens s a.1) (hq : Quiet s a) :
    Leaves s (finish l a.2 a.1) := by
  have hlink (f : LinkUnit → LinkUnit) : Opens s (a.1.onLink l f) := ho.then (.of_pace rfl)
  unfold finish
  split
  case h_1 rep hrep =>
    refine .of_candidates ((hlink (LinkUnit.fill .current rep)).then (.of_pace rfl)) (hq.resolve_left ?_)
    rw [hrep]
    exact Bool.noConfusion
  case h_2 => exact (hlink _).closed
  case h_3 => exact (hlink _).closed
  case h_4 => exact ho.closed

theorem finish_body_leaves (l j : Link) (f : LinkUnit → LinkUnit) (r : Request) (s : State) :
    Leaves s (finish l (bodyOf l r (s.onLink j f)).2 (bodyOf l r (s.onLink j f)).1) :=
  (finish_leaves (bodyOf_opens l r _) (bodyOf_quiet l r _)).after rfl rfl

theorem finish_refusal_leaves (l j : Link) (f : LinkUnit → LinkUnit) (rep : Reply) (s : State) :
    Leaves s (finish l (.quiet rep) (s.onLink j f)) :=
  (finish_leaves (a := (s.onLink j f, .quiet rep)) (.refl _) (.inr rfl)).after rfl rfl

theorem takenAs_leaves (l : Link) (k t : Byte) (req : Option Request) (s : State) :
    Leaves s (takenAs l k t req (bodyOf l) s) := by
  rcases takenAs_cases l k t req (bodyOf l) s with ⟨st, e⟩ | ⟨r, _, _, _, e⟩
  · rw [e]
    exact finish_refusal_leaves l l _ _ s
  · rw [e]
    exact finish_body_leaves l l _ r s

theorem interruptStore_pace (s : State) : (interruptStore s).pace = s.pace := by
  rw [interruptStore_form]
  rfl

theorem restartLine_leaves (s : State) : Leaves s (startAllTx (restartEngine { s with restartArmed := false })) := by
  have ho (u : State) : Opens u (startAllTx (restartEngine u)) :=
    (restartEngine_opens u).then (.of_pace (by simp [State.pace]))
  refine .outside ((ho { s with restartArmed := false }).after rfl) ?_
  rw [startAllTx_mode, restartEngine, latchOn_mode]
  exact Mode.noConfusion

theorem completeStore_opens (s : State) : Opens s (completeStore s) := Yields.opens (.of_pace rfl)

theorem completeSnapshot_opens (s : State) : Opens s (completeSnapshot s) := by
  unfold completeSnapshot
  split
  · exact .refl s
  · exact Yields.opens (.of_pace rfl)

theorem craneBecomesStale_opens (c : CraneId) (s : State) : Opens s (advanceActual (craneGoesStale c s)) :=
  ((advanceActual_yields _).after (by simp [State.pace, craneGoesStale])).opens

theorem tankBecomesStale_opens (k : Nat) (s : State) : Opens s (advanceActual (tankGoesStale k s)) :=
  ((advanceActual_yields _).after (by simp [State.pace, tankGoesStale])).opens

theorem timeoutLift_opens (c : CraneId) (s : State) : Opens s (timeoutLift c s) := (timedRelease_yields _ _ s).opens

theorem timeoutTransfer_opens (k : Nat) (s : State) : Opens s (timeoutTransfer k s) := by
  unfold timeoutTransfer
  split
  · exact (removeTransfer_yields _ _ _ s).opens
  · exact .refl s

/-- What every command leaves. -/
theorem exec_leaves {i : Instr} {s t : State} (h : exec i s = .next t) : Leaves s t := by
  have hdue {due : State → Bool} {f : State → State} (hf : due s = true → Opens s (f s))
      (hx : dueEvent due f s = .next t) : Leaves s t := by
    rcases dueEvent_cases hx with rfl | ⟨_, hd, rfl⟩
    · exact .refl _
    · exact (hf hd).closed
  have hev {f : State → State} (hf : Leaves s (f s)) (hx : event f s = .next t) : Leaves s t := by
    rcases event_cases hx with ⟨_, rfl⟩ | ⟨_, rfl⟩
    · exact .refl _
    · exact hf
  rcases hr : i.request with _ | ⟨l, tag, r⟩
  · cases i <;> simp only [Instr.request, reduceCtorEq] at hr <;> simp only [exec] at h
    case powerOn =>
      cases h
      exact .outside (powerOnState_opens s) Mode.noConfusion
    case restartLine =>
      refine hev ?_ h
      split
      · exact restartLine_leaves s
      · exact .refl s
    case endOfInitializing => exact hdue (fun hd => endInitializing_opens (of_decide_eq_true hd)) h
    case timebaseAdvance => exact hev (.unseen rfl rfl) h
    case commitCompletion => exact hdue (fun _ => completeCommit_opens s) h
    case storeSettingsCompletion => exact hdue (fun _ => completeStore_opens s) h
    case openSnapshotCompletion => exact hdue (fun _ => completeSnapshot_opens s) h
    case pairingTimeout c => exact hdue (fun _ => timeoutLift_opens c s) h
    case requestTimeout c => exact hdue (fun _ => timeoutLift_opens c s) h
    case clearanceLapse => exact hdue (f := fun s => timeoutLift (slotLead s) s) (fun _ => timeoutLift_opens _ s) h
    case craneBecomesStale c => exact hdue (fun _ => craneBecomesStale_opens c s) h
    case tankBecomesStale k => exact hdue (fun _ => tankBecomesStale_opens k s) h
    case transferRequestTimeout k => exact hdue (fun _ => timeoutTransfer_opens k s) h
    case publication =>
      refine hdue (fun _ => ?_) h
      split
      case h_1 p hp => exact publish_opens (passInFlight_eq_some.mp hp)
      case h_2 => exact .refl s
    case hookPassComplete => exact hdue (fun _ => completeHookPass_opens s) h
    case predictionCompletion => exact hdue (fun _ => (completePrediction_yields s).opens) h
    case frameReceived l cs => exact hev (.onLink l _ s) h
    case characterGapTimeout l => exact hev (.onLink l _ s) h
    case lineBreak l => exact hev (.onLink l _ s) h
    case takeFrame l =>
      rcases takeFrame_cases (by exact h) with rfl | ⟨f, rest, _, _, _, rfl⟩
      · exact .refl _
      · exact (takenAs_leaves l _ _ _ _).after rfl rfl
    case frameDeparture l => exact hev (.onLink l _ s) h
    case powerLoss =>
      have hstand : (interruptStore s).candidates = s.candidates := by
        rw [interruptStore_form]
        rfl
      rcases event_cases h with ⟨_, rfl⟩ | ⟨_, rfl⟩
      · exact .refl _
      · exact .unseen (interruptStore_pace s) hstand
    case receiveLineReturnToIdle l =>
      cases h
      exact .onLink l _ s
    case restartInputReturnToRest =>
      cases h
      exact .unseen rfl rfl
  · rw [exec_request hr] at h
    rcases command_cases h with rfl | ⟨_, f, rfl⟩ | ⟨_, _, _, st, rfl⟩ | ⟨_, _, _, _, _, rfl⟩
    · exact .refl _
    · exact .onLink l _ s
    · exact finish_refusal_leaves l l _ _ s
    · exact finish_body_leaves l l _ r s

theorem step_leaves {s t : State} (h : step s = .next t) : Leaves s t := by
  unfold step at h
  split at h
  · cases h
    exact .refl s
  · exact (exec_leaves h).after rfl rfl

theorem Leaves.arbiterBusy {s t : State} (h : Leaves s t) (hs : arbiterBusy s = true) : arbiterBusy t = true := by
  rcases h with ⟨u, _, rfl⟩ | ⟨_, hb⟩
  · exact arbiterBusy_settle u
  · exact hb hs

theorem Leaves.currencySound {s t : State} (h : Leaves s t) (hs : currencySound s) : currencySound t := by
  rcases h with ⟨u, hu, rfl⟩ | ⟨ht, _⟩
  · exact currencySound_settle (hu.currency hs)
  · exact ht.currency hs

/-! ### What a step begins (R72, R76 to R79, R122) -/

/-- A unit that a command has not changed but to free it, or to go on to the LANDED pass. -/
theorem Opens.goes_on {s u : State} (h : Opens s u) (k : DemandKey) (hk : u.eval.unit.predictsFor k = true) :
    s.eval.unit.predictsFor k = true := by
  rcases h.unit with e | hi | ⟨p, q, hp, hq, hkey, _⟩
  · rwa [← e]
  · rw [hi] at hk
    cases hk
  · rw [hq] at hk
    rw [hp]
    simpa only [UnitState.predictsFor, hkey] using hk

/-- The close of a step takes the choice `c` from `u`. -/
structure Chosen (u c : State) : Prop where
  mode : u.mode = .service
  idle : u.eval.unit = .idle
  choice : Choice u c
  eval : (settle u).eval = c.eval

/-- R72, R76: a pass or a prediction that was not in flight before a command, but for a LANDED pass, is one that the
arbiter has chosen at the close of its step. -/
theorem Leaves.begins {s t : State} (h : Leaves s t) (hne : t.eval.unit ≠ s.eval.unit) :
    t.eval.unit = .idle ∨ (∃ q, t.eval.unit = .predicting q ∧ q.phase = .landed)
    ∨ ∃ u c, t = settle u ∧ u.eval.alt = s.eval.alt ∧ Chosen u c := by
  have hopen {u : State} (ho : Opens s u) (he : t.eval = u.eval) :
      t.eval.unit = .idle ∨ ∃ q, t.eval.unit = .predicting q ∧ q.phase = .landed := by
    rw [he] at hne ⊢
    rcases ho.unit with e | hi | ⟨_, q, _, hq, _, hl⟩
    · exact absurd e hne
    · exact .inl hi
    · exact .inr ⟨q, hq, hl⟩
  rcases h with ⟨u, ho, rfl⟩ | ⟨ho, _⟩
  · rcases settle_eval_cases u with ⟨hm, hu, c, hc, he⟩ | ⟨_, he⟩
    · exact .inr (.inr ⟨u, c, rfl, ho.alt hm, hm, hu, hc, he⟩)
    · exact (hopen ho he).imp_right .inl
  · exact (hopen ho rfl).imp_right .inl

/-! Captures read nothing that the close of a step writes. -/

theorem capturePass_standing (s : State) (x : Ctx) : capturePass s.standing x = capturePass s x := by
  cases x <;> rfl

theorem capturePrediction_standing (s : State) (k : DemandKey) :
    capturePrediction s.standing k = capturePrediction s k := rfl

theorem capturePass_settle (s : State) (x : Ctx) : capturePass (settle s) x = capturePass s x := by
  rw [← capturePass_standing, settle_standing, capturePass_standing]

theorem capturePrediction_settle (s : State) (k : DemandKey) :
    capturePrediction (settle s) k = capturePrediction s k := by
  rw [← capturePrediction_standing, settle_standing, capturePrediction_standing]

@[simp] theorem capturePrediction_key (s : State) (k : DemandKey) : (capturePrediction s k).key = k := by
  unfold capturePrediction
  dsimp only
  repeat' split
  all_goals rfl

end Sys2Proof.Machine
end

section
/-! The work that the arbiter's choice begins, and the statement about the evaluation unit (R70 to R72, R76 to R79). -/

namespace Sys2Proof.Machine

/-! ### What a choice begins (R72, R77, R79) -/

section
variable {u c : State} (h : Chosen u c)
include h

theorem Chosen.noneWaits (hw : ∀ k ∈ c.eval.waiting, k ∈ u.eval.waiting) {ks : List DemandKey}
    (hn : NoneWaits u ks) : NoneWaits (settle u) ks := by
  intro k hk hkw
  rw [h.eval] at hkw
  simpa using hn k hk (hw k hkw)

/-- R77: nothing but ACTUAL is a candidate. -/
theorem Chosen.noOther (hw : c.eval.waiting = u.eval.waiting) (hp : c.eval.plan = u.eval.plan)
    (ht : c.eval.trial = u.eval.trial) (hn : nonActualWaits u = false) :
    NoneWaits (settle u) (demandOrder (settle u)) ∧ (settle u).eval.plan.dirty = false
      ∧ ((settle u).eval.trial.dirty = true → (settle u).frames = []) := by
  simp only [nonActualWaits, Bool.or_eq_false_iff, Option.isSome_eq_false_iff, Option.isNone_iff_eq_none] at hn
  obtain ⟨⟨hd, hpd⟩, htd⟩ := hn
  refine ⟨?_, by rw [h.eval, hp, hpd], fun hdirty => ?_⟩
  · rw [settle_demandOrder]
    exact h.noneWaits (fun k hk => hw ▸ hk) (firstDemand_eq_none.mp hd)
  · rw [h.eval, ht] at hdirty
    simpa [trialEligible, hdirty] using htd

/-- R72, R77: a pass that is chosen, its capture, and what stood back for it. -/
theorem Chosen.passes {p : Pass} (hp : (settle u).eval.unit = .pass p) :
    (settle u).mode = .service ∧ p = capturePass (settle u) p.ctx ∧ ((settle u).ctx p.ctx).dirty = false
      ∧ (p.ctx = .actual → (settle u).eval.alt = min (u.eval.alt + 1) 2
        ∧ (u.eval.alt < 2 ∨ (NoneWaits (settle u) (demandOrder (settle u)) ∧ (settle u).eval.plan.dirty = false
          ∧ ((settle u).eval.trial.dirty = true → (settle u).frames = []))))
      ∧ (p.ctx ≠ .actual → (settle u).eval.alt = 0 ∧ NoneWaits (settle u) (demandOrder (settle u))
        ∧ ((settle u).eval.actual.dirty = true → 2 ≤ u.eval.alt))
      ∧ (p.ctx = .trial → (settle u).eval.plan.dirty = false ∧ (settle u).frames ≠ []) := by
  have hctx (x : Ctx) : (settle u).ctx x = c.ctx x := ctx_of_eval h.eval x
  have hmode : (settle u).mode = .service := (settle_mode u).trans h.mode
  have hcapture (x : Ctx) : capturePass u x = capturePass (settle u) x := (capturePass_settle u x).symm
  have hother (hw : c.eval.waiting = u.eval.waiting) (hk : firstDemand u = none) :
      NoneWaits (settle u) (demandOrder (settle u)) := by
    rw [settle_demandOrder]
    exact h.noneWaits (fun k hk => hw ▸ hk) (firstDemand_eq_none.mp hk)
  have he := h.eval
  rw [he] at hp
  cases h.choice with
  | actual hd ha =>
    cases hp
    refine ⟨hmode, hcapture .actual, by rw [hctx]; rfl, fun _ => ⟨by rw [he]; rfl, ?_⟩, fun hx => absurd rfl hx,
      fun hx => Ctx.noConfusion hx⟩
    exact ha.imp_right (h.noOther rfl rfl rfl)
  | demand k hk ha => cases hp
  | plan hk hd ha =>
    cases hp
    exact ⟨hmode, hcapture .plan, by rw [hctx]; rfl, fun hx => Ctx.noConfusion hx,
      fun _ => ⟨by rw [he]; rfl, hother rfl hk, fun hd => ha (by rw [he] at hd; exact hd)⟩,
      fun hx => Ctx.noConfusion hx⟩
  | trial hk hpd hd ha =>
    cases hp
    refine ⟨hmode, hcapture .trial, by rw [hctx]; rfl, fun hx => Ctx.noConfusion hx,
      fun _ => ⟨by rw [he]; rfl, hother rfl hk, fun hd => ha (by rw [he] at hd; exact hd)⟩,
      fun _ => ⟨by rw [he]; exact hpd, ?_⟩⟩
    rw [settle_frames]
    rintro hf
    simp [trialEligible, hf] at hd
  | idle _ _ => cases h.idle.symm.trans hp

/-- R77 to R79, R122: a prediction that is chosen, its capture, and what stood back for it. -/
theorem Chosen.predicts {q : Prediction} (hq : (settle u).eval.unit = .predicting q) :
    (settle u).mode = .service ∧ q = capturePrediction (settle u) q.key ∧ q.key ∉ (settle u).eval.waiting
      ∧ (settle u).eval.alt = 0 ∧ ((settle u).eval.actual.dirty = true → 2 ≤ u.eval.alt)
      ∧ ∃ before after, demandOrder (settle u) = before ++ q.key :: after ∧ NoneWaits (settle u) before
        ∧ ∀ c, q.key = .lift c → (settle u).suspended = false := by
  have he := h.eval
  rw [he] at hq
  cases h.choice with
  | actual _ _ => cases hq
  | demand k hk ha =>
    cases hq
    obtain ⟨⟨before, after, horder, hbefore⟩, hsus⟩ := firstDemand_first hk
    rw [capturePrediction_key, he, settle_demandOrder, settle_suspended]
    refine ⟨(settle_mode u).trans h.mode, (capturePrediction_settle u k).symm, by simp [beginPrediction], rfl, ha,
      before, after, horder, h.noneWaits (fun j hj => List.mem_of_mem_filter hj) hbefore, hsus⟩
  | plan _ _ _ => cases hq
  | trial _ _ _ _ => cases hq
  | idle _ _ => cases h.idle.symm.trans hq

end

/-! ### The statement -/

theorem predictsFor_iff {u : UnitState} {k : DemandKey} :
    u.predictsFor k = true ↔ ∃ q, u = .predicting q ∧ q.key = k := by
  cases u <;> simp [UnitState.predictsFor]

/-- R122: no lift prediction begins under suspension. -/
theorem Leaves.suspended {s t : State} (h : Leaves s t) {c : CraneId} (hs : t.suspended = true)
    (ht : t.eval.unit.predictsFor (.lift c) = true) : s.eval.unit.predictsFor (.lift c) = true := by
  rcases h with ⟨u, ho, rfl⟩ | ⟨ho, _⟩
  · rcases settle_eval_cases u with ⟨hm, hu, d, hd, he⟩ | ⟨_, he⟩
    · obtain ⟨q, hq, hkey⟩ := predictsFor_iff.mp ht
      obtain ⟨_, _, _, _, _, _, _, _, _, hsus⟩ := Chosen.predicts ⟨hm, hu, hd, he⟩ hq
      cases (hsus c hkey).symm.trans hs
    · exact ho.goes_on _ (he ▸ ht)
  · exact ho.goes_on _ ht

/-- Settles O7: every command either closes its step, which leaves no candidate waiting over an IDLE unit, or changes
nothing the arbiter sees (`exec_leaves`); contexts stay as current as they were (`Opens.currency`), and what begins is
what the arbiter has chosen (`Leaves.begins`). -/
theorem unitIsNeverIdleInVain : Obligations.UnitIsNeverIdleInVain := by
  refine ⟨fun s t hs h => (step_leaves h).arbiterBusy hs, fun s t hs h => (step_leaves h).currencySound hs,
    fun s t c h hs ht => (step_leaves h).suspended hs ht, fun i s t h hne => ?_⟩
  rcases (exec_leaves h).begins hne with hi | ⟨r, hr, hl⟩ | ⟨u, c, rfl, halt, hc⟩
  · exact ⟨fun p hp => (by cases hi.symm.trans hp), fun q hq => (by cases hi.symm.trans hq)⟩
  · refine ⟨fun p hp => (by cases hr.symm.trans hp), fun q hq hlanded => ?_⟩
    cases hr.symm.trans hq
    exact absurd hl hlanded
  · rw [← halt]
    exact ⟨fun p hp => hc.passes hp, fun q hq _ => hc.predicts hq⟩

end Sys2Proof.Machine
end

section
/-! The reads of results, violations, records, lifts and transfers (R75, R115, R118, R156, R172). -/

namespace Sys2Proof.Machine

/-! ### Read Results (R74, R75, R192) -/

/-- A ready request whose body answers quietly after a change of what no link holds leaves that change with its reply
queued. -/
theorem command_quiet_changes {s s' : State} {l : Link} {r : Request} {t : Byte} {body : State → State × Answer}
    {rep : Reply} (h : Ready s l r) (hl : s'.links = s.links)
    (hb : body (s.onLink l (LinkUnit.reserve r.kind t)) = (s'.onLink l (LinkUnit.reserve r.kind t), .quiet rep)) :
    command l t r body s = .next (answered l r t rep s') := by
  rw [command_ready h, hb]
  simp only [finish, answered, onLink_onLink]
  congr 1
  apply onLink_congr
  simp only [LinkUnit.reserve, LinkUnit.fill, onLink_mode, hl]
  rw [onReserved_current (noneServed_get h.none l)]

section
variable {l : Link} {context part page clear : Nat}

theorem bodyReadResults_no_part (h : ctxOf context = none ∨ 3 < part ∨ (part ≠ 3 ∧ page ≠ 0)) (s : State) :
    bodyReadResults l context part page clear s = refuse .badValue s := by
  unfold bodyReadResults
  split
  · rfl
  · rename_i x hx
    split
    · rfl
    · rename_i hp
      exact if_pos ((h.resolve_left (by simp [hx])).resolve_left hp)

variable {x : Ctx} (hx : ctxOf context = some x) (hp : part ≤ 3) (hn : part ≠ 3 → page = 0)
include hx hp hn

/-- R75: past the checks of its values, a read is refused by the role of its link, or answered. -/
theorem bodyReadResults_eq (s : State) :
    bodyReadResults l context part page clear s =
      if l ≠ .l0 ∧ (x ≠ .actual ∨ clear = 1) then refuse .badRole s
      else if part = 3 ∧ 1 ≤ page ∧ (pressuresIn (s.ctx x).set).length ≤ 32 * page then refuse .badValue s
      else (if clear = 1 then clearSticky x s else s,
        .quiet ⟨.done, resultsCommon x (s.ctx x) part ++ resultsPart s x part page⟩) := by
  have hpage : ¬ (part ≠ 3 ∧ page ≠ 0) := fun h => h.2 (hn h.1)
  simp only [bodyReadResults, hx, Nat.not_lt.mpr hp, hpage, if_false]

end

section
variable {s : State} {l : Link} {tag : Byte} {context part page clear : Nat}
  (h : Ready s l (.readResults context part page clear))
include h

theorem readResults_no_part (hbad : ctxOf context = none ∨ 3 < part ∨ (part ≠ 3 ∧ page ≠ 0)) :
    Refuses (.readResults l tag context part page clear) l (.readResults context part page clear) tag .badValue s :=
  command_quiet h (bodyReadResults_no_part hbad _)

variable {x : Ctx} (hx : ctxOf context = some x) (hp : part ≤ 3) (hn : part ≠ 3 → page = 0)
include hx hp hn

theorem readResults_no_role (hl : l ≠ .l0) (hrole : x ≠ .actual ∨ clear = 1) :
    Refuses (.readResults l tag context part page clear) l (.readResults context part page clear) tag .badRole s :=
  command_quiet h ((bodyReadResults_eq hx hp hn _).trans (if_pos ⟨hl, hrole⟩))

variable (hrole : l = .l0 ∨ (x = .actual ∧ clear ≠ 1))
include hrole

theorem readResults_no_page (h3 : part = 3) (h1 : 1 ≤ page) (hlen : (pressuresIn (s.ctx x).set).length ≤ 32 * page) :
    Refuses (.readResults l tag context part page clear) l (.readResults context part page clear) tag .badValue s := by
  have hrole : ¬ (l ≠ .l0 ∧ (x ≠ .actual ∨ clear = 1)) := by tauto
  exact command_quiet h ((bodyReadResults_eq hx hp hn _).trans ((if_neg hrole).trans (if_pos ⟨h3, h1, hlen⟩)))

theorem readResults_answers (hin : part ≠ 3 ∨ page = 0 ∨ 32 * page < (pressuresIn (s.ctx x).set).length) :
    exec (.readResults l tag context part page clear) s = .next (answered l (.readResults context part page clear) tag
      ⟨.done, resultsCommon x (s.ctx x) part ++ resultsPart s x part page⟩
      (if clear = 1 then clearSticky x s else s)) := by
  have hrole : ¬ (l ≠ .l0 ∧ (x ≠ .actual ∨ clear = 1)) := by tauto
  have hpage : ¬ (part = 3 ∧ 1 ≤ page ∧ (pressuresIn (s.ctx x).set).length ≤ 32 * page) := by omega
  refine command_quiet_changes h (by split <;> rfl)
    ((bodyReadResults_eq hx hp hn _).trans ((if_neg hrole).trans ((if_neg hpage).trans ?_)))
  split <;> rfl

end

/-! ### The reads that change nothing (R115, R118, R156, R172) -/

/-- R115: past the checks of its values, a read is refused when its page lies past the list, or answered. -/
theorem bodyReadViolations_eq {context page : Nat} {x : Ctx} (hx : ctxOf context = some x) (hp : page ≤ 5) (s : State) :
    bodyReadViolations context page s =
      if 1 ≤ page ∧ (listOf s x).entries.length ≤ 8 * page then refuse .badValue s
      else (s, .quiet ⟨.done, violationsPage s.settings.severity x (listOf s x) page⟩) := by
  simp only [bodyReadViolations, hx, Nat.not_lt.mpr hp, if_false]

section
variable {s : State} {l : Link} {tag : Byte} {context page : Nat} (h : Ready s l (.readViolations context page))
include h

theorem readViolations_no_page (hbad : ctxOf context = none ∨ 5 < page) :
    Refuses (.readViolations l tag context page) l (.readViolations context page) tag .badValue s := by
  refine command_quiet h ?_
  unfold bodyReadViolations
  split
  · rfl
  · rename_i x hx
    exact if_pos (hbad.resolve_left (by simp [hx]))

variable {x : Ctx} (hx : ctxOf context = some x) (hp : page ≤ 5)
include hx hp

theorem readViolations_past_end (h1 : 1 ≤ page) (hlen : (listOf s x).entries.length ≤ 8 * page) :
    Refuses (.readViolations l tag context page) l (.readViolations context page) tag .badValue s :=
  command_quiet h ((bodyReadViolations_eq hx hp _).trans (if_pos ⟨h1, hlen⟩))

theorem readViolations_answers (hin : page = 0 ∨ 8 * page < (listOf s x).entries.length) :
    Answers (.readViolations l tag context page) l (.readViolations context page) tag
      ⟨.done, violationsPage s.settings.severity x (listOf s x) page⟩ s := by
  have hpage : ¬ (1 ≤ page ∧ (listOf s x).entries.length ≤ 8 * page) := by omega
  exact command_quiet h ((bodyReadViolations_eq hx hp _).trans (if_neg hpage))

end

/-- Settles O37: each read by the cases of its body, on the state with its reply's place reserved. -/
theorem resultAndMonitorReadsComplete : Obligations.ResultAndMonitorReadsComplete := by
  refine ⟨fun s l tag c part page clear h => ⟨readResults_no_part h, fun x hx hp hn =>
      ⟨readResults_no_role h hx hp hn, fun hrole => ⟨readResults_no_page h hx hp hn hrole,
        readResults_answers h hx hp hn hrole⟩⟩⟩, fun s l tag => ⟨fun c page h => ?_, ?_, ?_, fun part h => ?_⟩⟩
  · exact ⟨readViolations_no_page h, fun x hx hp => ⟨readViolations_past_end h hx hp, readViolations_answers h hx hp⟩⟩
  · exact fun h => command_quiet h rfl
  · exact fun h => command_quiet h rfl
  · refine ⟨fun hp => command_quiet h (if_pos hp), fun hp => command_quiet h ?_, fun hp => command_quiet h ?_⟩
    · exact (if_neg (by omega)).trans (if_pos hp)
    · exact (if_neg (by omega)).trans (if_neg (by omega))

end Sys2Proof.Machine
end

section
/-! The trial stack: Open Frame and Drop Frame, and what the emptied stack leaves (R81, R83, R89, R90, R93, R97). -/

namespace Sys2Proof.Machine

/-! ### A change of the stack (R81, R89) -/

theorem changeStack_of_ne_nil {f : List (List Move)} (hf : f ≠ []) (s : State) :
    changeStack f s = advanceTrial { s with frames := f } := by
  unfold changeStack
  simp only [List.isEmpty_iff, hf, if_false]
  rfl

theorem changeStack_links (f : List (List Move)) (s : State) : (changeStack f s).links = s.links := by
  unfold changeStack
  dsimp only
  split <;> rfl

theorem changeStack_onLink (f : List (List Move)) (l : Link) (g : LinkUnit → LinkUnit) (s : State) :
    changeStack f (s.onLink l g) = (changeStack f s).onLink l g := by
  unfold changeStack
  dsimp only
  split <;> rfl

/-- R81: TRIAL over the emptied stack, but for what the close of a step may write. -/
theorem changeStack_nil_standing (s : State) :
    (changeStack [] s).standing =
      State.standing { s with
        frames := []
        eval := { s.eval with
          trial := { s.eval.trial with gen := s.eval.trial.gen + 1, set := none, sticky := ⟨false, false, false⟩ } }
        monitor := { s.monitor with trial := ViolationList.emptied } } := rfl

/-- A ready request whose body makes a change of what no link holds, and then of the stack, is answered with the figures
after it. -/
theorem command_stackDone {s v : State} {l : Link} {r : Request} {t : Byte} {body : State → State × Answer}
    {f : List (List Move)} (h : Ready s l r) (hl : v.links = s.links)
    (hb : body (s.onLink l (LinkUnit.reserve r.kind t))
      = stackDone (changeStack f (v.onLink l (LinkUnit.reserve r.kind t)))) :
    ∃ x, command l t r body s = .next x ∧ x.standing = (changeStack f v).standing
      ∧ x.sends l (replyFrame ⟨.done, stackFigures f⟩ r.kind t) := by
  refine command_changes h ((changeStack_links f v).trans hl) (hb.trans ?_)
  rw [changeStack_onLink, stackDone, onLink_frames, changeStack_frames]

/-- R97: a ready request that the stack cannot take latches TRIAL_FAULT on L0 and is answered with the figures and the
kind of the fault. -/
theorem command_stackFault {s : State} {l : Link} {r : Request} {t : Byte} {body : State → State × Answer} {k : Nat}
    (h : Ready s l r)
    (hb : body (s.onLink l (LinkUnit.reserve r.kind t)) = stackFault [] k (s.onLink l (LinkUnit.reserve r.kind t))) :
    ∃ x, command l t r body s = .next x ∧ x.standing = (latch .trialFault .l0 s).standing
      ∧ x.sends l (replyFrame ⟨.stackFault, stackFigures s.frames ++ encU 1 k⟩ r.kind t) :=
  command_reply h hb (holds_latch (holds_reserve h.none l r.kind t))
    (latch_standing_congr (standing_onLink (standing_reserve _ _ _)))

/-! ### The emptied stack (R81, R83) -/

/-- R77: over an empty stack the close of a step leaves TRIAL as it is and begins no pass of it. -/
theorem settle_of_no_frames {s : State} (hf : s.frames = []) :
    (settle s).eval.trial = s.eval.trial
      ∧ ∀ q, (settle s).eval.unit = .pass q → q.ctx = .trial → s.eval.unit = .pass q := by
  rcases settle_eval_cases s with ⟨_, hu, c, hc, he⟩ | ⟨_, he⟩
  · rw [he]
    cases hc with
    | actual _ _ => exact ⟨rfl, fun q hq hx => by cases hq; cases hx⟩
    | demand _ _ _ => exact ⟨rfl, fun q hq => by cases hq⟩
    | plan _ _ _ => exact ⟨rfl, fun q hq hx => by cases hq; cases hx⟩
    | trial _ _ hd _ => simp [trialEligible, hf] at hd
    | idle _ _ => exact ⟨rfl, fun _ hq _ => hq⟩
  · rw [he]
    exact ⟨rfl, fun _ hq _ => hq⟩

theorem settle_unit_of_busy {s : State} (h : s.eval.unit ≠ .idle) : (settle s).eval.unit = s.eval.unit := by
  rcases settle_eval_cases s with ⟨_, hu, _⟩ | ⟨_, he⟩
  · exact absurd hu h
  · rw [he]

/-- R81, R83: a command that closes its step over the stack it has emptied. -/
theorem emptiesTrial_of_changeStack {i : Instr} {s v : State} {l : Link} {f : LinkUnit → LinkUnit}
    (h : exec i s = .next (settle ((changeStack [] v).onLink l f))) (hv : v.eval.unit = s.eval.unit) :
    EmptiesTrial i s := by
  have hframes : ((changeStack [] v).onLink l f).frames = [] := changeStack_frames [] v
  obtain ⟨htrial, hpass⟩ := settle_of_no_frames hframes
  have hunit := emptyTrial_unit (advanceTrial (v.setFrames []))
  have hkept : (advanceTrial (v.setFrames [])).eval.unit = s.eval.unit := hv
  rw [hkept] at hunit
  refine ⟨_, h, (settle_frames _).trans hframes, by rw [htrial]; rfl, by rw [htrial]; rfl, fun q hq hx => ?_,
    fun hne hother => ?_⟩
  · have hq' : (emptyTrial (advanceTrial (v.setFrames []))).eval.unit = .pass q := hpass q hq hx
    rcases hunit with ⟨he, hnot⟩ | ⟨hi, _⟩
    · exact hnot q (he.symm.trans hq') hx
    · cases hi.symm.trans hq'
  · rcases hunit with ⟨he, _⟩ | ⟨_, p, hp, hx⟩
    · have he : ((changeStack [] v).onLink l f).eval.unit = s.eval.unit := he
      rw [settle_unit_of_busy (by rwa [he]), he]
    · exact absurd hx (hother p hp)

/-- A ready request whose body empties the stack. -/
theorem command_emptiesTrial {i : Instr} {s v : State} {l : Link} {r : Request} {t : Byte}
    (hi : i.request = some (l, t, r)) (h : Ready s l r) (hv : v.eval.unit = s.eval.unit)
    (hb : bodyOf l r (s.onLink l (LinkUnit.reserve r.kind t)) = stackDone (changeStack [] v)) : EmptiesTrial i s := by
  refine emptiesTrial_of_changeStack (l := l)
    (f := LinkUnit.fill .current ⟨.done, stackFigures (changeStack [] v).frames⟩) ?_ hv
  rw [exec_request hi, command_ready h, hb]
  rfl

/-! ### Open Frame and Drop Frame (R90, R93, R97) -/

theorem bodyDropFrame_of_ne_nil {s : State} (hf : s.frames ≠ []) :
    bodyDropFrame s = stackDone (changeStack s.frames.dropLast s) := by
  unfold bodyDropFrame
  rw [if_neg (by simpa [List.isEmpty_iff] using hf)]

theorem stackFigures_openFrame (fs : List (List Move)) :
    stackFigures (fs ++ [[]]) = encU 1 (fs.length + 1) ++ encU 1 fs.flatten.length := by
  simp [stackFigures, poolInUse]

theorem stackFigures_dropFrame (fs : List (List Move)) :
    stackFigures fs.dropLast = encU 1 (fs.length - 1) ++ encU 1 fs.dropLast.flatten.length := by
  simp [stackFigures, poolInUse]

theorem openFrame_completes {s : State} {l : Link} {tag : Byte} (h : Ready s l .openFrame)
    (hroom : s.frames.length < 4) :
    Completes (.openFrame l tag) l s (advanceTrial { s with frames := s.frames ++ [[]] })
      (replyFrame ⟨.done, encU 1 (s.frames.length + 1) ++ encU 1 s.frames.flatten.length⟩ 0x20#8 tag) := by
  have hdone := command_stackDone (body := bodyOpenFrame) (t := tag) h rfl (if_pos hroom)
  rw [changeStack_of_ne_nil (by simp), onLink_frames, stackFigures_openFrame] at hdone
  exact hdone

theorem dropFrame_completes {s : State} {l : Link} {tag : Byte} (h : Ready s l .dropFrame) (hne : s.frames ≠ []) :
    Completes (.dropFrame l tag) l s (changeStack s.frames.dropLast s)
      (replyFrame ⟨.done, encU 1 (s.frames.length - 1) ++ encU 1 s.frames.dropLast.flatten.length⟩ 0x22#8 tag) := by
  have hdone := command_stackDone (body := bodyDropFrame) (t := tag) h rfl (bodyDropFrame_of_ne_nil hne)
  rw [onLink_frames, stackFigures_dropFrame] at hdone
  exact hdone

/-- Settles O34: each clause is a change of the stack (`command_stackDone`, `command_emptiesTrial`) or a fault
(`command_stackFault`). -/
theorem framesOpenAndDrop : Obligations.FramesOpenAndDrop := by
  intro s l tag
  refine ⟨fun h => ⟨openFrame_completes h, fun hfull => ?_⟩,
    fun h => ⟨fun hdeep => ?_, fun hlast => ?_, fun hlast => ?_, fun hnone => ?_⟩⟩
  · exact command_stackFault (body := bodyOpenFrame) (t := tag) h (if_neg (Nat.not_lt.mpr hfull))
  · have hkept : s.frames.dropLast ≠ [] :=
      List.ne_nil_of_length_pos (by rw [List.length_dropLast]; omega)
    rw [← changeStack_of_ne_nil hkept]
    exact dropFrame_completes h (List.ne_nil_of_length_pos (by omega))
  · obtain ⟨moves, hone⟩ := List.length_eq_one_iff.mp hlast
    obtain ⟨x, hx, hstand, hsends⟩ := dropFrame_completes (tag := tag) h (by rw [hone]; simp)
    rw [hone] at hstand hsends
    exact ⟨x, hx, hstand.trans (changeStack_nil_standing s), hsends⟩
  · obtain ⟨moves, hone⟩ := List.length_eq_one_iff.mp hlast
    refine command_emptiesTrial (v := s.onLink l (LinkUnit.reserve Request.dropFrame.kind tag)) rfl h rfl ?_
    have hbody := bodyDropFrame_of_ne_nil (s := s.onLink l (LinkUnit.reserve Request.dropFrame.kind tag))
      (by rw [onLink_frames, hone]; simp)
    rw [onLink_frames, hone] at hbody
    exact hbody
  · have hfault := command_stackFault (body := bodyDropFrame) (t := tag) (k := underflowKind) h (by
      unfold bodyDropFrame
      rw [if_pos (by rw [onLink_frames, hnone]; rfl)])
    rw [hnone] at hfault
    exact hfault

end Sys2Proof.Machine
end

section
/-! The trial stack: Fold Frame into the frame below or into the plan (R94 to R97). -/

namespace Sys2Proof.Machine

/-! ### One move against the condition (R95, R96) -/

theorem foldMoves_of_error {c : Condition} {m : Move} {e : FoldFail} (h : foldMove c m = .error e) (i : Nat)
    (rest : List Move) : foldMoves c i (m :: rest) = .error (e, i) := by
  rw [foldMoves, h]

theorem foldMoves_of_ok {c c' : Condition} {m : Move} (h : foldMove c m = .ok c') (i : Nat) (rest : List Move) :
    foldMoves c i (m :: rest) = foldMoves c' (i + 1) rest := by
  rw [foldMoves, h]

theorem foldCreate_of_known {c : Condition} {id : Nat} (h : findLot c.lots id ≠ none) (mass : Nat) (target : Loc)
    (foot : Option Footprint) : foldCreate c id mass target foot = .error .lotState :=
  if_pos (Option.isSome_iff_ne_none.mpr h)

theorem foldCreate_of_unknown {c : Condition} {id : Nat} (h : findLot c.lots id = none) (mass : Nat) (target : Loc)
    (foot : Option Footprint) :
    foldCreate c id mass target foot =
      match freeSlot c.lots with
      | none => .error .full
      | some n => .ok { c with lots := tput c.lots n (newPlanned id mass target foot) } := by
  unfold foldCreate
  rw [h]
  rfl

section
variable {c : Condition} {id n : Nat} {k : Lot} {act : Nat → Lot → Condition}

theorem foldPlanned_of_unknown (h : findLot c.lots id = none) (x : Expect) :
    foldPlanned c id x act = .error .lotState := by
  unfold foldPlanned
  rw [h]

theorem foldPlanned_of_not_planned (h : findLot c.lots id = some (n, k)) (hp : k.state ≠ .planned) (x : Expect) :
    foldPlanned c id x act = .error .lotState := by
  unfold foldPlanned
  rw [h]
  exact if_pos (by simp [Lot.isPlanned, hp])

theorem foldPlanned_of_planned (h : findLot c.lots id = some (n, k)) (hp : k.state = .planned) (x : Expect) :
    foldPlanned c id x act = if k.expected ≠ x then .error .lotValues else .ok (act n k) := by
  unfold foldPlanned
  rw [h]
  exact if_neg (by simp [Lot.isPlanned, hp])

theorem expected_eq_planned {m : Nat} {p : Loc} {f : Option Footprint} :
    k.expected = .planned m p f ↔ k.declared = m ∧ k.loc = p ∧ k.footprint = f := by
  simp [Lot.expected]

/-- R21, R23: what a replan leaves of a lot. -/
theorem replan_eq (m : Nat) (p : Loc) (f : Option Footprint) (k : Lot) :
    k.replan m p f =
      { k with
        declared := m, loc := p, footprint := f
        modified := k.modified || decide (¬ (k.declared = m ∧ k.loc = p ∧ k.footprint = f)) } := by
  by_cases hd : k.declared = m ∧ k.loc = p ∧ k.footprint = f
  · have hsame : k.replan m p f = { k with declared := m, loc := p, footprint := f } :=
      if_neg fun hdiff => differs_planned.mp hdiff hd
    simp [hsame, hd]
  · rw [replan_of_differs (differs_planned.mpr hd)]
    simp [hd]

end

theorem foldTarget_of_transfer {c : Condition} {t : Nat} (h : ((tget c.tanks t).getD TankRow.fresh).transfer ≠ none)
    (g : Option Target) (x : Expect) : foldTarget c t g x = .error .tankTransfer :=
  if_pos (Option.isSome_iff_ne_none.mpr h)

theorem foldTarget_of_no_transfer {c : Condition} {t : Nat}
    (h : ((tget c.tanks t).getD TankRow.fresh).transfer = none) (g was : Option Target) :
    foldTarget c t g (.tank was) =
      if ((tget c.tanks t).getD TankRow.fresh).target ≠ was then .error .tankTarget
      else .ok { c with tanks := tput c.tanks t { (tget c.tanks t).getD TankRow.fresh with target := g } } := by
  refine (if_neg (by simp [h])).trans ?_
  simp only [ne_eq, Expect.tank.injEq, TankRow.withTarget]

/-! ### The fold of the stack (R94, R95) -/

theorem foldDown_append (below : List (List Move)) (a b : List Move) :
    foldDown (below ++ [a, b]) = below ++ [a ++ b] := by
  induction below with
  | nil => rfl
  | cons x rest ih =>
    cases rest with
    | nil => rfl
    | cons y rest =>
      cases rest with
      | nil => rfl
      | cons z rest => exact congrArg (x :: ·) ih

theorem bodyFoldFrame_of_deep {s : State} {below : List (List Move)} {a b : List Move}
    (h : s.frames = below ++ [a, b]) : bodyFoldFrame s = stackDone (changeStack (below ++ [a ++ b]) s) := by
  unfold bodyFoldFrame
  rw [← foldDown_append, ← h]
  split
  case h_1 hnil => simp [hnil] at h
  case h_2 m hone =>
    have := congrArg List.length (hone.symm.trans h)
    simp at this
  case h_3 => rfl

theorem bodyFoldFrame_of_one {s : State} {ms : List Move} (h : s.frames = [ms]) :
    bodyFoldFrame s = foldIntoPlan ms s := by
  unfold bodyFoldFrame
  rw [h]

theorem bodyFoldFrame_of_empty {s : State} (h : s.frames = []) :
    bodyFoldFrame s = stackFault [] underflowKind s := by
  unfold bodyFoldFrame
  rw [h]

/-- R95, R40: the condition that the moves leave stands, and PLAN advances when there was a move. -/
def State.folded (ms : List Move) (c : Condition) (s : State) : State :=
  if ms.isEmpty then { s with cond := c }
  else { s with cond := c, eval := { s.eval with plan := s.eval.plan.advance } }

theorem folded_onLink (ms : List Move) (c : Condition) (l : Link) (g : LinkUnit → LinkUnit) (s : State) :
    (s.onLink l g).folded ms c = (s.folded ms c).onLink l g := by
  unfold State.folded
  split <;> rfl

theorem folded_links (ms : List Move) (c : Condition) (s : State) : (s.folded ms c).links = s.links := by
  unfold State.folded
  split <;> rfl

theorem folded_unit (ms : List Move) (c : Condition) (s : State) : (s.folded ms c).eval.unit = s.eval.unit := by
  unfold State.folded
  split <;> rfl

theorem foldIntoPlan_of_ok {s : State} {ms : List Move} {c : Condition} (h : foldMoves s.cond 0 ms = .ok c) :
    foldIntoPlan ms s = stackDone (changeStack [] (s.folded ms c)) := by
  unfold foldIntoPlan
  rw [h]
  rfl

theorem foldIntoPlan_of_error {s : State} {ms : List Move} {e : FoldFail} {n : Nat}
    (h : foldMoves s.cond 0 ms = .error (e, n)) :
    foldIntoPlan ms s = (s, .quiet ⟨e.status, stackFigures s.frames ++ encU 1 n ++ encU 1 e.cause⟩) := by
  unfold foldIntoPlan
  rw [h]

/-- R81, R95: what stands after the fold into the plan. -/
theorem changeStack_folded_standing (ms : List Move) (c : Condition) (s : State) :
    (changeStack [] (s.folded ms c)).standing =
      State.standing { s with
        cond := c, frames := []
        eval := { s.eval with
          plan := if ms = [] then s.eval.plan else { s.eval.plan with gen := s.eval.plan.gen + 1 }
          trial := { s.eval.trial with gen := s.eval.trial.gen + 1, set := none, sticky := ⟨false, false, false⟩ } }
        monitor := { s.monitor with trial := ViolationList.emptied } } := by
  cases ms <;> rfl

/-- R95: what the body of Fold Frame leaves of a stack of one frame whose moves all pass. -/
theorem bodyFoldFrame_into_plan {s : State} {ms : List Move} {c : Condition} (hone : s.frames = [ms])
    (hok : foldMoves s.cond 0 ms = .ok c) (l : Link) (t : Byte) :
    bodyFoldFrame (s.onLink l (LinkUnit.reserve Request.foldFrame.kind t)) =
      stackDone (changeStack [] ((s.folded ms c).onLink l (LinkUnit.reserve Request.foldFrame.kind t))) := by
  rw [← folded_onLink]
  exact (bodyFoldFrame_of_one ((onLink_frames ..).trans hone)).trans (foldIntoPlan_of_ok hok)

section
variable {s : State} {l : Link} {tag : Byte} (h : Ready s l .foldFrame)
include h

theorem foldFrame_down {below : List (List Move)} {a b : List Move} (hdeep : s.frames = below ++ [a, b]) :
    Completes (.foldFrame l tag) l s (advanceTrial { s with frames := below ++ [a ++ b] })
      (replyFrame ⟨.done, encU 1 (s.frames.length - 1) ++ encU 1 s.frames.flatten.length⟩ 0x23#8 tag) := by
  have hdone := command_stackDone (body := bodyFoldFrame) (t := tag) h rfl (bodyFoldFrame_of_deep hdeep)
  have hfigures :
      stackFigures (below ++ [a ++ b]) = encU 1 (s.frames.length - 1) ++ encU 1 s.frames.flatten.length := by
    simp [stackFigures, poolInUse, hdeep]
  rw [changeStack_of_ne_nil (by simp), hfigures] at hdone
  exact hdone

theorem foldFrame_into_plan {ms : List Move} {c : Condition} (hone : s.frames = [ms])
    (hok : foldMoves s.cond 0 ms = .ok c) :
    ∃ x, exec (.foldFrame l tag) s = .next x ∧ x.standing = (changeStack [] (s.folded ms c)).standing
      ∧ x.sends l (replyFrame ⟨.done, encU 1 0 ++ encU 1 0⟩ 0x23#8 tag) :=
  command_stackDone (body := bodyFoldFrame) h (folded_links ms c s) (bodyFoldFrame_into_plan hone hok l tag)

theorem foldFrame_conflict {ms : List Move} {e : FoldFail} {n : Nat} (hone : s.frames = [ms])
    (herr : foldMoves s.cond 0 ms = .error (e, n)) :
    Answers (.foldFrame l tag) l .foldFrame tag
      ⟨e.status, encU 1 1 ++ encU 1 ms.length ++ encU 1 n ++ encU 1 e.cause⟩ s := by
  have hbody : bodyFoldFrame (s.onLink l (LinkUnit.reserve Request.foldFrame.kind tag)) =
      (s.onLink l (LinkUnit.reserve Request.foldFrame.kind tag),
        .quiet ⟨e.status, encU 1 1 ++ encU 1 ms.length ++ encU 1 n ++ encU 1 e.cause⟩) := by
    refine (bodyFoldFrame_of_one ((onLink_frames ..).trans hone)).trans
      ((foldIntoPlan_of_error (e := e) (n := n) ?_).trans ?_)
    · exact herr
    · simp [stackFigures, poolInUse, hone]
  exact command_quiet h hbody

theorem foldFrame_underflow (hnone : s.frames = []) :
    Completes (.foldFrame l tag) l s (latch .trialFault .l0 s)
      (replyFrame ⟨.stackFault, encU 1 0 ++ encU 1 0 ++ encU 1 2⟩ 0x23#8 tag) := by
  have hfault := command_stackFault (body := bodyFoldFrame) (t := tag) h (bodyFoldFrame_of_empty hnone)
  rw [hnone] at hfault
  exact hfault

end

/-- Settles O36: the checks of one move are the branches of `foldCreate`, `foldPlanned` and `foldTarget`, and each
clause on the command is a change of the stack, a reply that changes nothing or a fault. -/
theorem foldFrameCompletes : Obligations.FoldFrameCompletes := by
  refine ⟨fun c i m rest => ⟨rfl, fun e he => foldMoves_of_error he i rest, fun c' hc => foldMoves_of_ok hc i rest⟩,
    fun c id mass target foot => ⟨fun hk => foldCreate_of_known hk mass target foot, fun hn hfull => ?_,
      fun n hn hfree => ?_⟩,
    fun c id mass was target loc foot print => ⟨fun m hm => ⟨fun hn => ?_,
        fun n k hk => ⟨fun hp => ?_, fun hp hd => ?_⟩⟩,
      fun n k hk hp hm hl hf => ⟨?_, ?_⟩⟩,
    fun c k g was => ⟨fun ht => foldTarget_of_transfer ht g _, fun ht hd => ?_, fun ht he => ?_⟩,
    fun s l tag h => ⟨fun below a b => foldFrame_down h, fun ms c hone hok => ?_, fun ms c hone hok => ?_,
      fun ms e n => foldFrame_conflict h, foldFrame_underflow h⟩⟩
  · exact (foldCreate_of_unknown hn mass target foot).trans (by rw [hfull]; rfl)
  · exact (foldCreate_of_unknown hn mass target foot).trans (by rw [hfree]; rfl)
  · rcases List.mem_pair.mp hm with rfl | rfl <;> exact foldPlanned_of_unknown hn _
  · rcases List.mem_pair.mp hm with rfl | rfl <;> exact foldPlanned_of_not_planned hk hp _
  · have hne : k.expected ≠ .planned was loc print := fun he => hd (expected_eq_planned.mp he)
    rcases List.mem_pair.mp hm with rfl | rfl <;> exact (foldPlanned_of_planned hk hp _).trans (if_pos hne)
  · have he : k.expected = .planned was loc print := expected_eq_planned.mpr ⟨hm, hl, hf⟩
    refine (foldPlanned_of_planned hk hp _).trans ((if_neg (not_not.mpr he)).trans ?_)
    rw [replan_eq, hm, hl, hf]
  · have he : k.expected = .planned was loc print := expected_eq_planned.mpr ⟨hm, hl, hf⟩
    exact (foldPlanned_of_planned hk hp _).trans (if_neg (not_not.mpr he))
  · exact (foldTarget_of_no_transfer ht g was).trans (if_pos hd)
  · exact (foldTarget_of_no_transfer ht g was).trans (if_neg (not_not.mpr he))
  · obtain ⟨x, hx, hstand, hsends⟩ := foldFrame_into_plan (tag := tag) h hone hok
    exact ⟨x, hx, hstand.trans (changeStack_folded_standing ms c s), hsends⟩
  · exact command_emptiesTrial (v := (s.folded ms c).onLink l (LinkUnit.reserve Request.foldFrame.kind tag)) rfl h
      (folded_unit ms c s) (bodyFoldFrame_into_plan hone hok l tag)

end Sys2Proof.Machine
end

section
/-! The predictions: how their passes follow one another and are discarded, and what they capture (R79, R80, R101, R142,
R165). -/

namespace Sys2Proof.Machine

/-! ### The end of a pass of a prediction (R79, R80) -/

section
variable {s : State} {p : Prediction}

theorem inHookPhase_of_predicting (hu : s.eval.unit = .predicting p) : inHookPhase s = decide (p.phase = .hook) := by
  unfold inHookPhase
  rw [predictionInFlight_eq_some.mpr hu]

theorem inLastPhase_of_predicting (hu : s.eval.unit = .predicting p) : inLastPhase s = !decide (p.phase = .hook) := by
  unfold inLastPhase
  rw [predictionInFlight_eq_some.mpr hu, inHookPhase_of_predicting hu]
  rfl

theorem completeHookPass_of_predicting (hu : s.eval.unit = .predicting p) :
    completeHookPass s =
      { s with eval := { s.eval with
          unit := .predicting { p with phase := .landed, first := some (hookSet s.ship p) } } } := by
  unfold completeHookPass
  rw [predictionInFlight_eq_some.mpr hu]

/-- R80: the prediction of an earlier ACTUAL is discarded, and its demand waits again. -/
theorem completePrediction_of_changed (hu : s.eval.unit = .predicting p) (hg : s.eval.actual.gen ≠ p.gen) :
    completePrediction s =
      { s with eval := { s.eval with unit := .idle, waiting := s.eval.waiting ++ [p.key] } } := by
  unfold completePrediction
  rw [predictionInFlight_eq_some.mpr hu]
  exact if_neg hg

theorem settle_eval_of_busy (h : s.eval.unit ≠ .idle) : (settle s).eval = s.eval := by
  rcases settle_eval_cases s with ⟨_, hu, _⟩ | ⟨_, he⟩
  · exact absurd hu h
  · exact he

theorem hookPassComplete_due (hp : s.powered = true) (hu : s.eval.unit = .predicting p) (hh : p.phase = .hook) :
    ∃ t, exec .hookPassComplete s = .next t
      ∧ t.eval =
          { s.eval with unit := .predicting { p with phase := .landed, first := some (hookSet s.ship p) } }
      ∧ t.standing = s.standing := by
  have hdue : inHookPhase s = true := by rw [inHookPhase_of_predicting hu, hh]; rfl
  refine ⟨settle (completeHookPass s), dueEvent_due hp hdue, ?_, ?_⟩
  · rw [completeHookPass_of_predicting hu, settle_eval_of_busy (by simp)]
  · rw [settle_standing, completeHookPass_of_predicting hu]
    rfl

theorem predictionCompletion_of_changed (hp : s.powered = true) (hu : s.eval.unit = .predicting p)
    (hh : p.phase ≠ .hook) (hg : s.eval.actual.gen ≠ p.gen) :
    ∃ t, exec .predictionCompletion s = .next t ∧ t.standing = s.standing ∧ t.demanded p.key := by
  have hdue : inLastPhase s = true := by simp [inLastPhase_of_predicting hu, hh]
  refine ⟨settle (completePrediction s), dueEvent_due hp hdue, ?_, ?_⟩
  · rw [settle_standing, completePrediction_of_changed hu hg]
    rfl
  · rw [demanded_settle, completePrediction_of_changed hu hg]
    exact .inl (by simp)

end

/-! ### What a prediction captures (R79, R101) -/

/-- A prediction captures the same of the state for each key, but for its phase and its items. -/
theorem capturePrediction_shared (s : State) (key : DemandKey) :
    let p := capturePrediction s key
    p.gen = s.eval.actual.gen ∧ p.rho = s.settings.seaDensity ∧ p.first = none ∧ p.tainted = taintNow s
      ∧ p.hookLimits = s.settings.lift ∧ p.lastLimits = limitsOf s.settings (limitNameOf s .actual) := by
  unfold capturePrediction
  split
  · exact ⟨rfl, rfl, rfl, rfl, rfl, rfl⟩
  · dsimp only
    split <;> exact ⟨rfl, rfl, rfl, rfl, rfl, rfl⟩

theorem capturePrediction_phase (s : State) (key : DemandKey) :
    (capturePrediction s key).phase = (match key with | .transfer _ => Phase.transfer | _ => .hook) := by
  cases key with
  | transfer id => rfl
  | lift lead => rfl
  | recheck =>
    unfold capturePrediction
    dsimp only
    split <;> rfl

theorem capturePrediction_items_of_lift {s : State} {key : DemandKey} {r : LiftRef} (h : liftForKey s key = some r) :
    (capturePrediction s key).hookItems = hookPassItems s r
      ∧ (capturePrediction s key).lastItems = landedPassItems s r := by
  cases key with
  | transfer id => cases h
  | lift lead =>
    cases h
    exact ⟨rfl, rfl⟩
  | recheck =>
    unfold capturePrediction
    dsimp only
    rw [h]
    exact ⟨rfl, rfl⟩

theorem liftForKey_eq_some {s : State} {key : DemandKey} {r : LiftRef} :
    liftForKey s key = some r ↔
      (key = .recheck ∧ s.gate.slot = some r) ∨ ∃ c, key = .lift c ∧ r = liftOf s c := by
  cases key <;> simp [liftForKey, eq_comm]

/-! ### The items of a prediction (R142, R165) -/

theorem mem_gatherActual {s : State} {hook : CraneId → HookItem} {boomTip : CraneId → Pos} {skip : Option Nat}
    {extra : List Item} {counted : Nat → Nat × Nat} {it : Item} :
    it ∈ gatherActual s hook boomTip skip extra counted ↔
      it ∈ lightshipItems s.ship
      ∨ (∃ c k, tget s.ship.cranes (CraneId.num c) = some k ∧ k.present ≠ 0
          ∧ (it = boomItem k (boomTip c) ∨ it = hookItem (hook c)))
      ∨ (∃ q ∈ s.cond.lots, some q.1 ≠ skip ∧ it ∈ actualLot s q)
      ∨ it ∈ extra
      ∨ it ∈ tankItems s.ship counted := by
  simp only [gatherActual, List.mem_append, List.mem_flatMap, List.mem_filter, decide_eq_true_eq,
    mem_map_presentCranes, and_or_left, exists_or, or_assoc, and_assoc]

/-- R142: what both passes of a lift prediction count beside the cranes: all of ACTUAL but the lot in a slot. -/
def CountedBeside (s : State) (slot : Nat) (it : Item) : Prop :=
  (∃ e, s.ship.lightship = some e ∧ it = ⟨e.mass, e.cg, .lightship⟩)
  ∨ (∃ q ∈ s.cond.lots, q.1 ≠ slot ∧ it ∈ actualLot s q)
  ∨ (∃ q ∈ s.ship.tanks, 0 < (s.tankRow q.1).contents
      ∧ it = tankItem q.1 q.2 (s.tankRow q.1).contents (s.tankRow q.1).density)

theorem mem_gatherActual_beside {s : State} {hook : CraneId → HookItem} {boomTip : CraneId → Pos} {slot : Nat}
    {extra : List Item} {it : Item} :
    it ∈ gatherActual s hook boomTip (some slot) extra (tankNow s) ↔
      CountedBeside s slot it
      ∨ (∃ c k, tget s.ship.cranes (CraneId.num c) = some k ∧ k.present ≠ 0
          ∧ (it = boomItem k (boomTip c) ∨ it = hookItem (hook c)))
      ∨ it ∈ extra := by
  have hpart (ship cranes lots other tanks : Prop) :
      ship ∨ cranes ∨ lots ∨ other ∨ tanks ↔ (ship ∨ lots ∨ tanks) ∨ cranes ∨ other := by tauto
  simp only [mem_gatherActual, mem_lightshipItems, mem_tankItems, ne_eq, Option.some.injEq]
  exact hpart _ _ _ _ _

/-- R38: the item of a hook that holds what a lift gives it, or what hangs there. -/
theorem hookItem_ite (a : Prop) [Decidable a] (load : Nat) (tip : Pos) (h : HookItem) :
    hookItem (if a then ⟨load, tip⟩ else h) =
      ⟨if a then load else h.load, if a then tip else h.tip, .hook⟩ := by
  split <;> rfl

theorem liftLot_of_tget {s : State} {r : LiftRef} {lr : LotRef} {k : Lot} (hl : (s.liftRec r.lead).lot = some lr)
    (hk : tget s.cond.lots lr.slot = some k) : liftLot s r = some (lr.slot, k) := by
  simp [liftLot, hl, hk]

theorem liftMass_eq (s : State) (r : LiftRef) (k : Lot) (c : CraneId) :
    liftMass s r k c = if r.partner = none then k.measured.getD k.declared else (s.liftRec c).share.getD 0 := by
  unfold liftMass
  cases r.partner <;> rfl

/-- R142: the worst tip of a crane of the lift, and the tip where the other crane's hook hangs. -/
def worstTip (s : State) (r : LiftRef) (c : CraneId) : Pos :=
  if c ∈ r.cranes then (s.liftRec c).worst.getD (s.cond.hooks.get c).tip else (s.cond.hooks.get c).tip

section
variable {s : State} {r : LiftRef} {n : Nat} {k : Lot} {it : Item} (h : liftLot s r = some (n, k))
include h

/-- R142, the HOOK pass. -/
theorem mem_hookPassItems :
    it ∈ hookPassItems s r ↔
      CountedBeside s n it
      ∨ ∃ c cr, tget s.ship.cranes (CraneId.num c) = some cr ∧ cr.present ≠ 0
        ∧ (it = boomItem cr (worstTip s r c)
          ∨ it = ⟨if c ∈ r.cranes then liftMass s r k c else (s.cond.hooks.get c).load, worstTip s r c, .hook⟩) := by
  unfold hookPassItems
  rw [h]
  simp only [mem_gatherActual_beside, List.contains_iff_mem, List.not_mem_nil, or_false, hookNow, tipNow,
    hookItem_ite, worstTip]

/-- R142, the LANDED pass. -/
theorem mem_landedPassItems :
    it ∈ landedPassItems s r ↔
      CountedBeside s n it
      ∨ (∃ c cr, tget s.ship.cranes (CraneId.num c) = some cr ∧ cr.present ≠ 0
        ∧ (it = boomItem cr (s.cond.hooks.get c).tip
          ∨ it = ⟨if c ∈ r.cranes then 0 else (s.cond.hooks.get c).load, (s.cond.hooks.get c).tip, .hook⟩))
      ∨ ∃ loc, (s.liftRec r.lead).dir = some .load ∧ (s.liftRec r.lead).plan = some loc
        ∧ it = lotItem n (liftMassSum s r k) loc k.footprint := by
  unfold landedPassItems
  rw [h]
  simp only [mem_gatherActual_beside, List.contains_iff_mem, hookNow, tipNow, hookItem_ite, ite_self]
  refine or_congr_right (or_congr_right ?_)
  cases hd : (s.liftRec r.lead).dir with
  | none => simp
  | some d =>
    cases d with
    | discharge => simp
    | load => cases (s.liftRec r.lead).plan <;> simp

end

/-! ### The TRANSFER pass (R165) -/

theorem aboardPart_kind (n h : Nat) (k : Lot) (d : Direction) (r : LiftRecord) (tip : Pos) :
    ∀ it ∈ aboardPart n k d r h tip, ∃ a f, it.kind = .lot n a f := by
  unfold aboardPart
  repeat' split
  all_goals simp [lotItem, tipItem]

theorem actualLot_kind (s : State) (q : Nat × Lot) : ∀ it ∈ actualLot s q, ∃ a f, it.kind = .lot q.1 a f := by
  unfold actualLot
  split
  case h_1 => simp
  case h_2 => simp [lotItem]
  case h_3 => exact aboardPart_kind _ _ _ _ _ _

/-- R39: what ACTUAL counts beside the tanks. -/
def CountedBesideTanks (s : State) (it : Item) : Prop :=
  it ∈ lightshipItems s.ship
  ∨ (∃ c k, tget s.ship.cranes (CraneId.num c) = some k ∧ k.present ≠ 0
      ∧ (it = boomItem k (tipNow s c) ∨ it = hookItem (hookNow s c)))
  ∨ ∃ q ∈ s.cond.lots, it ∈ actualLot s q

theorem mem_gatherActual_tanks {s : State} {counted : Nat → Nat × Nat} {it : Item} :
    it ∈ gatherActual s (hookNow s) (tipNow s) none [] counted ↔
      CountedBesideTanks s it ∨ it ∈ tankItems s.ship counted := by
  simp only [mem_gatherActual, CountedBesideTanks, ne_eq, reduceCtorEq, not_false_eq_true, true_and,
    List.not_mem_nil, false_or, or_assoc]

theorem CountedBesideTanks.kind {s : State} {it : Item} (h : CountedBesideTanks s it) (n sec fsm : Nat) :
    it.kind ≠ .tank n sec fsm := by
  rcases h with hship | ⟨c, k, _, _, rfl | rfl⟩ | ⟨q, _, hq⟩
  · obtain ⟨e, _, rfl⟩ := mem_lightshipItems.mp hship
    exact ItemKind.noConfusion
  · exact ItemKind.noConfusion
  · exact ItemKind.noConfusion
  · obtain ⟨a, f, hk⟩ := actualLot_kind s q it hq
    rw [hk]
    exact ItemKind.noConfusion

theorem tankItems_kind {ship : ShipData} {counted : Nat → Nat × Nat} {it : Item} (h : it ∈ tankItems ship counted) :
    ∃ n sec fsm, it.kind = .tank n sec fsm := by
  obtain ⟨q, _, _, rfl⟩ := mem_tankItems.mp h
  exact ⟨_, _, _, rfl⟩

/-- R165: the TRANSFER pass counts what ACTUAL counts beside the tanks, and each tank at its end. -/
theorem mem_transferPassItems {s : State} {id : Nat} {it : Item} :
    it ∈ transferPassItems s id ↔
      (it ∈ actualItems s ∧ ∀ n sec fsm, it.kind ≠ .tank n sec fsm) ∨ it ∈ tankItems s.ship (tankEnd s id) := by
  unfold transferPassItems actualItems
  rw [mem_gatherActual_tanks, mem_gatherActual_tanks]
  refine or_congr_left ⟨fun h => ⟨.inl h, h.kind⟩, fun ⟨h, hkind⟩ => h.resolve_right fun ht => ?_⟩
  obtain ⟨n, sec, fsm, hk⟩ := tankItems_kind ht
  exact hkind n sec fsm hk

section
variable {s : State} {id k n : Nat} {x : Transfer}

theorem tankEnd_of_none (h : (s.tankRow k).transfer = none) (id : Nat) : tankEnd s id k = tankNow s k := by
  unfold tankEnd
  rw [h]

theorem tankEnd_of_granted {ss sd : Option Nat} {time : Count32} {amount : Nat} {mark : Bool}
    (h : (s.tankRow k).transfer = some n) (hx : tget s.ballast.transfers n = some x)
    (hp : x.phase = .granted ss sd time amount mark) (id : Nat) :
    tankEnd s id k = endState s x (startOf x ss sd) k := by
  simp [tankEnd, h, hx, hp]

theorem tankEnd_of_requested {why : Pending} {timer : Count32} (h : (s.tankRow k).transfer = some n)
    (hx : tget s.ballast.transfers n = some x) (hp : x.phase = .requested why timer) (id : Nat) :
    tankEnd s id k = if n = id then endState s x (fun j => (s.tankRow j).contents) k else tankNow s k := by
  simp [tankEnd, h, hx, hp]

end

/-- R165: the end of a tank, and the density it then holds. -/
theorem endState_eq (s : State) (x : Transfer) (base : Nat → Nat) (k : Nat) :
    endState s x base k =
      let source := decide (x.source = .tank k)
      let density := if source || decide (0 < base k) then (s.tankRow k).density else
        match x.source with
        | .sea => s.settings.seaDensity
        | .tank j => (s.tankRow j).density
      (if source then base k - x.planned
       else min (base k + x.planned)
        (match tget s.ship.tanks k with | some g => g.capacity * density / 1000 | none => 0), density) := by
  unfold endState
  by_cases hs : x.source = .tank k
  · simp [hs]
  · simp only [if_neg hs, decide_eq_false hs, Bool.false_or, decide_eq_true_eq, Bool.false_eq_true, if_false]
    rfl

/-- Settles O58: the passes by the unit's phase, the captured values by the demand, and the items by what each pass puts
in the place of ACTUAL's cranes, lot and tanks. -/
theorem predictionsRunAndAreDiscarded : Obligations.PredictionsRunAndAreDiscarded := by
  refine ⟨fun s p hp hu => ⟨fun hh => ?_, fun hh => ⟨?_, fun hg => ?_⟩⟩, fun s key => ?_,
    fun s key r lr k it hkey hlot hk => ?_,
    fun s id => ⟨fun it => ?_, fun k => ⟨fun hn => tankEnd_of_none hn id, ?_, ?_⟩⟩⟩
  · obtain ⟨t, ht, heval, hstand⟩ := hookPassComplete_due hp hu hh
    exact ⟨t, ht, heval, hstand, dueEvent_not (by simp [inLastPhase_of_predicting hu, hh])⟩
  · exact dueEvent_not (by simp [inHookPhase_of_predicting hu, hh])
  · exact predictionCompletion_of_changed hp hu hh hg
  · obtain ⟨hgen, hrho, hfirst, htaint, hhook, hlast⟩ := capturePrediction_shared s key
    refine ⟨capturePrediction_key s key, hgen, hrho, hfirst, ?_, hhook, fun hc => ?_, fun hc => ?_,
      capturePrediction_phase s key⟩
    · rw [htaint, taintNow_iff]
    · rw [hlast, limitNameOf_eq_lift hc]
      rfl
    · rw [hlast, limitNameOf_eq_harbour (.inr hc)]
      rfl
  · obtain ⟨hhook, hlast⟩ := capturePrediction_items_of_lift (liftForKey_eq_some.mpr hkey)
    have hl := liftLot_of_tget hlot hk
    have hmass : liftMass s r k =
        fun c => if r.partner = none then k.measured.getD k.declared else (s.liftRec c).share.getD 0 :=
      funext (liftMass_eq s r k)
    have hhooked := mem_hookPassItems (it := it) hl
    have hlanded := mem_landedPassItems (it := it) hl
    rw [← hhook, hmass] at hhooked
    rw [← hlast, liftMassSum, hmass] at hlanded
    exact ⟨hhooked, hlanded⟩
  · exact mem_transferPassItems.trans (or_congr_right mem_tankItems)
  · intro n x ss sd time amount mark hn hx hp
    exact (tankEnd_of_granted hn hx hp id).trans (endState_eq s x _ k)
  · intro n x why timer hn hx hp
    refine (tankEnd_of_requested hn hx hp id).trans ?_
    rw [endState_eq]
    rfl

end Sys2Proof.Machine
end

section
/-! Admission: what it refuses, in its order and with the values of the refusal, and what waits (R84, R177 to R180,
R186). -/

namespace Sys2Proof.Machine

/-! ### A refusal (R179, R180) -/

/-- R180, R84: what a refusal at admission carries, for either value of the free value. -/
theorem refusal_eq (k : Byte) (st : Status) (s : State) :
    refusal k st s =
      ⟨st,
        if Config.figuresAtAdmission = false then []
        else if k = 0x20#8 ∨ k = 0x22#8 ∨ k = 0x23#8 then stackFigures s.frames
        else if k = 0x21#8 then encU 1 0 ++ stackFigures s.frames
        else []⟩ := by
  rcases refusal_cases k st s with ⟨hbare, hfree⟩ | ⟨hfigures, hframe, hfree⟩
  · cases hk : frameKind k with
    | true => rw [hbare, if_pos (hfree hk)]; rfl
    | false =>
      simp only [frameKind, Bool.or_eq_false_iff, decide_eq_false_iff_not] at hk
      obtain ⟨⟨⟨h20, h21⟩, h22⟩, h23⟩ := hk
      simp [hbare, Reply.bare, h20, h21, h22, h23]
  · simp only [frameKind, Bool.or_eq_true, decide_eq_true_eq] at hframe
    rcases hframe with ((rfl | rfl) | rfl) | rfl <;> simp [hfigures, frameValues, hfree]

/-- A reply that changes nothing fills the place just reserved for it, at the tail of the queue. -/
theorem finish_quiet_reserve {l : Link} {s : State} (h : ∀ p ∈ (s.links.get l).outbound, p.isCurrent = false)
    (rep : Reply) (k t : Byte) :
    finish l (.quiet rep) (s.onLink l (LinkUnit.reserve k t)) =
      s.onLink l (fun u =>
        ({ u with outbound := u.outbound ++ [OutPlace.reply (replyFrame rep k t)] }).startTx s.mode) := by
  simp only [finish, onLink_onLink, onLink_mode]
  apply onLink_congr
  simp only [LinkUnit.reserve, LinkUnit.fill]
  rw [onReserved_current h]

/-! ### Taking the head frame (R178) -/

theorem canTake_iff {s : State} {l : Link} :
    canTake s l = true ↔ s.mode ≠ .initializing ∧ (s.links.get l).outbound.length < Config.linkPlaces := by
  simp [canTake, LinkUnit.hasFree]

theorem exec_takeFrame_head {s : State} {l : Link} {f : Frame} {rest : List Frame} (hp : s.powered = true)
    (hc : canTake s l = true) (hq : (s.links.get l).inbound = f :: rest) :
    exec (.takeFrame l) s =
      .next (takenAs l f.kind f.tag (Request.decode f.kind f.payload) (bodyOf l)
        (s.onLink l (fun u => { u with inbound := rest }))) := by
  simp [exec, execTakeFrame, event, takeHead, hp, hc, hq]

/-- R179: a head frame that spells no request leaves the queue and is answered BAD_FORM. -/
theorem takeFrame_badForm {s : State} {l : Link} {f : Frame} {rest : List Frame} (hp : s.powered = true)
    (hc : canTake s l = true) (hn : noneServed s = true) (hq : (s.links.get l).inbound = f :: rest)
    (hd : Request.decode f.kind f.payload = none) :
    exec (.takeFrame l) s =
      .next (s.onLink l (fun u =>
        ({ u with
            inbound := rest
            outbound := u.outbound ++ [OutPlace.reply (replyFrame (refusal f.kind .badForm s) f.kind f.tag)] }).startTx
          s.mode)) := by
  have hplaces : ∀ p ∈ ((s.onLink l (fun u => { u with inbound := rest })).links.get l).outbound,
      p.isCurrent = false := by
    rw [onLink_get_self]
    exact noneServed_get hn l
  rw [exec_takeFrame_head hp hc hq, hd, takenAs, admitOrRefuse, finish_quiet_reserve hplaces, onLink_onLink]
  rfl

/-- R178: with no place free, in INITIALIZING and with no frame waiting, no frame is taken. -/
theorem takeFrame_waits {s : State} {l : Link} (h : canTake s l = false ∨ (s.links.get l).inbound = []) :
    exec (.takeFrame l) s = .next s := by
  rcases h with hc | hq
  · simp [exec, execTakeFrame, event, hc]
  · simp [exec, execTakeFrame, event, takeHead, hq]

/-! ### A station command that waits (R177) -/

theorem command_waits {s : State} {l : Link} {r : Request} {t : Byte} {body : State → State × Answer}
    (hp : s.powered = true) (hu : (s.links.get l).lineLow = false)
    (h : canTake s l = false ∨ (s.links.get l).inbound ≠ []) :
    command l t r body s = .next (frameArrives l (Request.frame t r) s) := by
  have hnot : (canTake s l && (s.links.get l).inbound.isEmpty) = false := by
    simpa only [Bool.and_eq_false_iff, List.isEmpty_eq_false_iff] using h
  simp [command, hp, hu, hnot]

/-- R177: what stands of a link when a complete frame reaches it. -/
theorem receive_standing_of_room {u : LinkUnit} (h : u.inbound.length < Config.linkPlaces) (f : Frame) :
    (u.receive f).standing = LinkUnit.standing { u with inbound := u.inbound ++ [f] } :=
  congrArg LinkUnit.standing (if_pos h)

theorem receive_standing_of_full {u : LinkUnit} (h : Config.linkPlaces ≤ u.inbound.length) (f : Frame) :
    (u.receive f).standing =
      LinkUnit.standing
        { u with dropCount := bump u.dropCount, notices := u.notices ||| Event.queueOverrun.flag } := by
  rw [LinkUnit.receive, if_neg (Nat.not_lt.mpr h), latch_unit_standing]
  rfl

theorem frameArrives_standing {l : Link} {f : Frame} {s : State} {g : LinkUnit → LinkUnit}
    (h : ((s.links.get l).receive f).standing = (g (s.links.get l)).standing) :
    (frameArrives l f s).standing = (s.onLink l g).standing :=
  onLink_standing_congr rfl ((standing_startTx _ _).trans h)

/-- Settles O14: a refusal is answered in the place reserved for it (`takeFrame_badForm`, `command_refused`), and what
is not taken stays where it is, or reaches the inbound queue (`frameArrives`). -/
theorem admissionRefusesOrWaits : Obligations.AdmissionRefusesOrWaits := by
  refine ⟨fun s l hp hm hn hroom => ⟨fun f rest hq hd => ?_, fun i tag r hi hu hq => ⟨fun hr => ?_, fun hr hmo => ?_⟩⟩,
    fun s l h => takeFrame_waits ?_,
    fun i s l tag r hi hp hu h => ⟨fun hroom => ?_, fun hfull => ?_⟩, fun i s l tag r hi hu => ?_⟩
  · have hbad := takeFrame_badForm hp (canTake_iff.mpr ⟨hm, hroom⟩) hn hq hd
    rw [refusal_eq] at hbad
    exact hbad
  · have hrefused := command_refused (t := tag) (body := bodyOf l r) hp hm hu hroom hq hn (.inl hr)
    rw [refusal_eq, if_neg (by simp [hr])] at hrefused
    exact (exec_request hi s).trans hrefused
  · have hrefused := command_refused (t := tag) (body := bodyOf l r) hp hm hu hroom hq hn (.inr hmo)
    rw [refusal_eq, if_pos hr] at hrefused
    exact (exec_request hi s).trans hrefused
  · rcases h with hm | hfull | hq
    · exact .inl (by simp [canTake, hm])
    · exact .inl (by simp [canTake, LinkUnit.hasFree, hfull])
    · exact .inr hq
  · exact ⟨_, (exec_request hi s).trans (command_waits hp hu h),
      frameArrives_standing (receive_standing_of_room hroom _)⟩
  · exact ⟨_, (exec_request hi s).trans (command_waits hp hu h),
      frameArrives_standing (receive_standing_of_full hfull _)⟩
  · exact (exec_request hi s).trans (command_lineLow hu)

end Sys2Proof.Machine
end

section
/-! The trial stack: the checks of a move and Add Moves (R84, R86, R91, R92, R97). -/

namespace Sys2Proof.Machine

/-! ### One move of a batch (R86, R92) -/

theorem checkMove_of_no_kind {b : List Byte} (hb : moveOf b = none) (ship : ShipData) (v : View) (used : Nat) :
    checkMove ship v used b = .error .badValue := by
  unfold checkMove
  rw [hb]

section
variable {ship : ShipData} {v : View} {used : Nat} {b : List Byte} {body : MoveBody} (hb : moveOf b = some body)
include hb

theorem checkMove_of_bad_values (hv : moveValuesOk ship body = false) :
    checkMove ship v used b = .error .badValue := by
  unfold checkMove
  rw [hb]
  simp [hv]

variable (hv : moveValuesOk ship body = true)
include hv

theorem checkMove_of_not_met {e : Status} (hx : moveMeets ship v body = .error e) :
    checkMove ship v used b = .error e := by
  unfold checkMove
  rw [hb]
  simp [hv, hx]

theorem checkMove_of_room {x : Expect} (hx : moveMeets ship v body = .ok x) (hroom : used < 64) :
    checkMove ship v used b = .ok ⟨body, x⟩ := by
  unfold checkMove
  rw [hb]
  simp [hv, hx, Nat.not_le.mpr hroom]

theorem checkMove_of_full_pool {x : Expect} (hx : moveMeets ship v body = .ok x) (hfull : 64 ≤ used) :
    checkMove ship v used b = .error .full := by
  unfold checkMove
  rw [hb]
  simp [hv, hx, hfull]

/-- R92, R86: a move on a lot that the view holds: the lot's state, then room in the pool; the values are recorded. -/
theorem checkMove_of_listed {k : Lot}
    (hx : moveMeets ship v body = if k.isPlanned then .ok k.expected else .error .state) :
    (k.state ≠ .planned → checkMove ship v used b = .error .state)
      ∧ (k.state = .planned → used < 64 →
        checkMove ship v used b = .ok ⟨body, .planned k.declared k.loc k.footprint⟩)
      ∧ (k.state = .planned → 64 ≤ used → checkMove ship v used b = .error .full) := by
  refine ⟨fun hp => checkMove_of_not_met hb hv (hx.trans (if_neg (by simp [Lot.isPlanned, hp]))), fun hp => ?_,
    fun hp => ?_⟩
  · exact checkMove_of_room hb hv (hx.trans (if_pos (isPlanned_iff.mpr hp)))
  · exact checkMove_of_full_pool hb hv (hx.trans (if_pos (isPlanned_iff.mpr hp)))

end

section
variable {v : View} {id : Nat}

theorem moveMeets_plan_of_unknown (h : findLot v.lots id = none) (ship : ShipData) (mass : Nat) (target : Loc)
    (foot : Option Footprint) : moveMeets ship v (.plan id mass target foot) = .ok .absent := by
  unfold moveMeets
  simp only [h]

theorem moveMeets_plan_of_listed {n : Nat} {k : Lot} (h : findLot v.lots id = some (n, k)) (ship : ShipData)
    (mass : Nat) (target : Loc) (foot : Option Footprint) :
    moveMeets ship v (.plan id mass target foot) = if k.isPlanned then .ok k.expected else .error .state := by
  unfold moveMeets
  simp only [h]

theorem moveMeets_unplan_of_unknown (h : findLot v.lots id = none) (ship : ShipData) :
    moveMeets ship v (.unplan id) = .error .notFound := by
  unfold moveMeets
  simp only [h]

theorem moveMeets_unplan_of_listed {n : Nat} {k : Lot} (h : findLot v.lots id = some (n, k)) (ship : ShipData) :
    moveMeets ship v (.unplan id) = if k.isPlanned then .ok k.expected else .error .state := by
  unfold moveMeets
  simp only [h]

end

theorem moveMeets_tankTarget_of_unknown {ship : ShipData} {t : Nat} (h : tget ship.tanks t = none) (v : View)
    (g : Option Target) : moveMeets ship v (.tankTarget t g) = .error .notFound := by
  unfold moveMeets
  simp only [h]

theorem moveMeets_tankTarget_of_known {ship : ShipData} {t : Nat} {geom : TankGeom}
    (h : tget ship.tanks t = some geom) (v : View) (g : Option Target) :
    moveMeets ship v (.tankTarget t g) = .ok (.tank ((tget v.tanks t).getD TankRow.fresh).target) := by
  unfold moveMeets
  simp only [h]

/-- The statuses with which a move is refused by what it meets. -/
theorem moveMeets_error {ship : ShipData} {v : View} {body : MoveBody} {e : Status}
    (h : moveMeets ship v body = .error e) : e = .state ∨ e = .notFound := by
  unfold moveMeets at h
  repeat' split at h
  all_goals cases h
  all_goals simp

/-- A move that is not applied is not answered DONE. -/
theorem checkMove_error_ne_done {ship : ShipData} {v : View} {used : Nat} {b : List Byte} {e : Status}
    (h : checkMove ship v used b = .error e) : e ≠ .done := by
  unfold checkMove at h
  split at h
  · cases h; decide
  split at h
  · cases h; decide
  split at h
  case h_1 hx =>
    cases h
    rcases moveMeets_error hx with rfl | rfl <;> decide
  case h_2 =>
    split at h <;> cases h
    decide

/-! ### A batch (R91) -/

theorem addAll_of_error {ship : ShipData} {c : Condition} {b : List Byte} {frames : List (List Move)} {e : Status}
    (h : checkMove ship (replay c frames) (poolInUse frames) b = .error e) (rest : List (List Byte)) :
    addAll ship c (b :: rest) frames = (frames, 0, e) := by
  rw [addAll, h]

theorem addAll_of_ok {ship : ShipData} {c : Condition} {b : List Byte} {below : List (List Move)} {top : List Move}
    {m : Move} (h : checkMove ship (replay c (below ++ [top])) (poolInUse (below ++ [top])) b = .ok m)
    (rest : List (List Byte)) :
    addAll ship c (b :: rest) (below ++ [top]) =
      ((addAll ship c rest (below ++ [top ++ [m]])).1, (addAll ship c rest (below ++ [top ++ [m]])).2.1 + 1,
        (addAll ship c rest (below ++ [top ++ [m]])).2.2) := by
  rw [addAll, h, ← pushMove_append]

/-- R91: the moves applied stand at the end of the top frame, and the batch is answered DONE when it is applied whole. -/
theorem addAll_appends (ship : ShipData) (c : Condition) (ms : List (List Byte)) (below : List (List Move))
    (top : List Move) :
    ∃ applied st, addAll ship c ms (below ++ [top]) = (below ++ [top ++ applied], applied.length, st)
      ∧ applied.length ≤ ms.length ∧ (st = .done ↔ applied.length = ms.length) := by
  induction ms generalizing top with
  | nil => exact ⟨[], .done, by simp [addAll], Nat.le_refl _, by simp⟩
  | cons b rest ih =>
    cases h : checkMove ship (replay c (below ++ [top])) (poolInUse (below ++ [top])) b with
    | error e =>
      refine ⟨[], e, by simp [addAll_of_error h], Nat.zero_le _, ?_⟩
      simp [checkMove_error_ne_done h]
    | ok m =>
      obtain ⟨applied, st, hadd, hle, hdone⟩ := ih (top ++ [m])
      exact ⟨m :: applied, st, by simp [addAll_of_ok h, hadd], by simpa using hle, by simpa using hdone⟩

/-! ### Add Moves (R84, R91, R97) -/

theorem bodyAddMoves_of_no_moves {p : List Byte} (hp : movesOf p = none) (s : State) :
    bodyAddMoves p s = (s, .quiet ⟨.badForm, encU 1 0 ++ stackFigures s.frames⟩) := by
  unfold bodyAddMoves
  rw [hp]

section
variable {p : List Byte} {ms : List (List Byte)} {s : State} (hp : movesOf p = some ms)
include hp

theorem bodyAddMoves_of_empty (hf : s.frames = []) : bodyAddMoves p s = stackFault (encU 1 0) underflowKind s := by
  unfold bodyAddMoves
  rw [hp]
  exact if_pos (by simp [hf])

variable {below : List (List Move)} {top applied : List Move} {st : Status} (hf : s.frames = below ++ [top])
  (hadd : addAll s.ship s.cond ms s.frames = (below ++ [top ++ applied], applied.length, st))
include hf hadd

theorem bodyAddMoves_of_none_applied (hnone : applied = []) :
    bodyAddMoves p s = (s, .quiet ⟨st, encU 1 0 ++ stackFigures s.frames⟩) := by
  have hne : s.frames ≠ [] := by simp [hf]
  unfold bodyAddMoves
  simp [hp, hadd, hne, hnone, ← hf]

theorem bodyAddMoves_of_applied (hsome : applied ≠ []) :
    bodyAddMoves p s =
      (advanceTrial { s with frames := below ++ [top ++ applied] },
        .reply ⟨st, encU 1 applied.length ++ stackFigures (below ++ [top ++ applied])⟩) := by
  have hne : s.frames ≠ [] := by simp [hf]
  unfold bodyAddMoves
  simp [hp, hadd, hne, hsome, changeStack_of_ne_nil]

end

theorem stackFigures_addMoves (below : List (List Move)) (top applied : List Move) :
    stackFigures (below ++ [top ++ applied]) =
      encU 1 (below ++ [top]).length ++ encU 1 ((below ++ [top]).flatten.length + applied.length) := by
  simp [stackFigures, poolInUse, Nat.add_assoc]

section
variable {s : State} {l : Link} {tag : Byte} {p : List Byte} (h : Ready s l (.addMoves p))
include h

theorem addMoves_badForm (hp : movesOf p = none) :
    Answers (.addMoves l tag p) l (.addMoves p) tag ⟨.badForm, encU 1 0 ++ stackFigures s.frames⟩ s :=
  command_quiet h (bodyAddMoves_of_no_moves hp _)

theorem addMoves_underflow {ms : List (List Byte)} (hp : movesOf p = some ms) (hf : s.frames = []) :
    Completes (.addMoves l tag p) l s (latch .trialFault .l0 s)
      (replyFrame ⟨.stackFault, encU 1 0 ++ stackFigures s.frames ++ encU 1 2⟩ 0x21#8 tag) :=
  command_reply (body := bodyAddMoves p) h (bodyAddMoves_of_empty hp ((onLink_frames ..).trans hf))
    (holds_latch (holds_reserve h.none l _ tag)) (latch_standing_congr (standing_onLink (standing_reserve _ _ _)))

variable {ms : List (List Byte)} {below : List (List Move)} {top applied : List Move} {st : Status}
  (hp : movesOf p = some ms) (hf : s.frames = below ++ [top])
  (hadd : addAll s.ship s.cond ms s.frames = (below ++ [top ++ applied], applied.length, st))
include hp hf hadd

theorem addMoves_none_applied (hnone : applied = []) :
    Answers (.addMoves l tag p) l (.addMoves p) tag ⟨st, encU 1 0 ++ stackFigures s.frames⟩ s :=
  command_quiet h
    (bodyAddMoves_of_none_applied (s := s.onLink l (LinkUnit.reserve _ tag)) hp hf hadd hnone)

theorem addMoves_applied (hsome : applied ≠ []) :
    Completes (.addMoves l tag p) l s (advanceTrial { s with frames := below ++ [top ++ applied] })
      (replyFrame
        ⟨st, encU 1 applied.length
          ++ (encU 1 s.frames.length ++ encU 1 (s.frames.flatten.length + applied.length))⟩ 0x21#8 tag) := by
  have hbody :=
    bodyAddMoves_of_applied (s := s.onLink l (LinkUnit.reserve (Request.addMoves p).kind tag)) hp hf hadd hsome
  rw [stackFigures_addMoves, ← hf] at hbody
  exact command_changes (body := bodyAddMoves p) h rfl hbody

end

/-- Settles O35: the checks of one move by what it meets (`moveMeets`), a batch by induction on its moves
(`addAll_appends`), and the command by how many moves were applied. -/
theorem movesAreCheckedAndAdded : Obligations.MovesAreCheckedAndAdded := by
  refine ⟨fun ship v used b => ⟨fun hb => checkMove_of_no_kind hb ship v used, fun body => checkMove_of_bad_values,
      fun id mass target foot hb hv => ⟨fun hn => ?_, fun hn => ?_, fun n k hk => ?_⟩,
      fun id hb hv => ⟨fun hn => ?_, fun n k hk => ?_⟩,
      fun t g hb hv => ⟨fun hn => ?_, fun geom hg => ?_, fun geom hg => ?_⟩⟩,
    fun ship c frames b rest => ⟨rfl, fun e he => addAll_of_error he rest, fun m below top hm hf => ?_⟩,
    fun s l tag p h => ⟨addMoves_badForm h, fun ms hp hf => ?_, fun ms below top hp hf => ?_⟩⟩
  · exact checkMove_of_room hb hv (moveMeets_plan_of_unknown hn ship mass target foot)
  · exact checkMove_of_full_pool hb hv (moveMeets_plan_of_unknown hn ship mass target foot)
  · exact checkMove_of_listed hb hv (moveMeets_plan_of_listed hk ship mass target foot)
  · exact checkMove_of_not_met hb hv (moveMeets_unplan_of_unknown hn ship)
  · exact checkMove_of_listed hb hv (moveMeets_unplan_of_listed hk ship)
  · exact checkMove_of_not_met hb hv (moveMeets_tankTarget_of_unknown hn v g)
  · exact checkMove_of_room hb hv (moveMeets_tankTarget_of_known hg v g)
  · exact checkMove_of_full_pool hb hv (moveMeets_tankTarget_of_known hg v g)
  · subst hf
    exact addAll_of_ok hm rest
  · have hfault := addMoves_underflow (tag := tag) h hp hf
    rw [hf] at hfault
    exact hfault
  · obtain ⟨applied, st, hadd, hle, hdone⟩ := addAll_appends s.ship s.cond ms below top
    rw [← hf] at hadd
    exact ⟨applied, st, hadd, hle, hdone, addMoves_none_applied h hp hf hadd, addMoves_applied h hp hf hadd⟩

end Sys2Proof.Machine
end

section
/-! The judgement of a set: what each comparison gives, what each rule's checks hold, and the judgement class by class
(R102 to R107, R116). -/

namespace Sys2Proof.Machine

/-! ### Comparison (R102) -/

/-- The violation of a class by a value above its limit. -/
def Violation.Above (v : Violation) (c : CheckClass) (i : Nat) (x limit : Int) : Prop :=
  limit < x ∧ v = ⟨c, i, .high, x, limit⟩

/-- The violation of a class by a value below its limit. -/
def Violation.Below (v : Violation) (c : CheckClass) (i : Nat) (x limit : Int) : Prop :=
  x < limit ∧ v = ⟨c, i, .low, x, limit⟩

section
variable {v : Violation} {c : CheckClass} {i : Nat} {x lo hi : Int}

theorem Violation.Above.cls_eq (h : v.Above c i x hi) : v.cls = c := by rw [h.2]

theorem Violation.Below.cls_eq (h : v.Below c i x lo) : v.cls = c := by rw [h.2]

theorem mem_violationOf_upper : v ∈ violationOf c i x (compareBounds none (some hi) x) ↔ v.Above c i x hi := by
  by_cases h : hi < x <;> simp [compareBounds, violationOf, Violation.Above, h]

theorem mem_violationOf_lower : v ∈ violationOf c i x (compareBounds (some lo) none x) ↔ v.Below c i x lo := by
  by_cases h : x < lo <;> simp [compareBounds, violationOf, Violation.Below, h]

/-- Between two bounds in order a value breaks one of them at most, so the order of the comparisons does not show. -/
theorem mem_violationOf_between (hle : lo ≤ hi) :
    v ∈ violationOf c i x (compareBounds (some lo) (some hi) x) ↔ v.Above c i x hi ∨ v.Below c i x lo := by
  by_cases hlow : x < lo
  · have hhigh : ¬ hi < x := by omega
    simp [compareBounds, violationOf, Violation.Above, Violation.Below, hlow, hhigh]
  · by_cases hhigh : hi < x <;>
      simp [compareBounds, violationOf, Violation.Above, Violation.Below, hlow, hhigh]

variable {q : Quantity}

theorem mem_checkQuantity {lo hi : Option Int} :
    v ∈ checkQuantity c i q lo hi ↔ q.cls = .valid ∧ v ∈ violationOf c i q.val (compareBounds lo hi q.val) := by
  by_cases h : q.cls = .valid <;> simp [checkQuantity, Quantity.isValid, h]

theorem mem_checkQuantity_upper : v ∈ checkQuantity c i q none (some hi) ↔ q.cls = .valid ∧ v.Above c i q.val hi := by
  rw [mem_checkQuantity, mem_violationOf_upper]

theorem mem_checkQuantity_lower : v ∈ checkQuantity c i q (some lo) none ↔ q.cls = .valid ∧ v.Below c i q.val lo := by
  rw [mem_checkQuantity, mem_violationOf_lower]

theorem mem_checkQuantity_within {m : Nat} : v ∈ checkQuantity c i q (some (-(m : Int))) (some m) ↔
    q.cls = .valid ∧ (v.Above c i q.val m ∨ v.Below c i q.val (-(m : Int))) := by
  rw [mem_checkQuantity, mem_violationOf_between (by omega)]

/-- R105: the cuts are numbered from 1. -/
theorem mem_cutChecks {value : Int × Int → Int} {lo hi : Strength → Int} (hle : ∀ e, lo e ≤ hi e)
    {limits : Table Strength} {r : ResultSet} :
    v ∈ cutChecks c value lo hi limits r ↔ r.strength = .valid ∧ ∃ k cut e, r.cuts[k]? = some cut
      ∧ tget limits (k + 1) = some e
      ∧ (v.Above c (k + 1) (value cut) (hi e) ∨ v.Below c (k + 1) (value cut) (lo e)) := by
  unfold cutChecks
  split
  case isFalse hs => simp [hs]
  case isTrue hs =>
    simp only [List.mem_flatMap, hs, true_and]
    constructor
    · rintro ⟨⟨cut, k⟩, hk, hv⟩
      split at hv
      case h_1 e he =>
        exact ⟨k, cut, e, List.mem_zipIdx_iff_getElem?.mp hk, he, (mem_violationOf_between (hle e)).mp hv⟩
      case h_2 => simp at hv
    · rintro ⟨k, cut, e, hk, he, hv⟩
      refine ⟨(cut, k), List.mem_zipIdx_iff_getElem?.mpr hk, ?_⟩
      simpa only [he] using (mem_violationOf_between (hle e)).mpr hv

end

/-! ### The classes C1 to C11 (R103 to R107) -/

/-- What R103 to R107 call a violation of a class, for each class of a judgement. -/
def Violates (ship : ShipData) (w : LimitSet) (r : ResultSet) (v : Violation) : CheckClass → Prop
  | .c1 => r.gm.cls = .valid ∧ v.Below .c1 0 r.gm.val w.gmMin
  | .c2 => r.heel.cls = .valid ∧ (v.Above .c2 0 r.heel.val w.heelMax ∨ v.Below .c2 0 r.heel.val (-(w.heelMax : Int)))
  | .c3 => r.heel.cls = .undefined ∧ v = ⟨.c3, 0, .unordered, r.gm.val, 0⟩
  | .c4 => r.trim.cls = .valid ∧ (v.Above .c4 0 r.trim.val w.trimMax ∨ v.Below .c4 0 r.trim.val (-(w.trimMax : Int)))
  | .c5 => ∃ p ∈ [(0, r.draftAft), (1, r.draftFore), (2, r.draft)],
      p.2.cls = .valid ∧ v.Above .c5 p.1 p.2.val w.draftMax
  | .c6 => r.w.cls = .valid ∧ v.Above .c6 0 r.w.val w.dispMax
  | .c7 => r.strength = .valid ∧ ∃ k cut e, r.cuts[k]? = some cut ∧ tget ship.strength (k + 1) = some e
      ∧ (v.Above .c7 (k + 1) cut.1 e.shear ∨ v.Below .c7 (k + 1) cut.1 (-(e.shear : Int)))
  | .c8 => r.strength = .valid ∧ ∃ k cut e, r.cuts[k]? = some cut ∧ tget ship.strength (k + 1) = some e
      ∧ (v.Above .c8 (k + 1) cut.2 e.hog ∨ v.Below .c8 (k + 1) cut.2 (-(e.sag : Int)))
  | .c9 => ∃ p ∈ ship.areas, v.Above .c9 p.1 ((tget r.areas p.1).getD 0) p.2.maxMass
  | .c10 => ∃ e ∈ r.pressures, ∃ a, tget ship.areas e.area = some a ∧ v.Above .c10 e.index e.pressure a.maxPressure
  | .c11 =>
      ((∃ q ∈ [r.draft, r.km, r.lcb, r.lcf, r.mtcm, r.fsc, r.gm, r.heel, r.trim, r.draftAft, r.draftFore],
          q.cls = .outOfTable) ∧ v = ⟨.c11, 0, .unordered, r.wStd.val, lastDisp ship⟩)
      ∨ (r.strength = .outOfTable ∧ v = ⟨.c11, 1, .unordered, 0, 0⟩)
  | _ => False

section
variable {ship : ShipData} {w : LimitSet} {r : ResultSet} {v : Violation}

theorem Violates.cls_eq {c : CheckClass} (h : Violates ship w r v c) : v.cls = c := by
  cases c with
  | c1 => exact h.2.cls_eq
  | c2 => exact h.2.elim Violation.Above.cls_eq Violation.Below.cls_eq
  | c3 => rw [h.2]
  | c4 => exact h.2.elim Violation.Above.cls_eq Violation.Below.cls_eq
  | c5 =>
    obtain ⟨_, -, -, hv⟩ := h
    exact hv.cls_eq
  | c6 => exact h.2.cls_eq
  | c7 | c8 =>
    obtain ⟨-, _, _, _, -, -, hv⟩ := h
    exact hv.elim Violation.Above.cls_eq Violation.Below.cls_eq
  | c9 =>
    obtain ⟨_, -, hv⟩ := h
    exact hv.cls_eq
  | c10 =>
    obtain ⟨_, -, _, -, hv⟩ := h
    exact hv.cls_eq
  | c11 => rcases h with ⟨-, hv⟩ | ⟨-, hv⟩ <;> rw [hv]
  | c12 | c13 | c14 | c15 | c16 => exact h.elim

theorem Violates.num_le {c : CheckClass} (h : Violates ship w r v c) : c.num ≤ 11 := by
  cases c with
  | c12 | c13 | c14 | c15 | c16 => exact h.elim
  | _ => decide

/-- R103. -/
theorem mem_stabilityChecks : v ∈ stabilityChecks r w ↔
    Violates ship w r v .c1 ∨ Violates ship w r v .c2 ∨ Violates ship w r v .c3 := by
  have hundefined : v ∈ (if r.heel.cls = .undefined then [eventViolation .c3 0 .unordered r.gm.val 0] else []) ↔
      Violates ship w r v .c3 := by
    split <;> simp [Violates, eventViolation, *]
  simp only [stabilityChecks, List.mem_append, mem_checkQuantity_lower, mem_checkQuantity_within, hundefined, or_assoc]
  rfl

/-- R104. -/
theorem mem_draftChecks : v ∈ draftChecks r w ↔
    Violates ship w r v .c4 ∨ Violates ship w r v .c5 ∨ Violates ship w r v .c6 := by
  simp only [draftChecks, List.mem_append, mem_checkQuantity_upper, mem_checkQuantity_within, or_assoc, Violates,
    List.mem_cons, List.not_mem_nil, or_false, exists_eq_or_imp, exists_eq_left]

/-- R105. -/
theorem mem_strengthChecks : v ∈ strengthChecks ship.strength r ↔
    Violates ship w r v .c7 ∨ Violates ship w r v .c8 := by
  have hshear (e : Strength) : -(e.shear : Int) ≤ e.shear := by omega
  have hbending (e : Strength) : -(e.sag : Int) ≤ e.hog := by omega
  simp only [strengthChecks, List.mem_append, mem_cutChecks hshear, mem_cutChecks hbending, Violates]

/-- R106. -/
theorem mem_loadChecks : v ∈ loadChecks ship.areas r ↔
    Violates ship w r v .c9 ∨ Violates ship w r v .c10 := by
  simp only [loadChecks, List.mem_append, List.mem_flatMap]
  refine or_congr (exists_congr fun p => and_congr_right fun _ => mem_violationOf_upper)
    (exists_congr fun e => and_congr_right fun _ => ?_)
  split
  case h_1 a ha => simp [ha, mem_violationOf_upper]
  case h_2 hn => simp [hn]

theorem any_isOut_iff {qs : List Quantity} : qs.any Quantity.isOut = true ↔ ∃ q ∈ qs, q.cls = .outOfTable := by
  simp only [List.any_eq_true, Quantity.isOut, decide_eq_true_eq]

/-- R107. -/
theorem mem_tableChecks : v ∈ tableChecks ship r ↔ Violates ship w r v .c11 := by
  rw [tableChecks, List.mem_append]
  refine or_congr ?_ ?_
  · rw [← any_isOut_iff]
    split <;> simp [eventViolation, *]
  · split <;> simp [eventViolation, *]

/-- R116: a judgement holds what R103 to R107 call a violation of some class, and nothing else. -/
theorem mem_judge : v ∈ judge ship w r ↔ ∃ c, Violates ship w r v c := by
  simp only [judge, List.mem_append, mem_stabilityChecks (ship := ship), mem_draftChecks (ship := ship),
    mem_strengthChecks (w := w), mem_loadChecks (w := w), mem_tableChecks (w := w)]
  constructor
  · rintro (((((h | h | h) | h | h | h) | h | h) | h | h) | h) <;> exact ⟨_, h⟩
  · rintro ⟨c, h⟩
    cases c with
    | c12 | c13 | c14 | c15 | c16 => exact h.elim
    | _ => simp only [h, true_or, or_true]

theorem mem_judge_of_cls {c : CheckClass} (hc : v.cls = c) : v ∈ judge ship w r ↔ Violates ship w r v c := by
  rw [mem_judge]
  refine ⟨?_, fun h => ⟨c, h⟩⟩
  rintro ⟨d, h⟩
  rwa [← hc, h.cls_eq]

theorem cls_num_le_of_mem_judge (h : v ∈ judge ship w r) : v.cls.num ≤ 11 := by
  obtain ⟨c, hc⟩ := mem_judge.mp h
  rw [hc.cls_eq]
  exact hc.num_le

end

/-- Settles O54: a violation of a class stands in the judgement as `Violates` says for that class. -/
theorem judgementFollowsTheLimits : Obligations.JudgementFollowsTheLimits := by
  intro ship w r v
  exact ⟨mem_judge_of_cls, mem_judge_of_cls, mem_judge_of_cls, mem_judge_of_cls, mem_judge_of_cls, mem_judge_of_cls,
    mem_judge_of_cls, mem_judge_of_cls, mem_judge_of_cls, mem_judge_of_cls, mem_judge_of_cls, cls_num_le_of_mem_judge⟩

end Sys2Proof.Machine
end

section
/-! The violation list of a publication (R112). -/

namespace Sys2Proof.Machine

/-! ### Pairs (R111) -/

/-- What names a violation in a list. -/
def Violation.pair (v : Violation) : CheckClass × Nat := (v.cls, v.index)

theorem samePair_iff {a b : Violation} : a.samePair b = true ↔ a.pair = b.pair := by
  simp [Violation.samePair, Violation.pair]

theorem standsIn_iff {l : List Violation} {v : Violation} : standsIn l v = true ↔ v.pair ∈ l.map Violation.pair := by
  simp only [standsIn, List.any_eq_true, samePair_iff, List.mem_map]
  exact exists_congr fun _ => and_congr_right fun _ => eq_comm

theorem not_standsIn_iff {l : List Violation} {v : Violation} :
    standsIn l v = false ↔ ∀ o ∈ l, v.samePair o = false := by
  simp only [standsIn, List.any_eq_false, Bool.not_eq_true]

/-- No two violations of the list have one pair. -/
def DistinctPairs (l : List Violation) : Prop := l.Pairwise (fun a b => a.samePair b = false)

theorem DistinctPairs.nodup {l : List Violation} (h : DistinctPairs l) : (l.map Violation.pair).Nodup :=
  List.pairwise_map.mpr (h.imp fun hab he => Bool.eq_false_iff.mp hab (samePair_iff.mpr he))

/-- Two lists without repeated pairs have as many pairs of the one in the other as of the other in the one. -/
theorem countP_standsIn_comm {a b : List Violation} (ha : DistinctPairs a) (hb : DistinctPairs b) :
    a.countP (standsIn b) = b.countP (standsIn a) := by
  have hsub (x y : List Violation) (hx : DistinctPairs x) : ((x.filter (standsIn y)).map Violation.pair).Nodup :=
    hx.nodup.sublist (List.filter_sublist.map _)
  have hmem (x y : List Violation) (q : CheckClass × Nat) :
      q ∈ (x.filter (standsIn y)).map Violation.pair ↔ q ∈ x.map Violation.pair ∧ q ∈ y.map Violation.pair := by
    simp only [List.mem_map, List.mem_filter, standsIn_iff]
    constructor
    · rintro ⟨v, ⟨hv, hy⟩, rfl⟩
      exact ⟨⟨v, hv, rfl⟩, hy⟩
    · rintro ⟨⟨v, hv, rfl⟩, hy⟩
      exact ⟨v, ⟨hv, hy⟩, rfl⟩
  have hperm := (List.perm_ext_iff_of_nodup (hsub a b ha) (hsub b a hb)).mpr fun q => by
    rw [hmem, hmem, and_comm]
  simpa only [List.length_map, List.countP_eq_length_filter] using hperm.length_eq

/-! ### The walk of the new judgement (R112) -/

section
variable {now : Count32} {kept rest new : List Violation} {old : List ListEntry} {v : Violation} {room : Nat}

/-- The pair of a violation has an entry. -/
def listed (old : List ListEntry) (v : Violation) : Bool := standsIn (old.map ListEntry.viol) v

theorem find_entry_eq_none : old.find? (fun e => v.samePair e.viol) = none ↔ listed old v = false := by
  simp [listed, standsIn]

theorem listed_of_find {o : ListEntry} (h : old.find? (fun e => v.samePair e.viol) = some o) : listed old v = true :=
  Bool.eq_true_of_not_eq_false fun hn => by simp [find_entry_eq_none.mpr hn] at h

theorem relist_cons_listed {o : ListEntry} (h : old.find? (fun e => v.samePair e.viol) = some o) :
    relist now kept old room (v :: rest) = { o with viol := v } :: relist now kept old room rest := by
  rw [relist.eq_def]
  simp only [h]

theorem relist_cons_room (h : old.find? (fun e => v.samePair e.viol) = none) :
    relist now kept old (room + 1) (v :: rest) =
      { viol := v, firstSeen := now, late := standsIn kept v } :: relist now kept old room rest := by
  rw [relist, h]

theorem relist_cons_full (h : old.find? (fun e => v.samePair e.viol) = none) :
    relist now kept old 0 (v :: rest) = relist now kept old 0 rest := by
  rw [relist, h]

/-- R112: where an entry of the new list comes from: an old entry of its pair, or the present publication. -/
def Traces (now : Count32) (kept : List Violation) (old : List ListEntry) (e : ListEntry) : Prop :=
  (∃ o ∈ old, e.viol.samePair o.viol = true ∧ e.firstSeen = o.firstSeen ∧ e.late = o.late)
  ∨ (e.firstSeen = now ∧ e.late = standsIn kept e.viol ∧ ∀ o ∈ old, e.viol.samePair o.viol = false)

theorem traces_of_find {o : ListEntry} (h : old.find? (fun e => v.samePair e.viol) = some o) :
    Traces now kept old { o with viol := v } :=
  .inl ⟨o, List.mem_of_find?_eq_some h, List.find?_some (p := fun e : ListEntry => v.samePair e.viol) h, rfl, rfl⟩

theorem traces_of_not_find (h : old.find? (fun e => v.samePair e.viol) = none) :
    Traces now kept old { viol := v, firstSeen := now, late := standsIn kept v } :=
  .inr ⟨rfl, rfl, fun o ho => Bool.eq_false_iff.mpr (List.find?_eq_none.mp h o ho)⟩

theorem mem_relist {e : ListEntry} (h : e ∈ relist now kept old room new) :
    e.viol ∈ new ∧ Traces now kept old e := by
  induction new generalizing room with
  | nil => simp [relist] at h
  | cons v rest ih =>
    have hlater {n : Nat} (he : e ∈ relist now kept old n rest) : e.viol ∈ v :: rest ∧ Traces now kept old e :=
      (ih he).imp_left (List.mem_cons_of_mem v)
    cases hf : old.find? (fun e => v.samePair e.viol) with
    | some o =>
      rw [relist_cons_listed hf] at h
      obtain rfl | he := List.mem_cons.mp h
      · exact ⟨List.mem_cons_self, traces_of_find hf⟩
      · exact hlater he
    | none =>
      cases room with
      | zero => exact hlater (relist_cons_full hf ▸ h)
      | succ n =>
        rw [relist_cons_room hf] at h
        obtain rfl | he := List.mem_cons.mp h
        · exact ⟨List.mem_cons_self, traces_of_not_find hf⟩
        · exact hlater he

/-- R112: every listed pair keeps an entry, and the others take the room there is. -/
theorem length_relist : (relist now kept old room new).length =
    new.countP (listed old) + min room (new.countP (fun v => !listed old v)) := by
  induction new generalizing room with
  | nil => simp [relist]
  | cons v rest ih =>
    cases hf : old.find? (fun e => v.samePair e.viol) with
    | some o =>
      simp only [relist_cons_listed hf, List.length_cons, ih, List.countP_cons, listed_of_find hf,
        if_true, Bool.not_true, Bool.false_eq_true, if_false]
      omega
    | none =>
      have hnot := find_entry_eq_none.mp hf
      cases room with
      | zero => simp [relist_cons_full hf, ih, hnot]
      | succ n =>
        simp only [relist_cons_room hf, List.length_cons, ih, List.countP_cons, hnot, Bool.false_eq_true, if_false,
          Bool.not_false, if_true]
        omega

/-- With room for every pair that has no entry the list shows the whole judgement, in its order. -/
theorem map_viol_relist (h : new.countP (fun v => !listed old v) ≤ room) :
    (relist now kept old room new).map ListEntry.viol = new := by
  induction new generalizing room with
  | nil => rfl
  | cons v rest ih =>
    rw [List.countP_cons] at h
    cases hf : old.find? (fun e => v.samePair e.viol) with
    | some o => rw [relist_cons_listed hf, List.map_cons, ih (by omega)]
    | none =>
      simp only [find_entry_eq_none.mp hf, Bool.not_false, if_true] at h
      cases room with
      | zero => omega
      | succ n => rw [relist_cons_room hf, List.map_cons, ih (by omega)]

end

/-! ### The list after a publication -/

/-- The entries that persist are as many as the pairs that have an entry already. -/
theorem length_persisting {old : List ListEntry} {new : List Violation} (hold : DistinctPairs (old.map ListEntry.viol))
    (hnew : DistinctPairs new) : (persisting old new).length = new.countP (listed old) := by
  calc (persisting old new).length
      = (old.map ListEntry.viol).countP (standsIn new) := by
        rw [persisting, ← List.countP_eq_length_filter, List.countP_map]
        rfl
    _ = new.countP (listed old) := countP_standsIn_comm hold hnew

/-- R112: the list stays within its 48 entries, and shows the whole judgement while it does not fill them. -/
theorem updateList_complete (now gen : Count32) (name : LimitName) {new : List Violation} {v : ViolationList}
    (hnew : DistinctPairs new) (hlen : v.entries.length ≤ 48) (hold : DistinctPairs (v.entries.map ListEntry.viol)) :
    (updateList now gen name new v).entries.length ≤ 48
    ∧ ((updateList now gen name new v).entries.length < 48 →
      (updateList now gen name new v).entries.map ListEntry.viol = new) := by
  have hpersist := length_persisting hold hnew
  have hfit : (persisting v.entries new).length ≤ v.entries.length := List.length_filter_le _ _
  have hcount : (updateList now gen name new v).entries.length =
      new.countP (listed v.entries) + min (Config.listEntries - (persisting v.entries new).length)
        (new.countP (fun x => !listed v.entries x)) := length_relist
  simp only [Config.listEntries] at hcount
  refine ⟨by omega, fun hroom => map_viol_relist ?_⟩
  simp only [Config.listEntries]
  omega

theorem mem_updateList {now gen : Count32} {name : LimitName} {new : List Violation} {v : ViolationList}
    {e : ListEntry} (h : e ∈ (updateList now gen name new v).entries) :
    e.viol ∈ new ∧ Traces now v.kept v.entries e :=
  mem_relist h

end Sys2Proof.Machine
end

section
/-! FIRST, NEXT and the STOP count of a publication, and the statement about lists and records (R112, R113, R117,
R118). -/

namespace Sys2Proof.Machine

/-! ### One STOP violation (R117) -/

/-- The record of a violation that appears in a publication. -/
def recordOf (gen : Count32) (s : State) (v : Violation) : ViolationRecord := ⟨v, s.time, gen⟩

/-- FIRST, NEXT and the STOP count. -/
def State.records (s : State) : Option ViolationRecord × Option ViolationRecord × Nat :=
  (s.monitor.first, s.monitor.next, s.monitor.stopCount)

section
variable {gen : Count32} {s : State} {v : Violation}

theorem bump_eq (n : Nat) : bump n = if n < 65535 then n + 1 else n := rfl

theorem recordOf_fillRecord : recordOf gen (fillRecord gen s v) = recordOf gen s := by
  rw [fillRecord_recordsOnly gen s v]
  rfl

/-- An empty FIRST takes the violation, and RECORD is latched on every link. -/
theorem fillRecord_of_empty (h : s.monitor.first = none) :
    (fillRecord gen s v).monitor.first = some (recordOf gen s v)
    ∧ (fillRecord gen s v).monitor.next = s.monitor.next
    ∧ ∀ l, ((fillRecord gen s v).links.get l).notices = (s.links.get l).notices ||| Event.record.flag := by
  simp [fillRecord, h, recordOf, latchOn_notices, mem_allLinks]

/-- Behind a filled FIRST the violation overwrites NEXT, and nothing is latched. -/
theorem fillRecord_of_held (h : s.monitor.first ≠ none) :
    (fillRecord gen s v).monitor.first = s.monitor.first
    ∧ (fillRecord gen s v).monitor.next = some (recordOf gen s v)
    ∧ (fillRecord gen s v).links = s.links := by
  obtain ⟨r, hr⟩ := Option.ne_none_iff_exists'.mp h
  simp [fillRecord, hr, recordOf]

theorem fillRecord_stopCount : (fillRecord gen s v).monitor.stopCount = bump s.monitor.stopCount := by
  unfold fillRecord
  dsimp only
  split
  · simp
  · rfl

end

/-! ### The STOP violations of a publication, in order (R117) -/

section
variable {gen : Count32} {s : State}

/-- Once FIRST is filled each further violation overwrites NEXT, and no event is latched. -/
theorem foldl_fillRecord_of_held (vs : List Violation) (h : s.monitor.first ≠ none) :
    (vs.foldl (fillRecord gen) s).monitor.first = s.monitor.first
    ∧ (vs.foldl (fillRecord gen) s).monitor.next = (vs.getLast?.map (recordOf gen s)).or s.monitor.next
    ∧ (vs.foldl (fillRecord gen) s).links = s.links := by
  induction vs generalizing s with
  | nil => exact ⟨rfl, rfl, rfl⟩
  | cons v us ih =>
    obtain ⟨hfirst, hnext, hlinks⟩ := fillRecord_of_held (gen := gen) (v := v) h
    obtain ⟨hfirsts, hnexts, hall⟩ := ih (s := fillRecord gen s v) (by rwa [hfirst])
    rw [recordOf_fillRecord, hnext] at hnexts
    refine ⟨hfirsts.trans hfirst, hnexts.trans ?_, hall.trans hlinks⟩
    cases us <;> simp [List.getLast?_cons]

/-- What the STOP violations of a publication leave in FIRST and NEXT, and when they latch RECORD. -/
theorem foldl_fillRecord (vs : List Violation) :
    (vs.foldl (fillRecord gen) s).monitor.first = s.monitor.first.or (vs.head?.map (recordOf gen s))
    ∧ (vs.foldl (fillRecord gen) s).monitor.next =
      ((if s.monitor.first.isSome then vs else vs.tail).getLast?.map (recordOf gen s)).or s.monitor.next
    ∧ ∀ l, (vs.foldl (fillRecord gen) s).noted l .record ↔
      s.noted l .record ∨ (s.monitor.first.isNone && !vs.isEmpty) = true := by
  cases hs : s.monitor.first with
  | some r =>
    obtain ⟨hfirst, hnext, hlinks⟩ := foldl_fillRecord_of_held (gen := gen) vs (s := s) (by simp [hs])
    refine ⟨by simp [hfirst, hs], by simp [hnext], fun l => ?_⟩
    simp [State.noted, hlinks]
  | none =>
    cases vs with
    | nil => simp [hs]
    | cons v us =>
      obtain ⟨hfirst, hnext, hlatched⟩ := fillRecord_of_empty (gen := gen) (v := v) hs
      obtain ⟨hfirsts, hnexts, hlinks⟩ :=
        foldl_fillRecord_of_held (gen := gen) us (s := fillRecord gen s v) (by simp [hfirst])
      rw [recordOf_fillRecord, hnext] at hnexts
      refine ⟨hfirsts.trans hfirst, hnexts, fun l => ?_⟩
      have hnoted : (us.foldl (fillRecord gen) (fillRecord gen s v)).noted l .record := by
        rw [State.noted, hlinks, hlatched, BitVec.getLsbD_or, (flag_bit _ _).mpr rfl, Bool.or_true]
      simp [hnoted]

theorem foldl_fillRecord_stopCount (vs : List Violation) (h : s.monitor.stopCount ≤ 65535) :
    (vs.foldl (fillRecord gen) s).monitor.stopCount = min 65535 (s.monitor.stopCount + vs.length) := by
  induction vs generalizing s with
  | nil => simp [h]
  | cons v us ih =>
    have hone : (fillRecord gen s v).monitor.stopCount = min 65535 (s.monitor.stopCount + 1) := by
      rw [fillRecord_stopCount, bump_eq]
      split <;> omega
    rw [List.foldl_cons, ih (by omega), hone, List.length_cons]
    omega

end

/-! ### The violation events (R113) -/

section
variable {kept new : List Violation} {s : State}

theorem noteViolations_noted_new_iff (l : Link) : (noteViolations kept new s).noted l .violationNew ↔
    s.noted l .violationNew ∨ newlyAppearing kept new ≠ [] := by
  have hcleared (u : State) : (if someCleared kept new then latchOn .violationCleared allLinks u else u).noted l
      .violationNew ↔ u.noted l .violationNew := by
    split
    · exact latchOn_noted_ne (by simp) _ _ _
    · rfl
  rw [noteViolations, hcleared]
  split
  case isTrue h => simp [List.isEmpty_iff.mp h]
  case isFalse h => simp [latchOn_noted, mem_allLinks, mt List.isEmpty_iff.mpr h]

theorem noteViolations_noted_cleared_iff (l : Link) : (noteViolations kept new s).noted l .violationCleared ↔
    s.noted l .violationCleared ∨ someCleared kept new = true := by
  have hnew : (if (newlyAppearing kept new).isEmpty then s else latchOn .violationNew allLinks s).noted l
      .violationCleared ↔ s.noted l .violationCleared := by
    split
    · rfl
    · exact latchOn_noted_ne (by simp) _ _ _
  rw [← hnew, noteViolations]
  split
  case isTrue h => simp [latchOn_noted, mem_allLinks, h]
  case isFalse h => simp [h]

theorem noteViolations_monitor : (noteViolations kept new s).monitor = s.monitor := by
  unfold noteViolations
  dsimp only
  repeat' split
  all_goals simp

end

/-! ### A publication of ACTUAL -/

theorem autoSuspend_records (s : State) : (autoSuspend s).records = s.records := by
  unfold autoSuspend
  repeat' split
  all_goals simp [State.records]

theorem announced_records (s : State) : (announced s).records = s.records := by simp [announced, State.records]

theorem gateDone_records (p : Pass) (s : State) : (gateDone p s).records = (observed p s).records := by
  rw [← autoSuspend_records (observed p s), State.records, gateDone, decisionRound_monitor, judged,
    recheckClearance_monitor]
  rfl

section
variable {p : Pass} {s : State}

/-- The state of a publication of ACTUAL when its set and its list stand and its violation events are latched. -/
def violationsNoted (p : Pass) (s : State) : State :=
  noteViolations s.monitor.actual.kept (judgePass s.ship p (passSet s.ship p))
    (updateListOf p (judgePass s.ship p (passSet s.ship p)) (publishSet p (passSet s.ship p) s))

/-- R117: the newly appearing violations of severity STOP, in order. -/
def appearingStops (p : Pass) (s : State) : List Violation :=
  (newlyAppearing s.monitor.actual.kept (judgePass s.ship p (passSet s.ship p))).filter
    (fun v => decide (s.settings.severity.get v.cls = .stop))

theorem violationsNoted_records (hx : p.ctx = .actual) : (violationsNoted p s).records = s.records := by
  rw [State.records, violationsNoted, noteViolations_monitor, updateListOf, hx]
  rfl

theorem recordOf_violationsNoted : recordOf p.gen (violationsNoted p s) = recordOf p.gen s := by
  rw [violationsNoted, noteViolations_recordsOnly]
  rfl

theorem observed_eq_foldl : observed p s = (appearingStops p s).foldl (fillRecord p.gen) (violationsNoted p s) := by
  have hsettings : (violationsNoted p s).settings = s.settings := by
    rw [violationsNoted, noteViolations_recordsOnly]
    rfl
  rw [appearingStops, ← hsettings]
  rfl

theorem published_records (hx : p.ctx = .actual) (h : s.monitor.stopCount ≤ 65535) :
    (announced (gateDone p s)).records =
      (s.monitor.first.or ((appearingStops p s).head?.map (recordOf p.gen s)),
        ((if s.monitor.first.isSome then appearingStops p s else (appearingStops p s).tail).getLast?.map
          (recordOf p.gen s)).or s.monitor.next,
        min 65535 (s.monitor.stopCount + (appearingStops p s).length)) := by
  obtain ⟨hfirst, hrest⟩ := Prod.mk.inj (violationsNoted_records (s := s) hx)
  obtain ⟨hnext, hcount⟩ := Prod.mk.inj hrest
  obtain ⟨hf, hn, -⟩ := foldl_fillRecord (gen := p.gen) (s := violationsNoted p s) (appearingStops p s)
  have hc := foldl_fillRecord_stopCount (gen := p.gen) (s := violationsNoted p s) (appearingStops p s)
    (hcount.trans_le h)
  rw [announced_records, gateDone_records, State.records, observed_eq_foldl, hf, hn, hc, recordOf_violationsNoted,
    hfirst, hnext, hcount]

/-- The gate and the close of a publication leave the monitor's events. -/
theorem published_noted_observed {e : Event} (hr : e ≠ .results) (hs : e ≠ .suspend) (hl : e ≠ .lift) (l : Link) :
    (announced (gateDone p s)).noted l e ↔ (observed p s).noted l e :=
  (announced_noted _ hr l).trans ((gateDone_gateActs p s).notices l e hs hl)

theorem published_noted_record (hx : p.ctx = .actual) (l : Link) : (announced (gateDone p s)).noted l .record ↔
    s.noted l .record ∨ (s.monitor.first.isNone && !(appearingStops p s).isEmpty) = true := by
  obtain ⟨hfirst, -⟩ := Prod.mk.inj (violationsNoted_records (s := s) hx)
  obtain ⟨-, -, hnoted⟩ := foldl_fillRecord (gen := p.gen) (s := violationsNoted p s) (appearingStops p s)
  have hbefore : (violationsNoted p s).noted l .record ↔ s.noted l .record :=
    noteViolations_noted_ne (by simp) (by simp) _ l
  rw [published_noted_observed (by simp) (by simp) (by simp), observed_eq_foldl, hnoted, hbefore, hfirst]

theorem published_noted_new (l : Link) : (announced (gateDone p s)).noted l .violationNew ↔
    s.noted l .violationNew
      ∨ newlyAppearing s.monitor.actual.kept (judgePass s.ship p (passSet s.ship p)) ≠ [] :=
  ((published_noted_observed (by simp) (by simp) (by simp) l).trans
    (fillRecords_noted_ne (by simp) _ _ _ l)).trans (noteViolations_noted_new_iff l)

theorem published_noted_cleared (l : Link) : (announced (gateDone p s)).noted l .violationCleared ↔
    s.noted l .violationCleared
      ∨ someCleared s.monitor.actual.kept (judgePass s.ship p (passSet s.ship p)) = true :=
  ((published_noted_observed (by simp) (by simp) (by simp) l).trans
    (fillRecords_noted_ne (by simp) _ _ _ l)).trans (noteViolations_noted_cleared_iff l)

end

/-! ### The statement -/

theorem noticeBit_eq {s t : State} {l : Link} {e : Event} {b : Bool} (h : t.noted l e ↔ s.noted l e ∨ b = true) :
    (t.links.get l).notices.getLsbD e.bit = ((s.links.get l).notices.getLsbD e.bit || b) := by
  rw [Bool.eq_iff_iff, Bool.or_eq_true]
  exact h

/-- The pairs of one list that do not stand in another. -/
theorem filter_absent (l m : List Violation) :
    l.filter (fun v => decide (∀ o ∈ m, v.samePair o = false)) = l.filter (fun v => !standsIn m v) := by
  refine List.filter_congr fun v _ => ?_
  rw [Bool.eq_iff_iff, decide_eq_true_iff, Bool.not_eq_true', not_standsIn_iff]

theorem someCleared_eq (kept new : List Violation) :
    someCleared kept new = !(kept.filter (fun o => !standsIn new o)).isEmpty := by
  rw [someCleared, Bool.eq_iff_iff]
  simp

theorem acknowledgeRecords_completes {s : State} {l : Link} (tag : Byte) (h : Ready s l .acknowledgeRecords) :
    Completes (.acknowledgeRecords l tag) l s (clearRecords s) (replyFrame (Reply.bare .done) 0x2B#8 tag) :=
  command_changes h rfl rfl

/-- Settles O57: the list by the walk of the new judgement (`mem_updateList`, `updateList_complete`), the records by
induction on the STOP violations (`foldl_fillRecord`), and the events stage by stage. -/
theorem listsAndRecordsFollow : Obligations.ListsAndRecordsFollow := by
  refine ⟨fun now gen name new v => ⟨rfl, fun e he => (mem_updateList he).1, fun e he => (mem_updateList he).2,
      fun hnew hlen hold => ?_⟩,
    fun gen s v => ⟨fillRecord_of_empty, fillRecord_of_held, fillRecord_stopCount⟩,
    fun s p hp hu hx hcount => ?_,
    fun s l tag h => acknowledgeRecords_completes tag h⟩
  · obtain ⟨hle, hall⟩ := updateList_complete now gen name hnew hlen (List.pairwise_map.mpr hold)
    refine ⟨hle, fun hroom x hx => ?_⟩
    rw [← hall hroom] at hx
    exact List.mem_map.mp hx
  · dsimp only
    rw [filter_absent, filter_absent]
    obtain ⟨hfirst, hrest⟩ := Prod.mk.inj (published_records hx hcount)
    obtain ⟨hnext, hstops⟩ := Prod.mk.inj hrest
    refine ⟨_, exec_publication_actual hp hu hx, hfirst, hnext, hstops, fun l =>
      ⟨noticeBit_eq (published_noted_record hx l), noticeBit_eq ?_, noticeBit_eq ?_⟩⟩
    · rw [published_noted_new, Bool.not_eq_true', List.isEmpty_eq_false_iff]
      rfl
    · rw [published_noted_cleared, someCleared_eq]
      rfl

end Sys2Proof.Machine
end

section
/-! The alarm and HOIST-INHIBIT lines: what they are driven by, which steps leave that alone, and the invariant over
every step (R126, R127, R129). -/

namespace Sys2Proof.Machine

/-! ### What drives the lines (R126, R129) -/

/-- The part of a state that the lines and their rules are read from. -/
def State.driving (s : State) : Bool × Mode × ShipData × Settings × Monitor × Gate :=
  (s.powered, s.mode, s.ship, s.settings, s.monitor, s.gate)

theorem linesDriven_congr {s t : State} (e : t.driving = s.driving) (h : linesDriven s) : linesDriven t := by
  simp only [State.driving, Prod.mk.injEq] at e
  obtain ⟨hp, hm, hd, hw, hmon, hg⟩ := e
  simp only [linesDriven, cautionTarget, stopTarget, inhibitTarget, State.suspended, State.craneAbsent, State.crane?,
    State.liftRec, hp, hm, hd, hw, hmon, hg]
  exact h

theorem linesDriven_refreshLines (s : State) : linesDriven (refreshLines s) :=
  fun _ => ⟨rfl, rfl, fun c => by cases c <;> rfl⟩

/-- The close of a step leaves no line behind its rule, whatever the step did. -/
theorem linesDriven_settle (s : State) : linesDriven (settle s) :=
  linesDriven_congr (s := refreshLines (kick s)) (by simp [State.driving, settle]) (linesDriven_refreshLines (kick s))

/-- A state in INITIALIZING whose lines rest (R126, R194; log 15). -/
theorem linesDriven_of_resting {s : State} (hm : s.mode = .initializing) (hc : s.monitor.caution.asserted = false)
    (hs : s.monitor.stop.asserted = false) (hi : s.gate.inhibit = ⟨true, true⟩) : linesDriven s := fun _ =>
  ⟨by simp [cautionTarget, hm, hc], by simp [stopTarget, hm, hs],
    fun c => by cases c <;> simp [inhibitTarget, hm, hi, PerCrane.get]⟩

theorem linesDriven_of_unpowered {s : State} (h : s.powered = false) : linesDriven s := fun hp => by
  rw [h] at hp
  cases hp

/-! ### Answers that close no step (R178) -/

theorem clearSticky_driving (x : Ctx) (s : State) : (clearSticky x s).driving = s.driving := rfl

/-- A body that answers quietly leaves what drives the lines as it is. -/
theorem bodyOf_quiet_driving (l : Link) (r : Request) (s : State) :
    (bodyOf l r s).2.isQuiet = false ∨ (bodyOf l r s).1.driving = s.driving := by
  by_cases hr : onlyReads r = true
  · exact .inr (congrArg State.driving (bodyOf_onlyReads l hr s))
  cases r <;> simp only [onlyReads, not_true_eq_false] at hr
  all_goals
    simp only [bodyOf, bodyEnterConfiguration, bodyWriteShipData, bodyCommitShipData, bodyWriteSetting,
      bodyStoreSettings, bodyControlLine, bodyClearLineStatus, bodyRestart, bodyPlanLot, bodyUnplanLot, bodyPlaceLot,
      bodyRemoveLot, bodyMarkDischarge, bodyUnmarkDischarge, bodyAcceptWeight, namedLot, bodyInsertInSequence,
      bodyRemoveFromSequence, bodySetTankManual, bodySetTankTarget, bodyOpenFrame, bodyAddMoves, bodyDropFrame,
      bodyFoldFrame, foldIntoPlan, bodyAcknowledgeRecords, bodySuspendWork, bodyResumeWork, bodyOpenSnapshot,
      bodyCloseSnapshot, bodyWriteImagePage, bodyApplyImage, bodyRequestLift, judgeLift, joinLift, acceptLift,
      bodyCancelLift, bodyHookReport, bodyLandingReport, bodyTankReport, bodyRequestTransfer, acceptTransfer,
      bodyEndTransfer, bodyCancelTransfer, bodySetNoticeMask, bodyReadNotices, endGranted, bodyReadResults]
    repeat' split
    all_goals first | exact .inl rfl | exact .inr rfl

/-! ### Every step (R126, R129) -/

/-- What a command leaves: a closed step, a state with the lines and what drives them as they stood, the lines at rest
in INITIALIZING, or no power. -/
inductive Closes (s : State) : State → Prop
  | same {t : State} (h : t.driving = s.driving) : Closes s t
  | closed (u : State) : Closes s (settle u)
  | resting {t : State} (hm : t.mode = .initializing) (hc : t.monitor.caution.asserted = false)
      (hs : t.monitor.stop.asserted = false) (hi : t.gate.inhibit = ⟨true, true⟩) : Closes s t
  | unpowered {t : State} (h : t.powered = false) : Closes s t

theorem Closes.refl (s : State) : Closes s s := .same rfl

theorem Closes.linesDriven {s t : State} (h : Closes s t) (hs : linesDriven s) : linesDriven t := by
  cases h with
  | same h => exact linesDriven_congr h hs
  | closed u => exact linesDriven_settle u
  | resting hm hc hs hi => exact linesDriven_of_resting hm hc hs hi
  | unpowered h => exact linesDriven_of_unpowered h

theorem finish_closes {s : State} (l : Link) {a : State × Answer}
    (h : a.2.isQuiet = false ∨ a.1.driving = s.driving) : Closes s (finish l a.2 a.1) := by
  unfold finish
  split
  case h_1 rep hrep => exact .same (h.resolve_left (by simp [hrep, Answer.isQuiet]))
  all_goals exact .closed _

theorem takenAs_closes (l : Link) (k t : Byte) (req : Option Request) {s u : State} (h : u.driving = s.driving) :
    Closes s (takenAs l k t req (bodyOf l) u) := by
  rcases takenAs_cases l k t req (bodyOf l) u with ⟨st, e⟩ | ⟨r, _, _, _, e⟩
  · rw [e]
    exact finish_closes l (a := (u.onLink l (LinkUnit.reserve k t), .quiet (refusal k st u))) (.inr h)
  · rw [e]
    exact finish_closes l ((bodyOf_quiet_driving l r _).imp_right fun e => e.trans h)

theorem dueEvent_closes {due : State → Bool} {f : State → State} {s t : State} (h : dueEvent due f s = .next t) :
    Closes s t := by
  rcases dueEvent_cases h with rfl | ⟨_, _, rfl⟩
  · exact .refl _
  · exact .closed _

theorem event_closes {f : State → State} {s t : State} (hf : Closes s (f s)) (h : event f s = .next t) :
    Closes s t := by
  rcases event_cases h with ⟨_, rfl⟩ | ⟨_, rfl⟩
  · exact .refl _
  · exact hf

/-- R11: power-on and RESTART put every line at rest. -/
theorem restartEngine_closes (s u : State) : Closes s (startAllTx (restartEngine u)) := by
  refine .resting ?_ ?_ ?_ ?_ <;> simp [restartEngine, restartState, State.reset]

theorem exec_closes {i : Instr} {s t : State} (h : exec i s = .next t) : Closes s t := by
  rcases hr : i.request with _ | ⟨l, tag, r⟩
  · cases i <;> simp only [Instr.request, reduceCtorEq] at hr <;> simp only [exec] at h
    case powerOn => cases h; exact .resting rfl rfl rfl rfl
    case restartLine =>
      refine event_closes ?_ h
      split
      · exact restartEngine_closes s _
      · exact .refl s
    case timebaseAdvance => exact event_closes (f := fun s => { s with time := s.time + 1 }) (.same rfl) h
    case frameReceived l cs => exact event_closes (.same rfl) h
    case characterGapTimeout l => exact event_closes (.same rfl) h
    case lineBreak l => exact event_closes (.same rfl) h
    case takeFrame l =>
      rcases takeFrame_cases (by exact h) with rfl | ⟨f, rest, _, _, _, rfl⟩
      · exact .refl _
      · exact takenAs_closes l _ _ _ rfl
    case frameDeparture l => exact event_closes (.same rfl) h
    case powerLoss => exact event_closes (.unpowered rfl) h
    case receiveLineReturnToIdle l => cases h; exact .same rfl
    case restartInputReturnToRest => cases h; exact .same rfl
    all_goals exact dueEvent_closes h
  · rw [exec_request hr] at h
    rcases command_cases h with rfl | ⟨_, f, rfl⟩ | ⟨_, _, _, st, rfl⟩ | ⟨_, _, _, _, _, rfl⟩
    · exact .refl _
    · exact .same rfl
    · exact finish_closes l (a := (s.onLink l _, .quiet (refusal r.kind st s))) (.inr rfl)
    · exact finish_closes l (bodyOf_quiet_driving l r (s.onLink l _))

/-- Settles O8: every step is closed, leaves the lines and what drives them, puts them to rest, or ends without power
(`exec_closes`). -/
theorem linesFollowTheirRules : Obligations.LinesFollowTheirRules := by
  intro s t h hx
  unfold step at hx
  split at hx
  · cases hx
    exact h
  · exact (exec_closes hx).linesDriven (linesDriven_congr rfl h)

end Sys2Proof.Machine
end

section
/-! Control Line and Clear Line Status (R127, R128). -/

namespace Sys2Proof.Machine

/-! ### The lines through the close of a step (R127) -/

/-- Only the first of two drives to one state can be a transition. -/
theorem drive_drive (b : Bool) (a : AlarmLine) : (a.drive b).drive b = a.drive b := by
  cases b <;> simp [AlarmLine.drive]

theorem drive_of_asserted {b : Bool} {a : AlarmLine} (h : a.asserted = b) : a.drive b = a := by
  obtain ⟨asserted, latched⟩ := a
  subst h
  cases asserted <;> simp [AlarmLine.drive]

theorem cautionTarget_settle (s : State) : cautionTarget (settle s) = cautionTarget s := by simp [cautionTarget]

theorem stopTarget_settle (s : State) : stopTarget (settle s) = stopTarget s := by simp [stopTarget]

theorem settle_caution (s : State) : (settle s).monitor.caution = s.monitor.caution.drive (cautionTarget s) := by
  have hk : cautionTarget (kick s) = cautionTarget s := by simp [cautionTarget]
  simp [settle, refreshLines, hk]

theorem settle_stop (s : State) : (settle s).monitor.stop = s.monitor.stop.drive (stopTarget s) := by
  have hk : stopTarget (kick s) = stopTarget s := by simp [stopTarget, State.suspended]
  simp [settle, refreshLines, hk]

/-! ### Control Line (R128) -/

theorem lineArgs_line {line mode level : Nat} {a : LineMode × Bool} (h : lineArgs line mode level = some a) :
    line = 0 ∨ line = 1 := by
  unfold lineArgs at h
  split at h
  · cases h
  · omega

/-- A ready request whose body makes of the state with its place reserved what `s'` is of `s`, and replies, leaves the
closed step of `s'` with its links changed. -/
theorem command_settles {s s' : State} {l : Link} {r : Request} {t : Byte} {body : State → State × Answer} {rep : Reply}
    (h : Ready s l r) (hl : s'.links = s.links)
    (hb : body (s.onLink l (LinkUnit.reserve r.kind t)) = (s'.onLink l (LinkUnit.reserve r.kind t), .reply rep)) :
    ∃ ls, command l t r body s = .next (settle { s' with links := ls })
      ∧ (settle { s' with links := ls }).standing = s'.standing
      ∧ (settle { s' with links := ls }).sends l (replyFrame rep r.kind t) := by
  obtain ⟨x, hx, hstand, hsends⟩ := command_changes h hl hb
  rw [command_ready h, hb, Host.Outcome.next.injEq] at hx
  subst hx
  exact ⟨_, by rw [command_ready h, hb]; rfl, hstand, hsends⟩

/-- The state of an accepted Control Line before its reply. -/
def controlled (line : Nat) (m : LineMode) (b : Bool) (s : State) : State :=
  refreshLines { s with settings := setLine line m b s.settings }

theorem controlled_standing (line : Nat) (m : LineMode) (b : Bool) (s : State) :
    (controlled line m b s).standing = { s with settings := setLine line m b s.settings }.standing := rfl

section
variable {line mode level : Nat} {m : LineMode} {b : Bool} (s : State)

theorem bodyControlLine_of_none (h : lineArgs line mode level = none) :
    bodyControlLine line mode level s = refuse .badValue s := by
  simp only [bodyControlLine, h]

theorem bodyControlLine_of_storing (h : lineArgs line mode level = some (m, b)) (hs : s.storing = true) :
    bodyControlLine line mode level s = refuse .busy s := by
  simp only [bodyControlLine, h, hs, if_true]

theorem bodyControlLine_of_some (h : lineArgs line mode level = some (m, b)) (hs : s.storing = false) :
    bodyControlLine line mode level s = (controlled line m b s,
      .reply ⟨.done, if line = 0 then cautionImage (controlled line m b s) else stopImage (controlled line m b s)⟩) := by
  simp only [bodyControlLine, h]
  rw [if_neg (by simp [hs])]
  rfl

end

/-- An accepted Control Line leaves the line as its new rule drives it, and the reply carries the line. -/
theorem controlLine_completes {s : State} {l : Link} {tag : Byte} {line mode level : Nat} {m : LineMode} {b : Bool}
    (h : Ready s l (.controlLine line mode level)) (ha : lineArgs line mode level = some (m, b))
    (hs : s.storing = false) :
    ∃ t, exec (.controlLine l tag line mode level) s = .next t
      ∧ t.standing = (controlled line m b s).standing
      ∧ t.settings = setLine line m b s.settings
      ∧ t.monitor.caution = (controlled line m b s).monitor.caution
      ∧ t.monitor.stop = (controlled line m b s).monitor.stop
      ∧ cautionTarget t = cautionTarget (controlled line m b s) ∧ stopTarget t = stopTarget (controlled line m b s)
      ∧ t.sends l (replyFrame ⟨.done, if line = 0 then cautionImage (controlled line m b s)
          else stopImage (controlled line m b s)⟩ 0x08#8 tag) := by
  have hb := bodyControlLine_of_some (s.onLink l (LinkUnit.reserve 0x08#8 tag)) ha hs
  obtain ⟨ls, hx, hstand, hsends⟩ := command_settles (s' := controlled line m b s) h rfl hb
  refine ⟨_, hx, hstand, settle_settings _, ?_, ?_, cautionTarget_settle _, stopTarget_settle _, hsends⟩
  · rw [settle_caution]
    exact drive_drive _ _
  · rw [settle_stop]
    exact drive_drive _ _

/-! ### Clear Line Status (R127) -/

/-- A line that stands as its rule drives it keeps the statuses that are not cleared. -/
theorem clearLineStatus_completes {s : State} {l : Link} {tag : Byte} {n : Nat}
    (h : Ready s l (.clearLineStatus n)) (hn : n ≤ 3) (hl : linesDriven s) :
    ∃ t, exec (.clearLineStatus l tag n) s = .next t ∧ t.standing = s.standing
      ∧ t.monitor.caution = { s.monitor.caution with latched := s.monitor.caution.latched && !n.testBit 0 }
      ∧ t.monitor.stop = { s.monitor.stop with latched := s.monitor.stop.latched && !n.testBit 1 }
      ∧ t.sends l (replyFrame ⟨.done, cautionImage s ++ stopImage s⟩ 0x09#8 tag) := by
  obtain ⟨hcaution, hstop, -⟩ := hl h.powered
  have hb : bodyClearLineStatus n (s.onLink l (LinkUnit.reserve 0x09#8 tag))
      = ((clearStatuses n s).onLink l (LinkUnit.reserve 0x09#8 tag),
        .reply ⟨.done, cautionImage s ++ stopImage s⟩) := by
    rw [bodyClearLineStatus, if_neg (Nat.not_lt.mpr hn)]
    rfl
  obtain ⟨ls, hx, hstand, hsends⟩ := command_settles (s' := clearStatuses n s) h rfl hb
  refine ⟨_, hx, hstand, ?_, ?_, hsends⟩
  · rw [settle_caution]
    exact drive_of_asserted hcaution
  · rw [settle_stop]
    exact drive_of_asserted hstop

/-! ### The statement -/

/-- Settles O27: an accepted Control Line leaves the state of `controlled`, whose lines the close of the step drives no
further, and Clear Line Status leaves two lines that stand as their rules give. -/
theorem alarmLineCommandsComplete : Obligations.AlarmLineCommandsComplete := by
  refine ⟨fun s l tag line mode level => ?_, fun s l tag n h => ⟨fun hn => ?_, clearLineStatus_completes h⟩⟩
  · intro r i h
    refine ⟨fun ha => command_quiet h (bodyControlLine_of_none _ ha),
      fun m b ha hs => command_quiet h (bodyControlLine_of_storing _ ha hs), fun m b ha hs => ?_⟩
    obtain ⟨t, hx, hstand, hset, hcaution, hstop, htc, hts, hsends⟩ := controlLine_completes (tag := tag) h ha hs
    refine ⟨t, hx, ?_, ?_, ?_⟩
    · rw [hstand, hset, controlled_standing]
    · rintro rfl
      refine ⟨hset, ?_, ?_, ?_⟩
      · rw [hcaution, htc]
        rfl
      · rw [hcaution, htc]
        rfl
      · rw [hcaution, hset]
        exact hsends
    · rintro rfl
      refine ⟨hset, ?_, ?_, ?_⟩
      · rw [hstop, hts]
        rfl
      · rw [hstop, hts]
        rfl
      · rw [hstop, hset]
        exact hsends
  · exact command_quiet h (if_pos hn)

end Sys2Proof.Machine
end

section
/-! The corrective-transfer test, and what a delivered transfer prediction makes of its request (R123, R164, R166). -/

namespace Sys2Proof.Machine

/-! ### The corrective-transfer test (R123) -/

theorem excess_eq_some_iff {v : Violation} {e : Int} :
    v.excess = some e ↔ (v.outcome = .high ∧ e = v.value - v.limit) ∨ (v.outcome = .low ∧ e = v.limit - v.value) := by
  cases h : v.outcome <;> simp [Violation.excess, h, eq_comm]

theorem samePair_eq (p : Violation) : p.samePair = fun q => decide (p.cls = q.cls ∧ p.index = q.index) := by
  funext q
  simp [Violation.samePair]

section
variable {pred : List Violation} {p q : Violation}

theorem fare_of_absent (h : pred.find? p.samePair = none) : fare pred p = .improved := by
  simp only [fare, h]

theorem fare_of_excesses (h : pred.find? p.samePair = some q) {e e' : Int} (hp : p.excess = some e)
    (hq : q.excess = some e') :
    fare pred p = if e' < e then .improved else if e' = e then .unchanged else .worsened := by
  simp only [fare, h, hp, hq]

theorem fare_of_no_excess (h : pred.find? p.samePair = some q) (hn : p.excess = none ∨ q.excess = none) :
    fare pred p = .unchanged := by
  rcases hn with hn | hn
  · simp only [fare, h, hn]
  · cases hp : p.excess <;> simp only [fare, h, hp, hn]

/-- A pair in the prediction fares by the two excesses, if both violations have one. -/
theorem excesses_or (p q : Violation) :
    (∃ e e', p.excess = some e ∧ q.excess = some e') ∨ p.excess = none ∨ q.excess = none := by
  cases p.excess <;> cases q.excess <;> simp

theorem fare_improved_iff :
    fare pred p = .improved ↔ pred.find? p.samePair = none
      ∨ ∃ q e e', pred.find? p.samePair = some q ∧ p.excess = some e ∧ q.excess = some e' ∧ e' < e := by
  cases h : pred.find? p.samePair with
  | none => simp [fare_of_absent h]
  | some q =>
    rcases excesses_or p q with ⟨e, e', hp, hq⟩ | hn
    · rw [fare_of_excesses h hp hq]
      split_ifs <;> simp_all
    · rw [fare_of_no_excess h hn]
      rcases hn with hn | hn <;> simp [hn]

theorem fare_worsened_iff :
    fare pred p = .worsened ↔
      ∃ q e e', pred.find? p.samePair = some q ∧ p.excess = some e ∧ q.excess = some e' ∧ e < e' := by
  cases h : pred.find? p.samePair with
  | none => simp [fare_of_absent h]
  | some q =>
    rcases excesses_or p q with ⟨e, e', hp, hq⟩ | hn
    · rw [fare_of_excesses h hp hq]
      split_ifs <;> simp_all <;> omega
    · rw [fare_of_no_excess h hn]
      rcases hn with hn | hn <;> simp [hn]

end

theorem mem_actualSide {m : SeverityMap} {kept : List Violation} {v : Violation} :
    v ∈ actualSide m kept ↔ v ∈ kept ∧ v.cls.num ≤ 11 ∧ m.get v.cls = .stop := by
  simp [actualSide, hasCounterpart]

theorem corrective_iff (m : SeverityMap) (kept pred : List Violation) :
    corrective m kept pred = true ↔
      (∀ v ∈ actualSide m kept, fare pred v ≠ .worsened) ∧ (∃ v ∈ actualSide m kept, fare pred v = .improved)
      ∧ ∀ q ∈ pred, m.get q.cls = .stop → ∃ v ∈ actualSide m kept, q.cls = v.cls ∧ q.index = v.index := by
  simp only [corrective, Bool.and_eq_true, List.all_eq_true, List.any_eq_true, decide_eq_true_eq, Bool.or_eq_true,
    standsIn, Violation.samePair, and_assoc, ne_eq, imp_iff_not_or]

/-! ### A delivered prediction (R79, R80) -/

/-- The state with its evaluation unit freed. -/
def unitFreed (s : State) : State := { s with eval := { s.eval with unit := .idle } }

/-- R80: the prediction of the present ACTUAL is delivered to the gate. -/
theorem predictionCompletion_delivers {s : State} {p : Prediction} (hp : s.powered = true)
    (hu : s.eval.unit = .predicting p) (hh : p.phase ≠ .hook) (hg : p.gen = s.eval.actual.gen) :
    exec .predictionCompletion s = .next (settle (deliver p (unitFreed s))) := by
  have hdue : inLastPhase s = true := by simp [inLastPhase_of_predicting hu, hh]
  have hdeliver : completePrediction s = deliver p (unitFreed s) := by
    unfold completePrediction
    rw [predictionInFlight_eq_some.mpr hu]
    exact if_pos hg.symm
  rw [← hdeliver]
  exact dueEvent_due hp hdue

/-! ### The transfer it is delivered to (R164, R166) -/

section
variable {s : State} {id : Nat} {x : Transfer} {was : Pending} {timer : Count32}
  (ht : tget s.ballast.transfers id = some x) (hx : x.phase = .requested was timer)

include ht

/-- R166: the mark of the prediction and the readings of the ends, as the delivery tests them. -/
theorem stale_or_not (tainted : Bool) :
    (tainted || !endsFresh s id) = !(!tainted && x.tankEnds.all (tankFresh s)) := by
  simp [endsFresh, ht]

include hx

theorem setTransferReason_of_requested (why : Pending) :
    setTransferReason id why s =
      s.setTransfers (tput s.ballast.transfers id { x with phase := .requested why timer }) := by
  simp only [setTransferReason, ht, Transfer.setReason, hx]

variable (hq : GateEntry.transfer id ∈ s.gate.queue) {tainted : Bool} {pred : List Violation}

include hq

theorem deliverTransfer_of_stale (h : (!tainted && x.tankEnds.all (tankFresh s)) = false) :
    deliverTransfer id tainted pred s = setTransferReason id .stale s := by
  simp [deliverTransfer, ht, hx, hq, stale_or_not ht, h]

variable (h : (!tainted && x.tankEnds.all (tankFresh s)) = true)

include h

theorem deliverTransfer_of_suspended (hs : s.suspended = true) :
    deliverTransfer id tainted pred s =
      if corrective s.settings.severity s.monitor.actual.kept pred then grantTransfer id x s
      else setTransferReason id .suspended s := by
  simp [deliverTransfer, ht, hx, hq, stale_or_not ht, h, hs]

theorem deliverTransfer_of_not_suspended (hs : s.suspended = false) :
    deliverTransfer id tainted pred s =
      (blocking s.settings pred).elim (grantTransfer id x s) (fun c => setTransferReason id (.limits c) s) := by
  cases hb : blocking s.settings pred <;> simp [deliverTransfer, ht, hx, hq, stale_or_not ht, h, hs, hb]

end

/-! ### The statement -/

/-- Settles O60: the corrective test by how each pair fares (`corrective_iff`), and the delivery by the branches of
`deliverTransfer`, whose outcome stands whether the unit is freed before it or not. -/
theorem transferPredictionsDeliver : Obligations.TransferPredictionsDeliver := by
  refine ⟨fun m kept pred => ?_, fun s p id x was timer hp hu hph hk hg ht hx hq => ?_⟩
  · intro side found excess improved worsened
    rw [corrective_iff]
    simp only [mem_actualSide, ne_eq, fare_worsened_iff, fare_improved_iff, excess_eq_some_iff, samePair_eq]
    rfl
  · intro pred fresh waits granted
    have hexec := predictionCompletion_delivers hp hu (by simp [hph]) hg
    have hdeliver : deliver p (unitFreed s) = deliverTransfer id p.tainted pred (unitFreed s) := by
      unfold deliver
      rw [hk]
      rfl
    have hwait (why : Pending) (h : deliver p (unitFreed s) = setTransferReason id why (unitFreed s)) :
        waits why := by
      refine ⟨_, hexec, ?_⟩
      rw [settle_standing, h, setTransferReason_of_requested (s := unitFreed s) ht hx]
      rfl
    have hgrant (h : deliver p (unitFreed s) = grantTransfer id x (unitFreed s)) : granted := by
      refine ⟨_, hexec, ?_⟩
      rw [settle_standing, h]
      rfl
    refine ⟨fun hf => hwait _ ?_, fun hf hs => ?_, fun hf hs => ?_⟩
    · rw [hdeliver]
      exact deliverTransfer_of_stale (s := unitFreed s) ht hx hq hf
    · have hd := hdeliver.trans (deliverTransfer_of_suspended (s := unitFreed s) ht hx hq hf hs)
      exact ⟨fun hc => hgrant (hd.trans (if_pos hc)), fun hc => hwait _ (hd.trans (if_neg (Bool.eq_false_iff.mp hc)))⟩
    · have hd := hdeliver.trans (deliverTransfer_of_not_suspended (s := unitFreed s) ht hx hq hf hs)
      refine ⟨fun hb => hgrant (hd.trans ?_), fun c hb => hwait _ (hd.trans ?_)⟩
      · exact congrArg (Option.elim · _ _) hb
      · exact congrArg (Option.elim · _ _) hb

end Sys2Proof.Machine
end

section
/-! Suspend Work and Resume Work (R121, R122, R124, R139, R140, R145, R164). -/

namespace Sys2Proof.Machine

/-! ### A reply and the close of its step (R180) -/

/-- The state `v` with the reply in the place of the command being served, and the step closed. -/
def replied (l : Link) (rep : Reply) (v : State) : State := settle (v.onLink l (LinkUnit.fill .current rep))

theorem command_replied {s v : State} {l : Link} {r : Request} {t : Byte} {body : State → State × Answer} {rep : Reply}
    (h : Ready s l r) (hb : body (s.onLink l (LinkUnit.reserve r.kind t)) = (v, .reply rep))
    (hold : (v.links.get l).holds r.kind t) :
    command l t r body s = .next (replied l rep v) ∧ (replied l rep v).sends l (replyFrame rep r.kind t) := by
  refine ⟨by rw [command_ready h, hb]; rfl, sends_settle (.inl ?_)⟩
  rw [onLink_get_self]
  exact fill_sends hold

section
variable (l : Link) (rep : Reply) (v : State)

theorem replied_untouched : Untouched v (replied l rep v) := (onLink_untouched l _ v).trans (settle_untouched _)

theorem replied_mode : (replied l rep v).mode = v.mode := by simp [replied]

theorem replied_cond : (replied l rep v).cond = v.cond := by simp [replied]

theorem replied_ballast : (replied l rep v).ballast = v.ballast := by simp [replied]

theorem replied_suspension : (replied l rep v).monitor.suspension = v.monitor.suspension := by simp [replied]

theorem replied_gate : (replied l rep v).gate.slot = v.gate.slot ∧ (replied l rep v).gate.queue = v.gate.queue := by
  simp [replied]

theorem replied_liftRec (c : CraneId) : (replied l rep v).liftRec c = v.liftRec c :=
  settle_liftRec _ c

theorem replied_gen : (replied l rep v).eval.actual.gen = v.eval.actual.gen
    ∧ (replied l rep v).eval.plan.gen = v.eval.plan.gen :=
  ⟨settle_ctx_gen _ .actual, settle_ctx_gen _ .plan⟩

theorem replied_notices (j : Link) : ((replied l rep v).links.get j).notices = (v.links.get j).notices := by
  rw [replied, settle_notices, onLink_get]
  split <;> rfl

theorem replied_demanded (k : DemandKey) : (replied l rep v).demanded k ↔ v.demanded k := demanded_settle _ k

end

/-! ### Suspend Work (R121, R122, R145) -/

section
variable (s : State)

theorem bodySuspendWork_of_some {r : Suspension} (h : s.monitor.suspension = some r) :
    bodySuspendWork s = (s, .quiet ⟨.done, suspensionImage (some r)⟩) := by
  simp [bodySuspendWork, State.suspended, h]

theorem bodySuspendWork_of_none (h : s.monitor.suspension = none) :
    bodySuspendWork s = (enterSuspension .commanded s,
      .reply ⟨.done, encU 1 1 ++ encU 1 2 ++ encU 1 0 ++ encU 2 0 ++ encU 4 s.time.toNat⟩) := by
  simp [bodySuspendWork, State.suspended, h, enterSuspension_suspension, suspensionImage]

end

/-- A change of one link's queues is nothing to the gate. -/
theorem alike_reserve (l : Link) (k tag : Byte) (s : State) : Alike s (s.onLink l (LinkUnit.reserve k tag)) :=
  ⟨rfl, rfl, rfl, rfl, rfl, rfl, rfl, rfl, fun j => noted_congr (by rw [onLink_get]; split <;> rfl) _⟩

theorem reserve_notices (l j : Link) (k tag : Byte) (s : State) :
    ((s.onLink l (LinkUnit.reserve k tag)).links.get j).notices = (s.links.get j).notices := by
  rw [onLink_get]
  split <;> rfl

theorem requeueLift_notices (r : LiftRef) (p : Pending) (s : State) (j : Link) :
    ((requeueLift r p s).links.get j).notices = (s.links.get j).notices
      ||| (if j = .l0 ∨ j ∈ r.cranes.map CraneId.link then Event.lift.flag else 0#16) := by
  have hlinks : (requeueLift r p s).links = (latchOn .lift (r.cranes.map CraneId.link ++ [.l0])
      ((clearStale r.cranes (((withdrawDemand .recheck s).onRecs r.cranes (LiftRecord.requeued s.time p)).setSlot
        none)).setQueue (.lift r :: s.gate.queue))).links := by simp [requeueLift, latchLift]
  rw [hlinks, latchOn_notices]
  simp [or_comm]

theorem requeueLift_holds {l : Link} {k tag : Byte} {s : State} (h : (s.links.get l).holds k tag) (r : LiftRef)
    (p : Pending) : ((requeueLift r p s).links.get l).holds k tag := holds_latchOn (by simpa using h)

theorem requeueLift_plan (r : LiftRef) (p : Pending) (s : State) : (requeueLift r p s).eval.plan = s.eval.plan := by
  simp [requeueLift, advanceActual]

section
variable {s : State} {l : Link} {tag : Byte} (h : Ready s l .suspendWork) (hn : s.monitor.suspension = none)

include h hn

/-- R121: with no clearance standing, suspension enters and SUSPEND is latched, and that is all. -/
theorem suspendWork_completes (hc : standingClearance s = none) :
    Completes (.suspendWork l tag) l s
      (latchOn .suspend allLinks { s with monitor := { s.monitor with suspension := some ⟨.commanded, s.time⟩ } })
      (replyFrame ⟨.done, encU 1 1 ++ encU 1 2 ++ encU 1 0 ++ encU 2 0 ++ encU 4 s.time.toNat⟩ 0x2C#8 tag) := by
  have hb := bodySuspendWork_of_none (s.onLink l (LinkUnit.reserve 0x2C#8 tag)) hn
  rw [enterSuspension_of_none (s := s.onLink l _) hc] at hb
  exact command_reply h hb (holds_latchOn (holds_reserve h.none l _ tag))
    (latchOn_standing_congr (standing_onLink (l := l) (f := LinkUnit.reserve 0x2C#8 tag)
      (s := { s with monitor := { s.monitor with suspension := some ⟨.commanded, s.time⟩ } }) (standing_reserve _ _ _)))

/-- R122: the state that a withdrawal of the clearance leaves to its decision round. -/
theorem suspendWork_withdraws {r : LiftRef} (hc : standingClearance s = some r) :
    ∃ v rep, rep = (⟨.done, encU 1 1 ++ encU 1 2 ++ encU 1 0 ++ encU 2 0 ++ encU 4 s.time.toNat⟩ : Reply)
      ∧ exec (.suspendWork l tag) s = .next (replied l rep (decisionRound v))
      ∧ (replied l rep (decisionRound v)).sends l (replyFrame rep 0x2C#8 tag)
      ∧ v = requeueLift r .suspended (suspendedBy .commanded (s.onLink l (LinkUnit.reserve 0x2C#8 tag))) := by
  have hb := bodySuspendWork_of_none (s.onLink l (LinkUnit.reserve 0x2C#8 tag)) hn
  rw [enterSuspension_of_some (s := s.onLink l _) hc, withdrawClearance_eq] at hb
  have hold : (((suspendedBy .commanded (s.onLink l (LinkUnit.reserve 0x2C#8 tag)))).links.get l).holds 0x2C#8 tag :=
    holds_latchOn (holds_reserve h.none l _ tag)
  obtain ⟨hx, hs⟩ := command_replied h hb (by
    rw [decisionRound_links]
    exact requeueLift_holds hold r .suspended)
  exact ⟨_, _, rfl, hx, hs, rfl⟩

end

/-! ### Resume Work (R124, R139) -/

section
variable (s : State)

theorem bodyResumeWork_of_none (h : s.monitor.suspension = none) :
    bodyResumeWork s = (s, .quiet ⟨.done, suspensionImage none⟩) := by
  simp [bodyResumeWork, State.suspended, h]

theorem bodyResumeWork_of_first {r : Suspension} {v : Violation} (h : s.monitor.suspension = some r)
    (hv : firstAtTrigger s = some v) :
    bodyResumeWork s =
      (s, .quiet ⟨.stillViolated, suspensionImage (some r) ++ encU 1 v.cls.num ++ encU 2 v.index⟩) := by
  simp [bodyResumeWork, State.suspended, h, hv]

theorem bodyResumeWork_of_clear {r : Suspension} (h : s.monitor.suspension = some r) (hv : firstAtTrigger s = none) :
    bodyResumeWork s = (decisionRound (endSuspension s), .reply ⟨.done, zeroBytes 9⟩) := by
  simp [bodyResumeWork, State.suspended, h, hv, suspensionImage]

end

theorem firstAtTrigger_eq_none {s : State}
    (h : ∀ v ∈ s.monitor.actual.kept, atTrigger s.settings.trigger (s.settings.severity.get v.cls) = false) :
    firstAtTrigger s = none :=
  List.find?_eq_none.mpr fun v hv => by simp [h v hv]

theorem alike_endSuspension (s : State) : Alike s (endSuspension s) :=
  ⟨by simp, by simp, by simp, by simp, by simp, by simp, by simp, by simp, fun j => latchOn_noted_ne (by simp) _ _ j⟩

theorem endSuspension_suspension (s : State) : (endSuspension s).monitor.suspension = none := by simp [endSuspension]

theorem endSuspension_untouched (s : State) : Untouched s (endSuspension s) :=
  ⟨by simp, by simp, by simp, by simp, by simp, by simp, by simp, by simp, by simp, by simp, by simp, by simp, by simp⟩

theorem endSuspension_notices (s : State) (j : Link) :
    ((endSuspension s).links.get j).notices = (s.links.get j).notices ||| Event.suspend.flag := by
  rw [endSuspension, latchOn_notices, if_pos (mem_allLinks j)]

section
variable {s : State} {l : Link} {tag : Byte} (h : Ready s l .resumeWork)

include h

/-- R124, R139: the state that the end of the suspension leaves to its decision round. -/
theorem resumeWork_ends {r : Suspension} (hr : s.monitor.suspension = some r) (hv : firstAtTrigger s = none) :
    ∃ v, exec (.resumeWork l tag) s = .next (replied l ⟨.done, zeroBytes 9⟩ (decisionRound v))
      ∧ (replied l ⟨.done, zeroBytes 9⟩ (decisionRound v)).sends l (replyFrame ⟨.done, zeroBytes 9⟩ 0x2D#8 tag)
      ∧ v = endSuspension (s.onLink l (LinkUnit.reserve 0x2D#8 tag)) := by
  have hb := bodyResumeWork_of_clear (s.onLink l (LinkUnit.reserve 0x2D#8 tag)) hr hv
  have hold : ((endSuspension (s.onLink l (LinkUnit.reserve 0x2D#8 tag))).links.get l).holds 0x2D#8 tag :=
    holds_latchOn (holds_reserve h.none l _ tag)
  obtain ⟨hx, hs⟩ := command_replied h hb (by
    rw [decisionRound_links]
    exact hold)
  exact ⟨_, hx, hs, rfl⟩

end

/-! ### The statement -/

/-- R121, R122, R145: a standing clearance is withdrawn, in any gate. -/
theorem suspendWork_of_clearance {s : State} {l : Link} (tag : Byte) {r : LiftRef} (h : Ready s l .suspendWork)
    (hn : s.monitor.suspension = none) (hc : standingClearance s = some r) :
    ∃ t, exec (.suspendWork l tag) s = .next t
      ∧ t.sends l (replyFrame ⟨.done, encU 1 1 ++ encU 1 2 ++ encU 1 0 ++ encU 2 0 ++ encU 4 s.time.toNat⟩ 0x2C#8 tag)
      ∧ t.monitor.suspension = some ⟨.commanded, s.time⟩
      ∧ (∀ c ∈ r.cranes, t.liftRec c = (s.liftRec c).requeued s.time .suspended)
      ∧ t.gate.slot = none ∧ t.gate.queue = .lift r :: s.gate.queue
      ∧ t.cond = s.cond ∧ t.eval.actual.gen = s.eval.actual.gen + 1 ∧ t.eval.plan.gen = s.eval.plan.gen
      ∧ (∀ j, (t.links.get j).notices = (s.links.get j).notices ||| Event.suspend.flag
        ||| (if j = .l0 ∨ j ∈ r.cranes.map CraneId.link then Event.lift.flag else 0#16))
      ∧ t.mode = s.mode ∧ Untouched s t := by
  obtain ⟨v, rep, rfl, hx, hsends, hv⟩ := suspendWork_withdraws (tag := tag) h hn hc
  have halike := (alike_reserve l 0x2C#8 tag s).trans (alike_suspendedBy .commanded _)
  have hwith : Withdrawn r .suspended s v := hv ▸ halike.withdrawn
  have hacts := (suspendedBy_gateActs .commanded (s.onLink l (LinkUnit.reserve 0x2C#8 tag))).trans
    (withdrawClearance_gateActs r .suspended _)
  rw [withdrawClearance_eq, ← hv] at hacts
  have hsusp : v.monitor.suspension = some ⟨.commanded, s.time⟩ := by
    rw [hv]
    simp [requeueLift, suspendedBy]
  have hstop (e : LiftRef) : ruling v (.lift e) = some .suspended :=
    ruling_of_suspended hwith.slot ((suspended_iff v).mpr (by simp [hsusp])) e
  obtain ⟨hslot, hqueue⟩ := replied_gate l _ (decisionRound v)
  obtain ⟨hgen, hplan⟩ := replied_gen l _ (decisionRound v)
  refine ⟨_, hx, hsends, ?_, fun c hcr => ?_, ?_, ?_, ?_, ?_, ?_, fun j => ?_, ?_, ?_⟩
  · rw [replied_suspension, decisionRound_monitor, hsusp]
  · rw [replied_liftRec, decisionRound_liftRec (fun e _ _ => hstop e) ⟨r, by simp [hwith.queue], hcr⟩,
      (hwith.mine c hcr).1]
    rfl
  · rw [hslot, decisionRound_gate_slot, hwith.slot]
  · rw [hqueue, decisionRound_gate_queue, hwith.queue]
  · rw [replied_cond, hacts.cond, onLink_cond]
  · rw [hgen, decisionRound_eval_actual, hwith.gen]
  · rw [hplan, decisionRound_eval_plan, hv, requeueLift_plan]
    simp [suspendedBy]
  · rw [replied_notices, decisionRound_links, hv, requeueLift_notices, suspendedBy, latchOn_notices,
      if_pos (mem_allLinks j)]
    exact congrArg (· ||| Event.suspend.flag ||| _) (reserve_notices l j _ _ s)
  · rw [replied_mode, hacts.mode, onLink_mode]
  · exact ((onLink_untouched _ _ s).trans hacts.frame).trans (replied_untouched _ _ _)

section
variable {s v : State} (hg : GateSound s) (ha : Alike s v)

include hg ha

/-- R140: the steps that stop a lift entry once suspension has ended. -/
theorem resumed_ruling (hs : v.suspended = false) (hw : v.gate.window = s.gate.window) (e : LiftRef) :
    ruling v (.lift e) =
      if s.gate.slot ≠ none then some .exclusive
      else if actualTainted s = true ∨ (∃ c ∈ e.cranes, hookFresh s c = false) then some .stale
      else if s.gate.window = false then some .window
      else none := by
  have hprep := ha.prepared hg
  simp only [ruling_lift, ha.slot, hs, hprep.tainted, hprep.fresh, hw, Bool.false_eq_true, if_false]

/-- R164: what the round makes of a transfer entry. -/
theorem resumed_transfer {id : Nat} {x : Transfer} {was : Pending} {timer : Count32}
    (hq : GateEntry.transfer id ∈ s.gate.queue) (hx : tget s.ballast.transfers id = some x)
    (hph : x.phase = .requested was timer) :
    ((actualTainted s = true ∨ ∃ k ∈ x.tankEnds, tankFresh s k = false) →
      tget (decisionRound v).ballast.transfers id = some { x with phase := .requested .stale timer }
        ∧ ¬ (decisionRound v).demanded (.transfer id))
    ∧ (¬ (actualTainted s = true ∨ ∃ k ∈ x.tankEnds, tankFresh s k = false) →
      tget (decisionRound v).ballast.transfers id = some x ∧ (decisionRound v).demanded (.transfer id)) := by
  have hprep := ha.prepared hg
  have hstopped : (actualTainted v = true ∨ endsFresh v id = false)
      ↔ (actualTainted s = true ∨ ∃ k ∈ x.tankEnds, tankFresh s k = false) := by
    rw [hprep.tainted, hprep.ends]
    simp [endsFresh_eq, State.endsOf, hx]
  have hreason : x.setReason .stale = { x with phase := .requested .stale timer } := by
    simp only [Transfer.setReason, hph]
  rw [← ha.queue] at hq
  obtain ⟨hstop, hpass⟩ := hprep.transfer_entry hq hx
  rw [← hreason]
  exact ⟨fun h => hstop ((ruling_transfer _ _).trans (if_pos (hstopped.mpr h))),
    fun h => hpass ((ruling_transfer _ _).trans (if_neg (mt hstopped.mp h)))⟩

end

/-- Settles O38: the bodies by their cases, the withdrawal stage by stage (`suspendWork_of_clearance`), and the round
after a resumption by its rulings (`resumed_ruling`, `resumed_transfer`). -/
theorem suspensionCommandsComplete : Obligations.SuspensionCommandsComplete := by
  refine ⟨fun s l tag h => ⟨fun r hr => command_quiet h (bodySuspendWork_of_some _ hr),
      suspendWork_completes h, fun r hn hc => ?_⟩,
    fun s l tag h => ⟨fun hn => command_quiet h (bodyResumeWork_of_none _ hn),
      fun r v hr hv => command_quiet h (bodyResumeWork_of_first _ hr hv), fun r hr hall => ?_⟩⟩
  · obtain ⟨t, hx, hsends, hsusp, hrecs, hrest⟩ := suspendWork_of_clearance tag h hn hc
    refine ⟨t, hx, hsends, hsusp, fun c hcr => ?_, hrest⟩
    rw [hrecs c hcr]
    exact ⟨rfl, rfl, rfl, rfl, rfl, rfl⟩
  · obtain ⟨v, hx, hsends, hv⟩ := resumeWork_ends (tag := tag) h hr (firstAtTrigger_eq_none hall)
    have halike : Alike s v := hv ▸ (alike_reserve l 0x2D#8 tag s).trans (alike_endSuspension _)
    have hsusp : v.monitor.suspension = none := hv ▸ endSuspension_suspension _
    have hwindow : v.gate.window = s.gate.window := by simp [hv]
    have hframe : Untouched s v := hv ▸ (onLink_untouched _ _ s).trans (endSuspension_untouched _)
    obtain ⟨hslot, hqueue⟩ := replied_gate l ⟨.done, zeroBytes 9⟩ (decisionRound v)
    have hstood : ∀ c, ((replied l ⟨.done, zeroBytes 9⟩ (decisionRound v)).liftRec c).silent
        = (s.liftRec c).silent := fun c => by
      rw [replied_liftRec, decisionRound_silent, halike.liftRec]
    refine ⟨_, hx, hsends, ?_, fun k => ?_, ?_, ?_, ?_, hstood, ?_, ?_, fun hg => ?_⟩
    · rw [replied_suspension, decisionRound_monitor, hsusp]
    · rw [replied_notices, decisionRound_links, hv, endSuspension_notices, reserve_notices]
    · rw [replied_cond, decisionRound_cond, halike.cond]
    · rw [hqueue, decisionRound_gate_queue, halike.queue]
    · rw [hslot, decisionRound_gate_slot, halike.slot]
    · rw [replied_mode, decisionRound_mode, hv, endSuspension_mode, onLink_mode]
    · exact (hframe.trans (decisionRound_gateActs v).frame).trans (replied_untouched _ _ _)
    · intro tainted
      rw [replied_ballast]
      simp only [← not_demanded_iff, replied_liftRec]
      refine ⟨fun e he => ?_, fun id x was timer hq hx hph => ?_⟩
      · have hentry := (halike.prepared hg).lift_entry (r := e) (by rwa [halike.queue])
        simp only [resumed_ruling hg halike (by simp [State.suspended, hsusp]) hwindow e,
          ← replied_demanded l ⟨.done, zeroBytes 9⟩ (decisionRound v)] at hentry
        exact hentry
      · have htransfer := resumed_transfer hg halike hq hx hph
        simp only [← replied_demanded l ⟨.done, zeroBytes 9⟩ (decisionRound v)] at htransfer
        exact htransfer

end Sys2Proof.Machine
end

section
/-! What the gate's invariant reads of a state, and the operations and requests that leave it (R122, R132, R138). -/

namespace Sys2Proof.Machine

/-! ### The view -/

/-- A lift record's state and role, which say what lift the crane is in. -/
def LiftRecord.stance (r : LiftRecord) : LiftState × Option Role := (r.state, r.role)

/-- The lift of a lift entry. -/
def GateEntry.lift? : GateEntry → Option LiftRef
  | .lift r => some r
  | .transfer _ => none

/-- The lifts of the gate queue, head first. -/
def State.queuedLifts (s : State) : List LiftRef := s.gate.queue.filterMap GateEntry.lift?

/-- What `GateSound` reads: each crane's state and role, the exclusive slot, the lifts of the queue, and whether
suspension is in force. -/
def State.gateView (s : State) : (CraneId → LiftState × Option Role) × Option LiftRef × List LiftRef × Bool :=
  (fun c => (s.liftRec c).stance, s.gate.slot, s.queuedLifts, s.suspended)

theorem lift?_eq_some {e : GateEntry} {r : LiftRef} : e.lift? = some r ↔ e = .lift r := by
  cases e <;> simp [GateEntry.lift?]

theorem mem_queuedLifts {s : State} {r : LiftRef} : r ∈ s.queuedLifts ↔ GateEntry.lift r ∈ s.gate.queue := by
  simp [State.queuedLifts, List.mem_filterMap, lift?_eq_some]

theorem count_lifts (q : List GateEntry) (r : LiftRef) : (q.filterMap GateEntry.lift?).count r = q.count (.lift r) := by
  induction q with
  | nil => rfl
  | cons e q ih => cases e <;> simp [List.filterMap_cons, GateEntry.lift?, List.count_cons, ih]

theorem liftOf_of_stance {s t : State} {c : CraneId} (h : (t.liftRec c).stance = (s.liftRec c).stance) :
    liftOf t c = liftOf s c := by
  simp only [LiftRecord.stance, Prod.mk.injEq] at h
  simp only [liftOf, h.1, h.2]

theorem gateView_eq {s t : State} : t.gateView = s.gateView ↔
    (∀ c, (t.liftRec c).stance = (s.liftRec c).stance) ∧ t.gate.slot = s.gate.slot ∧ t.queuedLifts = s.queuedLifts
      ∧ t.suspended = s.suspended := by
  simp only [State.gateView, Prod.mk.injEq, funext_iff]

/-- The gate is sound by its records, slot and queue, where suspension is in force over no clearance. -/
theorem GateSound.congr_of {s t : State} (h : GateSound s) (hstance : ∀ c, (t.liftRec c).stance = (s.liftRec c).stance)
    (hslot : t.gate.slot = s.gate.slot) (hqueue : t.queuedLifts = s.queuedLifts)
    (hsus : t.suspended = true → ∀ c, (s.liftRec c).state ≠ .cleared) : GateSound t := by
  have hlift (c : CraneId) : liftOf t c = liftOf s c := liftOf_of_stance (hstance c)
  have hstate (c : CraneId) : (t.liftRec c).state = (s.liftRec c).state := congrArg Prod.fst (hstance c)
  have hrole (c : CraneId) : (t.liftRec c).role = (s.liftRec c).role := congrArg Prod.snd (hstance c)
  have hmem (r : LiftRef) : GateEntry.lift r ∈ t.gate.queue ↔ GateEntry.lift r ∈ s.gate.queue := by
    rw [← mem_queuedLifts, hqueue, mem_queuedLifts]
  constructor
  · simpa only [hslot, hlift, hstate] using h.holder
  · simpa only [hslot, hlift, hstate] using h.others
  · simpa only [hmem, hlift, hstate] using h.entries
  · simpa only [hmem, hlift, hstate] using h.queued
  · intro r
    rw [← count_lifts]
    exact (congrArg (List.count r) hqueue).trans_le ((count_lifts _ r).trans_le (h.once r))
  · simpa only [hstate, hrole] using h.pairing
  · simpa only [hstate] using hsus

/-- The gate is sound by its view. -/
theorem GateSound.congr {s t : State} (h : GateSound s) (e : t.gateView = s.gateView) : GateSound t := by
  obtain ⟨hstance, hslot, hqueue, hsusp⟩ := gateView_eq.mp e
  exact h.congr_of hstance hslot hqueue (hsusp ▸ h.suspended)

theorem gateView_of_gate {s t : State} (hg : t.gate = s.gate) (hs : t.monitor.suspension = s.monitor.suspension) :
    t.gateView = s.gateView := by
  simp only [State.gateView, State.liftRec, State.queuedLifts, State.suspended, hg, hs]

theorem gateView_of_recs {s t : State} (hr : t.gate.recs = s.gate.recs) (hslot : t.gate.slot = s.gate.slot)
    (hq : t.gate.queue = s.gate.queue) (hs : t.monitor.suspension = s.monitor.suspension) :
    t.gateView = s.gateView := by
  simp only [State.gateView, State.liftRec, State.queuedLifts, State.suspended, hr, hslot, hq, hs]

/-! ### The operations that leave it -/

section
variable (s : State)

@[simp] theorem onLink_gateView (l : Link) (f : LinkUnit → LinkUnit) : (s.onLink l f).gateView = s.gateView :=
  gateView_of_gate rfl rfl

@[simp] theorem latchOn_gateView (e : Event) (ls : List Link) : (latchOn e ls s).gateView = s.gateView :=
  gateView_of_gate (by simp) (by simp)

@[simp] theorem latch_gateView (e : Event) (l : Link) : (latch e l s).gateView = s.gateView :=
  gateView_of_gate (by simp) (by simp)

@[simp] theorem latchLift_gateView (cs : List CraneId) : (latchLift cs s).gateView = s.gateView :=
  latchOn_gateView s _ _

@[simp] theorem latchTransfer_gateView : (latchTransfer s).gateView = s.gateView := latchOn_gateView s _ _

@[simp] theorem startAllTx_gateView : (startAllTx s).gateView = s.gateView := gateView_of_gate (by simp) (by simp)

@[simp] theorem settle_gateView : (settle s).gateView = s.gateView :=
  gateView_of_recs (by simp) (by simp) (by simp) (by simp)

@[simp] theorem setStale_gateView (c : CraneId) (b : Bool) : (s.setStale c b).gateView = s.gateView :=
  gateView_of_recs rfl rfl rfl rfl

@[simp] theorem clearStale_gateView (cs : List CraneId) : (clearStale cs s).gateView = s.gateView :=
  gateView_of_recs (by simp) (by simp) (by simp) (by simp)

@[simp] theorem setLots_gateView (t : Table Lot) : (s.setLots t).gateView = s.gateView := rfl

@[simp] theorem setSeq_gateView (q : List SeqEntry) : (s.setSeq q).gateView = s.gateView := rfl

@[simp] theorem setTanks_gateView (t : Table TankRow) : (s.setTanks t).gateView = s.gateView := rfl

@[simp] theorem setTankRow_gateView (k : Nat) (r : TankRow) : (s.setTankRow k r).gateView = s.gateView := rfl

@[simp] theorem setHook_gateView (c : CraneId) (h : HookItem) : (s.setHook c h).gateView = s.gateView := rfl

@[simp] theorem onLot_gateView (n : Nat) (f : Lot → Lot) : (s.onLot n f).gateView = s.gateView :=
  gateView_of_gate (by simp) (by simp)

@[simp] theorem onLiftLot_gateView (r : LiftRef) (f : Lot → Lot) : (s.onLiftLot r f).gateView = s.gateView :=
  gateView_of_gate (by simp) (by simp)

@[simp] theorem setTransfers_gateView (t : Table Transfer) : (s.setTransfers t).gateView = s.gateView := rfl

@[simp] theorem logEnd_gateView (e : EndRecord) : (logEnd e s).gateView = s.gateView := rfl

@[simp] theorem setTransferReason_gateView (id : Nat) (p : Pending) :
    (setTransferReason id p s).gateView = s.gateView :=
  gateView_of_gate (by simp) (by simp)

@[simp] theorem advanceActual_gateView : (advanceActual s).gateView = s.gateView := rfl

@[simp] theorem advanceTrial_gateView : (advanceTrial s).gateView = s.gateView := rfl

@[simp] theorem advancePlan_gateView : (advancePlan s).gateView = s.gateView := gateView_of_gate (by simp) (by simp)

@[simp] theorem advance_gateView (a p : Bool) : (advance a p s).gateView = s.gateView :=
  gateView_of_gate (by simp) (by simp)

@[simp] theorem advanceAllContexts_gateView : (advanceAllContexts s).gateView = s.gateView := rfl

@[simp] theorem postDemand_gateView (k : DemandKey) : (postDemand k s).gateView = s.gateView :=
  gateView_of_gate (by simp) (by simp)

@[simp] theorem withdrawDemand_gateView (k : DemandKey) : (withdrawDemand k s).gateView = s.gateView := rfl

theorem stance_of_silent {r r' : LiftRecord} (h : r.silent = r'.silent) : r.stance = r'.stance := by
  simp only [LiftRecord.silent, LiftRecord.mk.injEq] at h
  simp only [LiftRecord.stance, h]

/-- R139: a round writes reasons and demands. -/
@[simp] theorem decisionRound_gateView : (decisionRound s).gateView = s.gateView :=
  gateView_eq.mpr ⟨fun c => stance_of_silent (decisionRound_silent s c), by simp, by simp [State.queuedLifts],
    by simp [State.suspended]⟩

/-- A change of records that keeps states and roles. -/
theorem onRec_gateView {f : LiftRecord → LiftRecord} (hf : ∀ r, (f r).stance = r.stance) (c : CraneId) :
    (s.onRec c f).gateView = s.gateView := by
  refine gateView_eq.mpr ⟨fun d => ?_, by simp, by simp [State.queuedLifts], by simp [State.suspended]⟩
  rw [onRec_liftRec]
  split
  · exact hf _
  · rfl

theorem onRecs_gateView {f : LiftRecord → LiftRecord} (hf : ∀ r, (f r).stance = r.stance) (cs : List CraneId) :
    (s.onRecs cs f).gateView = s.gateView := by
  induction cs generalizing s with
  | nil => rfl
  | cons c cs ih => exact (ih _).trans (onRec_gateView s hf c)

theorem setReason_gateView (p : Pending) (cs : List CraneId) : (s.onRecs cs (setReason p)).gateView = s.gateView :=
  onRecs_gateView s (f := setReason p) (fun _ => rfl) cs

/-! ### Transfers -/

/-- A transfer's entry leaves the queue. -/
@[simp] theorem leaveQueue_transfer_gateView (id : Nat) : (leaveQueue (.transfer id) s).gateView = s.gateView := by
  refine gateView_eq.mpr ⟨fun c => rfl, rfl, ?_, rfl⟩
  change (s.gate.queue.filter _).filterMap _ = s.gate.queue.filterMap _
  induction s.gate.queue with
  | nil => rfl
  | cons e q ih =>
    cases e with
    | lift r => simpa [List.filterMap_cons, GateEntry.lift?] using ih
    | transfer n => by_cases hn : n = id <;> simpa [List.filterMap_cons, GateEntry.lift?, hn] using ih

@[simp] theorem releaseTanks_gateView (ks : List Nat) : (ks.foldl releaseTank s).gateView = s.gateView := by
  induction ks generalizing s with
  | nil => rfl
  | cons k ks ih => exact (ih _).trans rfl

@[simp] theorem removeTransfer_gateView (id : Nat) (x : Transfer) (k : EndKind) :
    (removeTransfer id x k s).gateView = s.gateView := by
  simp [removeTransfer]

@[simp] theorem grantTransfer_gateView (id : Nat) (x : Transfer) : (grantTransfer id x s).gateView = s.gateView := by
  simp [grantTransfer]

end

end Sys2Proof.Machine
end

section
/-! The requests that leave what the gate's invariant reads (R122, R132, R138). -/

namespace Sys2Proof.Machine

/-! ### Ship data, settings and lines -/

section
variable (s : State)

theorem bodyWriteShipData_gateView (b i : Nat) (e : List Byte) :
    (bodyWriteShipData b i e s).1.gateView = s.gateView := by
  unfold bodyWriteShipData
  repeat' split
  all_goals rfl

theorem bodyCommitShipData_gateView : (bodyCommitShipData s).1.gateView = s.gateView := by
  unfold bodyCommitShipData
  repeat' split
  all_goals rfl

theorem bodyStoreSettings_gateView : (bodyStoreSettings s).1.gateView = s.gateView := by
  unfold bodyStoreSettings
  split <;> rfl

theorem bodyControlLine_gateView (n m v : Nat) : (bodyControlLine n m v s).1.gateView = s.gateView := by
  unfold bodyControlLine
  repeat' split
  all_goals rfl

theorem bodyClearLineStatus_gateView (n : Nat) : (bodyClearLineStatus n s).1.gateView = s.gateView := by
  unfold bodyClearLineStatus
  split <;> rfl

theorem rejudgedUnder_gateView (w : Settings) : (rejudgedUnder w s).gateView = s.gateView := by
  have hcranes (u : State) : (rejudgeCranes u).gateView = u.gateView := by
    obtain ⟨ls, e⟩ := rejudgeCranes_form u
    rw [e]
    rfl
  have htanks (u : State) : (rejudgeTanks u).gateView = u.gateView := by
    obtain ⟨ts, ls, e, _⟩ := rejudgeTanks_form u
    rw [e]
    rfl
  unfold rejudgedUnder
  dsimp only
  split
  · split
    · rfl
    · exact hcranes _
  · rw [htanks]
    split
    · rfl
    · exact hcranes _

theorem bodyWriteSetting_gateView (i v : Nat) : (bodyWriteSetting i v s).1.gateView = s.gateView := by
  have happly : (applySetting i v s).gateView = s.gateView := by
    rw [applySetting_eq]
    dsimp only
    repeat' split
    all_goals simp [rejudgedUnder_gateView]
  unfold bodyWriteSetting
  split
  · rfl
  split
  · rfl
  split
  · rfl
  split
  · rfl
  · exact happly

/-! ### Lots, sequence, tanks -/

theorem namedLot_gateView {s : State} {id : Nat} {f : Nat → Lot → State × Answer}
    (h : ∀ n k, (f n k).1.gateView = s.gateView) : (namedLot id s f).1.gateView = s.gateView := by
  unfold namedLot
  split
  · rfl
  split
  · rfl
  · exact h _ _

@[simp] theorem discardLot_gateView (n id : Nat) (d : Direction) : (discardLot n id d s).gateView = s.gateView := rfl

theorem bodyPlanLot_gateView (a : PlanLotArgs) : (bodyPlanLot a s).1.gateView = s.gateView := by
  unfold bodyPlanLot
  repeat' split
  all_goals simp

theorem bodyUnplanLot_gateView (id : Nat) : (bodyUnplanLot id s).1.gateView = s.gateView :=
  namedLot_gateView fun n k => by split <;> simp

theorem bodyPlaceLot_gateView (a : PlaceLotArgs) : (bodyPlaceLot a s).1.gateView = s.gateView := by
  unfold bodyPlaceLot
  repeat' split
  all_goals simp

theorem bodyRemoveLot_gateView (id : Nat) : (bodyRemoveLot id s).1.gateView = s.gateView :=
  namedLot_gateView fun n k => by split <;> simp

theorem bodyMarkDischarge_gateView (id : Nat) : (bodyMarkDischarge id s).1.gateView = s.gateView :=
  namedLot_gateView fun n k => by
    repeat' split
    all_goals simp

theorem bodyUnmarkDischarge_gateView (id : Nat) : (bodyUnmarkDischarge id s).1.gateView = s.gateView :=
  namedLot_gateView fun n k => by
    repeat' split
    all_goals simp

theorem bodyAcceptWeight_gateView (id : Nat) : (bodyAcceptWeight id s).1.gateView = s.gateView :=
  namedLot_gateView fun n k => by
    repeat' split
    all_goals simp

theorem bodyInsertInSequence_gateView (n d p : Nat) : (bodyInsertInSequence n d p s).1.gateView = s.gateView := by
  unfold bodyInsertInSequence
  repeat' split
  all_goals simp

theorem bodyRemoveFromSequence_gateView (n : Nat) : (bodyRemoveFromSequence n s).1.gateView = s.gateView := by
  unfold bodyRemoveFromSequence
  repeat' split
  all_goals simp

theorem bodySetTankManual_gateView (k c d : Nat) : (bodySetTankManual k c d s).1.gateView = s.gateView := by
  unfold bodySetTankManual
  repeat' split
  all_goals simp

theorem bodySetTankTarget_gateView (k : Nat) (g : Option Target) :
    (bodySetTankTarget k g s).1.gateView = s.gateView := by
  unfold bodySetTankTarget
  repeat' split
  all_goals simp

/-! ### The trial stack -/

@[simp] theorem stackFault_gateView (b : List Byte) (k : Nat) : (stackFault b k s).1.gateView = s.gateView := rfl

@[simp] theorem changeStack_gateView (f : List (List Move)) : (changeStack f s).gateView = s.gateView := by
  unfold changeStack
  dsimp only
  split <;> rfl

theorem bodyOpenFrame_gateView : (bodyOpenFrame s).1.gateView = s.gateView := by
  unfold bodyOpenFrame
  split <;> simp

theorem bodyAddMoves_gateView (p : List Byte) : (bodyAddMoves p s).1.gateView = s.gateView := by
  unfold bodyAddMoves
  dsimp only
  repeat' split
  all_goals simp

theorem bodyDropFrame_gateView : (bodyDropFrame s).1.gateView = s.gateView := by
  unfold bodyDropFrame
  split <;> simp

theorem foldIntoPlan_gateView (ms : List Move) : (foldIntoPlan ms s).1.gateView = s.gateView := by
  unfold foldIntoPlan
  split
  · rfl
  · simp only [stackDone_state, changeStack_gateView]
    split <;> rfl

theorem bodyFoldFrame_gateView : (bodyFoldFrame s).1.gateView = s.gateView := by
  unfold bodyFoldFrame
  split
  · rfl
  · exact foldIntoPlan_gateView s _
  · simp

/-! ### Readouts, snapshots and images -/

@[simp] theorem clearSticky_gateView (x : Ctx) : (clearSticky x s).gateView = s.gateView := rfl

theorem bodyReadResults_gateView (l : Link) (x p n c : Nat) :
    (bodyReadResults l x p n c s).1.gateView = s.gateView := by
  unfold bodyReadResults
  repeat' split
  all_goals simp

theorem bodyOpenSnapshot_gateView : (bodyOpenSnapshot s).1.gateView = s.gateView := by
  unfold bodyOpenSnapshot
  split <;> rfl

theorem bodyCloseSnapshot_gateView : (bodyCloseSnapshot s).1.gateView = s.gateView := by
  unfold bodyCloseSnapshot
  split <;> rfl

theorem bodyWriteImagePage_gateView (n : Nat) (b : List Byte) : (bodyWriteImagePage n b s).1.gateView = s.gateView := by
  unfold bodyWriteImagePage
  repeat' split
  all_goals rfl

@[simp] theorem applyImage_gateView (c : ImageContents) : (applyImage c s).gateView = s.gateView := rfl

theorem bodyApplyImage_gateView : (bodyApplyImage s).1.gateView = s.gateView := by
  unfold bodyApplyImage
  repeat' split
  all_goals simp

theorem bodySetNoticeMask_gateView (l : Link) (e m : Nat) : (bodySetNoticeMask l e m s).1.gateView = s.gateView := by
  unfold bodySetNoticeMask
  dsimp only
  repeat' split
  all_goals simp

/-! ### Transfers -/

theorem measure_gateView (k : Nat) : (measure k s).gateView = s.gateView := by
  unfold measure
  split
  · rfl
  split
  · rfl
  dsimp only
  split <;> simp

theorem takeReading_gateView (d : ShipData) (r : Reading) : (takeReading d r s).gateView = s.gateView := by
  unfold takeReading
  split <;> simp [measure_gateView]

theorem takeReadings_gateView (rs : List Reading) : (takeReadings rs s).gateView = s.gateView := by
  unfold takeReadings
  induction rs generalizing s with
  | nil => rfl
  | cons r rs ih => exact (ih _).trans (takeReading_gateView s _ r)

theorem bodyTankReport_gateView (p : List Byte) : (bodyTankReport p s).1.gateView = s.gateView := by
  unfold bodyTankReport
  dsimp only
  repeat' split
  all_goals simp [takeReadings_gateView]

theorem setTankTransfers_gateView (v : Option Nat) (ks : List Nat) :
    (ks.foldl (setTankTransfer v) s).gateView = s.gateView := by
  induction ks generalizing s with
  | nil => rfl
  | cons k ks ih => exact ih _

/-- A transfer's entry joins the queue. -/
theorem joinQueue_transfer_gateView (id : Nat) :
    (s.setQueue (s.gate.queue ++ [.transfer id])).gateView = s.gateView :=
  gateView_eq.mpr ⟨fun _ => rfl, rfl, by simp [State.queuedLifts, GateEntry.lift?], rfl⟩

theorem acceptTransfer_gateView (a b : End) (n : Nat) : (acceptTransfer a b n s).1.gateView = s.gateView := by
  simp only [acceptTransfer, decisionRound_gateView, joinQueue_transfer_gateView, setTankTransfers_gateView]
  rfl

theorem bodyRequestTransfer_gateView (a b n : Nat) : (bodyRequestTransfer a b n s).1.gateView = s.gateView := by
  unfold bodyRequestTransfer
  dsimp only
  repeat' split
  all_goals simp [acceptTransfer_gateView]

theorem bodyEndTransfer_gateView (n : Nat) : (bodyEndTransfer n s).1.gateView = s.gateView := by
  unfold bodyEndTransfer
  repeat' split
  all_goals simp [endGranted]

theorem bodyCancelTransfer_gateView (n : Nat) : (bodyCancelTransfer n s).1.gateView = s.gateView := by
  unfold bodyCancelTransfer
  repeat' split
  all_goals simp [endGranted]

end

/-! ### Every request but eight -/

/-- The requests whose bodies may write what the gate's invariant reads. -/
def touchesGate : Request → Bool
  | .enterConfiguration => true
  | .restart => true
  | .suspendWork => true
  | .resumeWork => true
  | .requestLift _ => true
  | .cancelLift => true
  | .hookReport _ _ => true
  | .landingReport _ => true
  | _ => false

theorem bodyOf_gateView (l : Link) {r : Request} (h : touchesGate r = false) (s : State) :
    (bodyOf l r s).1.gateView = s.gateView := by
  by_cases hr : onlyReads r = true
  · exact congrArg State.gateView (bodyOf_onlyReads l hr s)
  cases r <;> simp only [onlyReads, touchesGate, not_true_eq_false, Bool.true_eq_false] at hr h
  case writeShipData b i e => exact bodyWriteShipData_gateView s b i e
  case commitShipData => exact bodyCommitShipData_gateView s
  case writeSetting i v => exact bodyWriteSetting_gateView s i v
  case storeSettings => exact bodyStoreSettings_gateView s
  case controlLine n m v => exact bodyControlLine_gateView s n m v
  case clearLineStatus n => exact bodyClearLineStatus_gateView s n
  case planLot a => exact bodyPlanLot_gateView s a
  case unplanLot n => exact bodyUnplanLot_gateView s n
  case placeLot a => exact bodyPlaceLot_gateView s a
  case removeLot n => exact bodyRemoveLot_gateView s n
  case markDischarge n => exact bodyMarkDischarge_gateView s n
  case unmarkDischarge n => exact bodyUnmarkDischarge_gateView s n
  case acceptWeight n => exact bodyAcceptWeight_gateView s n
  case insertInSequence n d p => exact bodyInsertInSequence_gateView s n d p
  case removeFromSequence n => exact bodyRemoveFromSequence_gateView s n
  case setTankManual k c d => exact bodySetTankManual_gateView s k c d
  case setTankTarget k g => exact bodySetTankTarget_gateView s k g
  case openFrame => exact bodyOpenFrame_gateView s
  case addMoves p => exact bodyAddMoves_gateView s p
  case dropFrame => exact bodyDropFrame_gateView s
  case foldFrame => exact bodyFoldFrame_gateView s
  case readResults c p n k => exact bodyReadResults_gateView s l c p n k
  case acknowledgeRecords => rfl
  case openSnapshot => exact bodyOpenSnapshot_gateView s
  case closeSnapshot => exact bodyCloseSnapshot_gateView s
  case writeImagePage n b => exact bodyWriteImagePage_gateView s n b
  case applyImage => exact bodyApplyImage_gateView s
  case tankReport p => exact bodyTankReport_gateView s p
  case requestTransfer a b n => exact bodyRequestTransfer_gateView s a b n
  case endTransfer n => exact bodyEndTransfer_gateView s n
  case cancelTransfer n => exact bodyCancelTransfer_gateView s n
  case setNoticeMask e m => exact bodySetNoticeMask_gateView s l e m
  case readNotices => rfl

end Sys2Proof.Machine
end

section
/-! A sound gate stays sound when one lift moves from state to state (R131, R132, R138). -/

namespace Sys2Proof.Machine

/-! ### The lift of a crane -/

/-- A crane is in the lift it takes part in. -/
theorem mem_liftOf (s : State) (c : CraneId) : c ∈ (liftOf s c).cranes := by
  unfold liftOf
  split
  · simp [LiftRef.cranes]
  · split <;> simp [LiftRef.cranes]
  · simp [LiftRef.cranes]

/-- In a sound gate the cranes of a pending or standing lift are in that lift, in one state. -/
theorem GateSound.whole {s : State} (h : GateSound s) {c : CraneId} (hc : (s.liftRec c).state ≠ .idle) :
    ∀ d ∈ (liftOf s c).cranes, liftOf s d = liftOf s c ∧ (s.liftRec d).state = (s.liftRec c).state := by
  intro d hd
  by_cases hpast : (s.liftRec c).state.pastRequested = true
  · have hslot := h.others c hpast
    obtain ⟨_, hlead, _⟩ := h.holder _ hslot c (mem_liftOf s c)
    obtain ⟨hlift, hstate, _⟩ := h.holder _ hslot d hd
    exact ⟨hlift, hstate.trans hlead.symm⟩
  by_cases hpairing : (s.liftRec c).state = .pairing
  · have hlift : liftOf s c = ⟨c, none⟩ := by simp [liftOf, h.pairing c hpairing, hpairing]
    rw [hlift] at hd
    obtain rfl : d = c := by simpa [LiftRef.cranes] using hd
    exact ⟨rfl, rfl⟩
  · have hrequested := requested_of_pending (by simpa using hpast) hc hpairing
    obtain ⟨hlift, hstate⟩ := h.entries _ (h.queued c hrequested).1 d hd
    exact ⟨hlift, hstate.trans hrequested.symm⟩

/-- The lift of a crane stands when its role stands and it is not waiting for a partner. -/
theorem liftOf_of_role {s t : State} {c : CraneId} (hr : (t.liftRec c).role = (s.liftRec c).role)
    (hs : (s.liftRec c).state ≠ .pairing) (ht : (t.liftRec c).state ≠ .pairing) : liftOf t c = liftOf s c := by
  simp only [liftOf, hr, hs, ht, if_false]

/-! ### One lift moves -/

/-- Nothing but the lift `r` differs to the gate. -/
structure Apart (r : LiftRef) (s t : State) : Prop where
  stance : ∀ c, c ∉ r.cranes → (t.liftRec c).stance = (s.liftRec c).stance
  slot : ∀ e, e ≠ r → (t.gate.slot = some e ↔ s.gate.slot = some e)
  queue : ∀ e, e ≠ r → t.gate.queue.count (.lift e) = s.gate.queue.count (.lift e)

/-- The lift `r` stands in the state `q`: the slot is its own when it is past REQUESTED, and it has one entry when it is
REQUESTED. -/
structure Placed (r : LiftRef) (q : LiftState) (t : State) : Prop where
  state : ∀ c ∈ r.cranes, (t.liftRec c).state = q
  own : q ≠ .idle → ∀ c ∈ r.cranes, liftOf t c = r
  lead : q = .pairing → ∀ c ∈ r.cranes, (t.liftRec c).role = some .lead
  slot : t.gate.slot = some r ↔ q.pastRequested = true
  queue : t.gate.queue.count (.lift r) = if q = .requested then 1 else 0

section
variable {s t : State} {r : LiftRef} {q : LiftState}

theorem Apart.state (ha : Apart r s t) {c : CraneId} (hc : c ∉ r.cranes) :
    (t.liftRec c).state = (s.liftRec c).state := congrArg Prod.fst (ha.stance c hc)

theorem Apart.role (ha : Apart r s t) {c : CraneId} (hc : c ∉ r.cranes) :
    (t.liftRec c).role = (s.liftRec c).role := congrArg Prod.snd (ha.stance c hc)

theorem Apart.mem (ha : Apart r s t) {e : LiftRef} (he : e ≠ r) :
    GateEntry.lift e ∈ t.gate.queue ↔ GateEntry.lift e ∈ s.gate.queue := by
  rw [← List.count_pos_iff, ha.queue e he, List.count_pos_iff]

theorem Placed.mem (hp : Placed r q t) : GateEntry.lift r ∈ t.gate.queue ↔ q = .requested := by
  rw [← List.count_pos_iff, hp.queue]
  split <;> simp_all

/-- A lift whose cranes were in no other lift moves to a state of its own: the gate stays sound. -/
theorem GateSound.relift (h : GateSound s)
    (hfree : ∀ c ∈ r.cranes,
      liftOf s c = r ∨ (s.liftRec c).state ≠ .requested ∧ (s.liftRec c).state.pastRequested = false)
    (ha : Apart r s t) (hp : Placed r q t)
    (hsus : t.suspended = true → q ≠ .cleared ∧ ∀ c, c ∉ r.cranes → (s.liftRec c).state ≠ .cleared) : GateSound t := by
  have hlift (c : CraneId) (hc : c ∉ r.cranes) : liftOf t c = liftOf s c := liftOf_of_stance (ha.stance c hc)
  have hother (c : CraneId) (hc : c ∉ r.cranes) : liftOf s c ≠ r := fun e => hc (e ▸ mem_liftOf s c)
  have hholds (e : LiftRef) (he : e ≠ r) (hs : s.gate.slot = some e) (c : CraneId) (hc : c ∈ e.cranes) :
      c ∉ r.cranes := fun hr => by
    obtain ⟨hl, _, hpast⟩ := h.holder e hs c hc
    rcases hfree c hr with hl' | ⟨_, hno⟩
    · exact he (hl.symm.trans hl')
    · simp [hno] at hpast
  have hwaits (e : LiftRef) (he : e ≠ r) (hq : GateEntry.lift e ∈ s.gate.queue) (c : CraneId) (hc : c ∈ e.cranes) :
      c ∉ r.cranes := fun hr => by
    obtain ⟨hl, hreq⟩ := h.entries e hq c hc
    rcases hfree c hr with hl' | ⟨hno, _⟩
    · exact he (hl.symm.trans hl')
    · exact hno hreq
  refine ⟨fun e he c hc => ?_, fun c hc => ?_, fun e he c hc => ?_, fun c hc => ?_, fun e => ?_, fun c hc => ?_,
    fun hs c => ?_⟩
  · by_cases her : e = r
    · subst e
      have hpast := hp.slot.mp he
      have hidle : q ≠ .idle := fun hi => by simp [hi, LiftState.pastRequested] at hpast
      rw [hp.state c hc, hp.state _ (lead_mem_cranes r)]
      exact ⟨hp.own hidle c hc, rfl, hpast⟩
    · have hs := (ha.slot e her).mp he
      have hout := hholds e her hs
      rw [ha.state (hout c hc), ha.state (hout _ (lead_mem_cranes e)), hlift c (hout c hc)]
      exact h.holder e hs c hc
  · by_cases hr : c ∈ r.cranes
    · have hpast : q.pastRequested = true := hp.state c hr ▸ hc
      have hidle : q ≠ .idle := fun hi => by simp [hi, LiftState.pastRequested] at hpast
      rw [hp.own hidle c hr]
      exact hp.slot.mpr hpast
    · rw [hlift c hr]
      exact (ha.slot _ (hother c hr)).mpr (h.others c (ha.state hr ▸ hc))
  · by_cases her : e = r
    · subst e
      have hreq := hp.mem.mp he
      exact ⟨hp.own (by simp [hreq]) c hc, (hp.state c hc).trans hreq⟩
    · have hs := (ha.mem her).mp he
      have hout := hwaits e her hs c hc
      rw [ha.state hout, hlift c hout]
      exact h.entries e hs c hc
  · by_cases hr : c ∈ r.cranes
    · have hreq : q = .requested := hp.state c hr ▸ hc
      rw [hp.own (by simp [hreq]) c hr]
      exact ⟨hp.mem.mpr hreq, hr⟩
    · rw [hlift c hr, ha.mem (hother c hr)]
      exact h.queued c (ha.state hr ▸ hc)
  · by_cases her : e = r
    · subst e
      rw [hp.queue]
      split <;> omega
    · rw [ha.queue e her]
      exact h.once e
  · by_cases hr : c ∈ r.cranes
    · exact hp.lead (hp.state c hr ▸ hc) c hr
    · rw [ha.role hr]
      exact h.pairing c (ha.state hr ▸ hc)
  · by_cases hr : c ∈ r.cranes
    · rw [hp.state c hr]
      exact (hsus hs).1
    · rw [ha.state hr]
      exact (hsus hs).2 c hr

/-- A lift that keeps its roles and is REQUESTED or past it in its new state. -/
theorem GateSound.moved (h : GateSound s) (hown : ∀ c ∈ r.cranes, liftOf s c = r ∧ (s.liftRec c).state ≠ .pairing)
    (hpair : q ≠ .pairing) (ha : Apart r s t)
    (hmine : ∀ c ∈ r.cranes, (t.liftRec c).stance = (q, (s.liftRec c).role))
    (hslot : t.gate.slot = some r ↔ q.pastRequested = true)
    (hqueue : t.gate.queue.count (.lift r) = if q = .requested then 1 else 0)
    (hsus : t.suspended = true → q ≠ .cleared ∧ ∀ c, c ∉ r.cranes → (s.liftRec c).state ≠ .cleared) : GateSound t := by
  have hstate (c : CraneId) (hc : c ∈ r.cranes) : (t.liftRec c).state = q := congrArg Prod.fst (hmine c hc)
  refine h.relift (q := q) (fun c hc => .inl (hown c hc).1) ha ⟨hstate, fun _ c hc => ?_, fun e => absurd e hpair, hslot,
    hqueue⟩ hsus
  obtain ⟨hlift, hs⟩ := hown c hc
  exact (liftOf_of_role (congrArg Prod.snd (hmine c hc)) hs (by rw [hstate c hc]; exact hpair)).trans hlift

/-- A lift that ends: its cranes are IDLE, it has no entry, and it does not hold the slot. -/
theorem GateSound.ended (h : GateSound s) (hown : ∀ c ∈ r.cranes, liftOf s c = r) (ha : Apart r s t)
    (hmine : ∀ c ∈ r.cranes, (t.liftRec c).state = .idle) (hslot : t.gate.slot ≠ some r)
    (hqueue : t.gate.queue.count (.lift r) = 0) (hsus : t.suspended = s.suspended) : GateSound t :=
  h.relift (q := .idle) (fun c hc => .inl (hown c hc)) ha
    ⟨hmine, fun hi => absurd rfl hi, LiftState.noConfusion, by simpa [LiftState.pastRequested] using hslot,
      by simpa using hqueue⟩
    fun hs => ⟨LiftState.noConfusion, fun c _ => h.suspended (hsus ▸ hs) c⟩

/-- A gate with every crane IDLE, no entry of a lift and a free slot. -/
theorem gateSound_of_idle (hidle : ∀ c, (t.liftRec c).state = .idle) (hslot : t.gate.slot = none)
    (hqueue : t.gate.queue = []) : GateSound t := by
  constructor <;> simp [hidle, hslot, hqueue, LiftState.pastRequested]

end

/-! ### The records of a lift's cranes -/

/-- A change of records by state and role that is the same when made twice. -/
theorem onRecs_stance {f : LiftRecord → LiftRecord} {g : LiftState × Option Role → LiftState × Option Role}
    (hf : ∀ x, (f x).stance = g x.stance) (hg : ∀ p, g (g p) = g p) (cs : List CraneId) (d : CraneId) (s : State) :
    ((s.onRecs cs f).liftRec d).stance = if d ∈ cs then g (s.liftRec d).stance else (s.liftRec d).stance := by
  induction cs generalizing s with
  | nil => simp [State.onRecs]
  | cons c cs ih =>
    change (((s.onRec c f).onRecs cs f).liftRec d).stance = _
    rw [ih, onRec_liftRec]
    by_cases hc : d = c <;> by_cases hcs : d ∈ cs <;> simp [hc, hcs, hf, hg]

end Sys2Proof.Machine
end

section
/-! What moves a lift keeps the gate sound: its end, its clearance and the withdrawal of it, its load on the hook and
off, and its acceptance (R122, R132 to R138, R143, R145, R150 to R153). -/

namespace Sys2Proof.Machine

/-! ### The ends of a lift (R136, R144, R146, R147, R153) -/

theorem count_leave (r e : LiftRef) (q : List GateEntry) :
    (q.filter (fun x => decide (x ≠ .lift r))).count (.lift e) = if e = r then 0 else q.count (.lift e) := by
  split
  · subst e
    exact List.count_eq_zero.mpr fun h => by simpa using (List.mem_filter.mp h).2
  · rename_i he
    exact List.count_filter (by simpa using he)

theorem releaseLift_slot (r : LiftRef) (k : EndKind) (s : State) :
    (releaseLift r k s).gate.slot = if s.gate.slot = some r then none else s.gate.slot := by
  rw [releaseLift_eq, freeSlotOf_slot]
  simp

theorem liftEnded_queue (r : LiftRef) (k : EndKind) (s : State) :
    (liftEnded r k s).gate.queue = s.gate.queue.filter (fun x => decide (x ≠ .lift r)) := by
  unfold liftEnded
  dsimp only
  split <;> simp [leaveQueue]

theorem releaseLift_queue (r : LiftRef) (k : EndKind) (s : State) :
    (releaseLift r k s).gate.queue = s.gate.queue.filter (fun x => decide (x ≠ .lift r)) := by
  rw [releaseLift_eq, freeSlotOf_gate_queue]
  simp [liftEnded_queue]

/-- The slot after a lift has let go of it, as every other lift sees it. -/
theorem freed_slot {r e : LiftRef} (he : e ≠ r) (x : Option LiftRef) :
    (if x = some r then none else x) = some e ↔ x = some e := by
  split
  · rename_i hx
    simp [hx, he.symm]
  · rfl

section
variable {s : State} (h : GateSound s)

include h

/-- The end of a lift before its load is on the hook. -/
theorem GateSound.released {c : CraneId} (hc : (s.liftRec c).state ≠ .idle) (k : EndKind) :
    GateSound (releaseLift (liftOf s c) k s) := by
  have hrec (d : CraneId) := stance_of_silent (releaseLift_silent (liftOf_cranes_nodup s c) k s d)
  refine h.ended (r := liftOf s c) (fun d hd => (h.whole hc d hd).1)
    ⟨fun d hd => (hrec d).trans (by rw [if_neg hd]), fun e he => ?_, fun e he => ?_⟩ (fun d hd => ?_) ?_ ?_
    (by simp [State.suspended])
  · rw [releaseLift_slot]
    exact freed_slot he _
  · rw [releaseLift_queue, count_leave, if_neg he]
  · have hidle := hrec d
    rw [if_pos hd] at hidle
    exact congrArg Prod.fst hidle
  · rw [releaseLift_slot]
    split
    · simp
    · assumption
  · rw [releaseLift_queue, count_leave, if_pos rfl]

/-- A lift that holds the slot waits in no queue. -/
theorem GateSound.not_queued {r : LiftRef} (hr : s.gate.slot = some r) : GateEntry.lift r ∉ s.gate.queue := fun hq => by
  obtain ⟨_, _, hpast⟩ := h.holder r hr _ (lead_mem_cranes r)
  obtain ⟨_, hreq⟩ := h.entries r hq _ (lead_mem_cranes r)
  simp [hreq, LiftState.pastRequested] at hpast

/-- The completion of the lift that holds the slot. -/
theorem GateSound.completed {r : LiftRef} (hr : s.gate.slot = some r) : GateSound (completeLift r s) := by
  obtain ⟨u, hform, hu⟩ := completeLift_form r s
  have hstance (d : CraneId) : ((completeLift r s).liftRec d).stance
      = if d ∈ r.cranes then (.idle, none) else (s.liftRec d).stance := by
    have hview : (latchLift r.cranes (clearStale r.cranes (u.onRecs r.cranes (LiftRecord.ended .completed)))).liftRec d
        = (u.onRecs r.cranes (LiftRecord.ended .completed)).liftRec d := by simp [State.liftRec]
    rw [hform, stance_of_silent (freeSlotOf_silent _ _ d), hview,
      onRecs_stance (g := fun _ => (.idle, none)) (fun _ => rfl) (fun _ => rfl), hu]
    rfl
  have hslot : (completeLift r s).gate.slot = if s.gate.slot = some r then none else s.gate.slot := by
    rw [hform, freeSlotOf_slot, hu]
    simp
  refine h.ended (fun d hd => (h.holder r hr d hd).1) ⟨fun d hd => (hstance d).trans (if_neg hd), fun e he => ?_,
    fun e _ => by simp⟩ (fun d hd => ?_) (by simp [hslot, hr]) ?_ (by simp [State.suspended])
  · rw [hslot]
    exact freed_slot he _
  · exact congrArg Prod.fst ((hstance d).trans (if_pos hd))
  · rw [completeLift_gate_queue]
    exact List.count_eq_zero.mpr (h.not_queued hr)

/-! ### The load on the hook and off (R150 to R152) -/

/-- The lift that holds the slot goes on from its clearance. -/
theorem GateSound.carried {r : LiftRef} (hr : s.gate.slot = some r) {q : LiftState} (hq : q.pastRequested = true)
    (hc : q ≠ .cleared) {f : LiftRecord → LiftRecord} (hf : ∀ x, (f x).stance = (q, x.role)) :
    GateSound (s.onRecs r.cranes f) := by
  have hstance (d : CraneId) := onRecs_stance (f := f) (g := fun p => (q, p.2)) hf (fun _ => rfl) r.cranes d s
  have hpast {p : LiftState} (hp : p.pastRequested = true) : p ≠ .pairing ∧ p ≠ .requested :=
    ⟨fun e => by simp [e, LiftState.pastRequested] at hp, fun e => by simp [e, LiftState.pastRequested] at hp⟩
  refine h.moved (r := r) (q := q) (fun d hd => ?_) (hpast hq).1
    ⟨fun d hd => (hstance d).trans (if_neg hd), fun e _ => by simp, fun e _ => by simp⟩
    (fun d hd => (hstance d).trans (if_pos hd)) (by simp [hr, hq]) ?_
    (fun hs => ⟨hc, fun d _ => h.suspended (by simpa [State.suspended] using hs) d⟩)
  · obtain ⟨hlift, _, hstate⟩ := h.holder r hr d hd
    exact ⟨hlift, (hpast hstate).1⟩
  · rw [if_neg (hpast hq).2, onRecs_gate_queue]
    exact List.count_eq_zero.mpr (h.not_queued hr)

theorem GateSound.hoisted {r : LiftRef} (hr : s.gate.slot = some r) (m : Nat) : GateSound (hoist r m s) := by
  have hweighed : GateSound (s.onLiftLot r (Lot.weighed s.settings.discrepancyTol m)) := h.congr (by simp)
  exact (hweighed.carried (by simpa using hr) (q := .hoisted) rfl LiftState.noConfusion (f := LiftRecord.hoisted)
    fun _ => rfl).congr (by simp [hoist])

theorem GateSound.lowered {r : LiftRef} (hr : s.gate.slot = some r) (place : Landing) :
    GateSound (beginLowering r place s) := by
  have hlanded : GateSound (s.onRec r.lead (LiftRecord.landedAs place)) :=
    h.congr (onRec_gateView s (f := LiftRecord.landedAs place) (fun _ => rfl) _)
  exact (hlanded.carried (by simpa using hr) (q := .lowering) rfl LiftState.noConfusion (f := LiftRecord.lowered)
    fun _ => rfl).congr (by simp [beginLowering])

theorem GateSound.liftedOff {r : LiftRef} (hr : s.gate.slot = some r) : GateSound (liftOff r s) := by
  have hoff : GateSound (s.onRecs r.cranes LiftRecord.off) :=
    h.congr (onRecs_gateView s (f := LiftRecord.off) (fun _ => rfl) _)
  have hslot : (s.onRecs r.cranes LiftRecord.off).gate.slot = some r := by simpa using hr
  have hdown (tip : Pos) := hoff.carried hslot (q := .setDown) rfl LiftState.noConfusion
    (f := LiftRecord.setDown tip) fun _ => rfl
  unfold liftOff
  dsimp only
  split
  · exact hoff.completed hslot
  · exact (hdown (tipNow (s.onRecs r.cranes LiftRecord.off) r.lead)).congr (by simp)

/-! ### Clearances (R122, R143, R145) -/

theorem GateSound.decided : GateSound (decisionRound s) := h.congr (by simp)

/-- R143: a lift of the queue is granted when the slot is free and suspension is not in force. -/
theorem GateSound.granted {r : LiftRef} (hq : GateEntry.lift r ∈ s.gate.queue) (hslot : s.gate.slot = none)
    (hs : s.suspended = false) : GateSound (grantLift r s) := by
  have hstance (d : CraneId) : ((grantLift r s).liftRec d).stance
      = if d ∈ r.cranes then (.cleared, (s.liftRec d).role) else (s.liftRec d).stance := by
    have hview : (grantLift r s).liftRec d
        = ((leaveQueue (.lift r) s).onRecs r.cranes (LiftRecord.cleared s.time)).liftRec d := by
      simp [State.liftRec, grantLift]
    rw [hview, onRecs_stance (g := fun p => (.cleared, p.2)) (fun _ => rfl) (fun _ => rfl)]
    rfl
  have hqueue : (grantLift r s).gate.queue = s.gate.queue.filter (fun x => decide (x ≠ .lift r)) := by
    simp [grantLift, leaveQueue]
  have hheld : (grantLift r s).gate.slot = some r := by simp [grantLift]
  refine h.moved (r := r) (q := .cleared) (fun d hd => ?_) LiftState.noConfusion
    ⟨fun d hd => (hstance d).trans (if_neg hd), fun e he => ?_, fun e he => ?_⟩
    (fun d hd => (hstance d).trans (if_pos hd)) (by simp [hheld, LiftState.pastRequested]) ?_
    (fun hsus => absurd hsus (by simpa [State.suspended] using hs))
  · obtain ⟨hlift, hreq⟩ := h.entries r hq d hd
    exact ⟨hlift, by simp [hreq]⟩
  · simp [hheld, hslot, he.symm]
  · rw [hqueue, count_leave, if_neg he]
  · rw [hqueue, count_leave, if_pos rfl]
    rfl

/-- R145: a clearance that is withdrawn puts its lift at the head of the queue; in suspension too, where it was the only
one. -/
theorem GateSound.withdrawn {v : State} {r : LiftRef} {p : Pending} (hc : standingClearance s = some r)
    (hw : Withdrawn r p s v) : GateSound v := by
  obtain ⟨hslot, _⟩ := standingClearance_some hc
  refine h.moved (r := r) (q := .requested) (fun d hd => ?_) LiftState.noConfusion
    ⟨fun d hd => stance_of_silent (hw.others d hd), fun e he => ?_, fun e he => ?_⟩ (fun d hd => ?_)
    (by simp [hw.slot, LiftState.pastRequested]) ?_ (fun _ => ⟨LiftState.noConfusion, fun d hd hcl => ?_⟩)
  · exact ⟨(h.holder r hslot d hd).1, by simp [cleared_of_standing h hc hd]⟩
  · simp [hw.slot, hslot, he.symm]
  · simp [hw.queue, he.symm]
  · rw [(hw.mine d hd).1]
    rfl
  · simpa [hw.queue] using List.count_eq_zero.mpr (h.not_queued hslot)
  · have hheld := h.others d (by simp [hcl, LiftState.pastRequested])
    rw [hslot, Option.some.injEq] at hheld
    exact hd (hheld ▸ mem_liftOf s d)

theorem GateSound.clearanceWithdrawn {r : LiftRef} (hc : standingClearance s = some r) (p : Pending) :
    GateSound (withdrawClearance r p s) := by
  have halike : Alike s s := ⟨rfl, rfl, rfl, rfl, rfl, rfl, rfl, rfl, fun _ => .rfl⟩
  rw [withdrawClearance_eq]
  exact (h.withdrawn hc halike.withdrawn).decided

/-- A crane is CLEARED when, and only when, a clearance stands. -/
theorem GateSound.not_cleared (hc : standingClearance s = none) (c : CraneId) : (s.liftRec c).state ≠ .cleared := by
  intro hcl
  have hslot := h.others c (by simp [hcl, LiftState.pastRequested])
  obtain ⟨_, hlead, _⟩ := h.holder _ hslot c (mem_liftOf s c)
  simp [standingClearance, hslot, hlead.symm.trans hcl] at hc

/-- R122: suspension enters. -/
theorem GateSound.suspensionEntered (c : SuspendCause) : GateSound (enterSuspension c s) := by
  cases hc : standingClearance s with
  | none =>
    rw [enterSuspension_of_none hc]
    have hview : (suspendedBy c s).gate = s.gate := by simp [suspendedBy]
    exact h.congr_of (fun d => by rw [State.liftRec, hview]; rfl) (by rw [hview])
      (by rw [State.queuedLifts, hview]; rfl) (fun _ => h.not_cleared hc)
  | some r =>
    rw [enterSuspension_of_some hc, withdrawClearance_eq]
    exact (h.withdrawn hc (alike_suspendedBy c s).withdrawn).decided

/-- R124, R125: suspension ends. -/
theorem GateSound.suspensionEnded : GateSound (endSuspension s) :=
  h.congr_of (fun d => by simp [State.liftRec]) (by simp) (by simp [State.queuedLifts])
    (fun hs => by simp [State.suspended, endSuspension_suspension] at hs)

end

end Sys2Proof.Machine
end

section
/-! The crane requests and the gate's decisions keep the gate sound (R122, R132 to R138, R143, R145, R148 to R153). -/

namespace Sys2Proof.Machine

theorem mem_single (c d : CraneId) : d ∈ LiftRef.cranes ⟨c, none⟩ ↔ d = c := by simp [LiftRef.cranes]

theorem deliverTransfer_gateView (s : State) (id : Nat) (b : Bool) (vs : List Violation) :
    (deliverTransfer id b vs s).gateView = s.gateView := by
  unfold deliverTransfer
  repeat' split
  all_goals simp

section
variable {s : State} (h : GateSound s)

include h

/-! ### Request Lift (R133 to R137) -/

/-- An IDLE crane is in no entry of the queue and not in the lift that holds the slot. -/
theorem GateSound.idle_apart {c : CraneId} (hc : (s.liftRec c).state = .idle) {r : LiftRef} (hr : c ∈ r.cranes) :
    s.gate.slot ≠ some r ∧ s.gate.queue.count (.lift r) = 0 := by
  refine ⟨fun hs => ?_, List.count_eq_zero.mpr fun hq => ?_⟩
  · obtain ⟨_, _, hpast⟩ := h.holder r hs c hr
    simp [hc, LiftState.pastRequested] at hpast
  · obtain ⟨_, hreq⟩ := h.entries r hq c hr
    simp [hc] at hreq

/-- R134: an IDLE crane waits for its partner. -/
theorem GateSound.paired {c : CraneId} (hc : (s.liftRec c).state = .idle) {f : LiftRecord → LiftRecord}
    (hf : ∀ x, (f x).stance = (.pairing, some .lead)) : GateSound (s.onRec c f) := by
  obtain ⟨hslot, hqueue⟩ := h.idle_apart hc ((mem_single c c).mpr rfl)
  have hown := hf (s.liftRec c)
  simp only [LiftRecord.stance, Prod.mk.injEq] at hown
  obtain ⟨hstate, hrole⟩ := hown
  refine h.relift (r := ⟨c, none⟩) (q := .pairing) (fun d hd => .inr ?_)
    ⟨fun d hd => ?_, fun e _ => by simp, fun e _ => by simp⟩
    ⟨fun d hd => ?_, fun _ d hd => ?_, fun _ d hd => ?_, by simpa [LiftState.pastRequested] using hslot,
      by simpa using hqueue⟩
    (fun hs => ⟨LiftState.noConfusion, fun d _ => h.suspended (by simpa [State.suspended] using hs) d⟩)
  all_goals rw [mem_single] at hd
  · simp [hd, hc, LiftState.pastRequested]
  · rw [onRec_liftRec, if_neg hd]
  · simp [hd, onRec_liftRec, hstate]
  · simp [hd, liftOf, onRec_liftRec, hstate, hrole]
  · simp [hd, onRec_liftRec, hrole]

/-- R134, R138: an IDLE crane asks for a lift of its own, at the end of the queue. -/
theorem GateSound.asked {c : CraneId} (hc : (s.liftRec c).state = .idle) {f : LiftRecord → LiftRecord}
    (hf : ∀ x, (f x).stance = (.requested, some .single)) :
    GateSound ((s.onRec c f).setQueue (s.gate.queue ++ [.lift ⟨c, none⟩])) := by
  obtain ⟨hslot, hqueue⟩ := h.idle_apart hc ((mem_single c c).mpr rfl)
  have hrec (d : CraneId) : ((s.onRec c f).setQueue (s.gate.queue ++ [.lift ⟨c, none⟩])).liftRec d
      = if d = c then f (s.liftRec d) else s.liftRec d := onRec_liftRec c d f s
  have hown := hf (s.liftRec c)
  simp only [LiftRecord.stance, Prod.mk.injEq] at hown
  obtain ⟨hstate, hrole⟩ := hown
  refine h.relift (r := ⟨c, none⟩) (q := .requested) (fun d hd => .inr ?_)
    ⟨fun d hd => ?_, fun e _ => by simp, fun e he => by simp [List.count_append, he.symm]⟩
    ⟨fun d hd => ?_, fun _ d hd => ?_, LiftState.noConfusion, by simpa [LiftState.pastRequested] using hslot,
      by simp [List.count_append, hqueue]⟩
    (fun hs => ⟨LiftState.noConfusion, fun d _ => h.suspended (by simpa [State.suspended] using hs) d⟩)
  all_goals rw [mem_single] at hd
  · simp [hd, hc, LiftState.pastRequested]
  · rw [hrec, if_neg hd]
  · simp [hd, hrec, hstate]
  · simp [hd, liftOf, hrec, hrole]

/-- R137, R138: an IDLE crane joins the lead that waits for it, and their lift joins the queue. -/
theorem GateSound.joined {c : CraneId} (hc : (s.liftRec c).state = .idle)
    (hlead : (s.liftRec c.opposite).state = .pairing) {f g : LiftRecord → LiftRecord}
    (hf : ∀ x, (f x).stance = (.requested, some .partner)) (hg : ∀ x, (g x).stance = (.requested, x.role)) :
    GateSound (((s.onRec c f).onRec c.opposite g).setQueue (s.gate.queue ++ [.lift ⟨c.opposite, some c⟩])) := by
  have hrole := h.pairing _ hlead
  have hmem (d : CraneId) : d ∈ LiftRef.cranes ⟨c.opposite, some c⟩ := by
    cases c <;> cases d <;> decide
  obtain ⟨hslot, hqueue⟩ := h.idle_apart hc (hmem c)
  have hmine : ((((s.onRec c f).onRec c.opposite g).setQueue
      (s.gate.queue ++ [.lift ⟨c.opposite, some c⟩])).liftRec c).stance = (.requested, some .partner) := by
    change (((s.onRec c f).onRec c.opposite g).liftRec c).stance = _
    rw [onRec_liftRec, if_neg (opposite_ne c).symm, onRec_liftRec, if_pos rfl, hf]
  have hother : ((((s.onRec c f).onRec c.opposite g).setQueue
      (s.gate.queue ++ [.lift ⟨c.opposite, some c⟩])).liftRec c.opposite).stance = (.requested, some .lead) := by
    change (((s.onRec c f).onRec c.opposite g).liftRec c.opposite).stance = _
    rw [onRec_liftRec, if_pos rfl, hg, onRec_liftRec, if_neg (opposite_ne c), hrole]
  generalize ht : ((s.onRec c f).onRec c.opposite g).setQueue (s.gate.queue ++ [.lift ⟨c.opposite, some c⟩]) = t
    at hmine hother ⊢
  simp only [LiftRecord.stance, Prod.mk.injEq] at hmine hother
  have hcases {P : CraneId → Prop} (hc : P c) (ho : P c.opposite) (d : CraneId) : P d := by
    cases c <;> cases d <;> assumption
  have hlift : ∀ d, liftOf t d = ⟨c.opposite, some c⟩ := hcases (by simp [liftOf, hmine])
    (by simp only [liftOf, hother, reduceCtorEq, if_false]; cases c <;> rfl)
  refine h.relift (r := ⟨c.opposite, some c⟩) (q := .requested) (fun d _ => .inr ?_)
    ⟨fun d hd => absurd (hmem d) hd, fun e _ => by simp [← ht], fun e he => by simp [← ht, List.count_append, he.symm]⟩
    ⟨fun d _ => ?_, fun _ d _ => hlift d, LiftState.noConfusion, ?_, by simp [← ht, List.count_append, hqueue]⟩
    (fun _ => ⟨LiftState.noConfusion, fun d hd => absurd (hmem d) hd⟩)
  · exact hcases (P := fun d => (s.liftRec d).state ≠ .requested ∧ (s.liftRec d).state.pastRequested = false)
      (by simp [hc, LiftState.pastRequested]) (by simp [hlead, LiftState.pastRequested]) d
  · exact hcases (P := fun d => (t.liftRec d).state = .requested) hmine.1 hother.1 d
  · simpa [← ht, LiftState.pastRequested] using hslot

end

section
variable {s : State} (h : GateSound s)

include h

theorem acceptLift_gateSound {c : CraneId} (hc : (s.liftRec c).state = .idle) (a : RequestLiftArgs) (dir : Direction)
    (n : Nat) (k : Lot) : GateSound (acceptLift c a dir n k s).1 := by
  have hlots : GateSound (s.setLots (tput s.cond.lots n (k.lifted dir c))) := h.congr rfl
  unfold acceptLift
  dsimp only
  split
  case isTrue ht =>
    exact (hlots.paired (f := acceptedRecord s c a dir n k (deviates s a.lot)) hc
      fun x => by simp [LiftRecord.stance, acceptedRecord, ht]).congr (by simp)
  case isFalse ht =>
    refine (hlots.asked (f := acceptedRecord s c a dir n k (deviates s a.lot)) hc
      fun x => by simp [LiftRecord.stance, acceptedRecord, ht]).congr ?_
    rw [decisionRound_gateView]
    exact gateView_of_recs (by simp) (by simp) (by simp) (by simp)

theorem joinLift_gateSound {c : CraneId} (hc : (s.liftRec c).state = .idle) (a : RequestLiftArgs) (t : TandemArgs)
    (dir : Direction) (n : Nat) (k : Lot) : GateSound (joinLift c a t dir n k s).1 := by
  unfold joinLift
  dsimp only
  split
  · exact h
  rename_i hmatch
  split
  · exact h
  · have hlead : (s.liftRec c.opposite).state = .pairing := by
      simp only [partnerMatches, Bool.not_eq_true', Bool.not_eq_false, Bool.and_eq_true, decide_eq_true_eq] at hmatch
      exact hmatch.1.1.1.1
    refine (h.joined hc hlead (f := partnerRecord s.time c a dir ⟨a.lot, n⟩ t.share) (g := LiftRecord.paired s.time)
      (fun _ => rfl) (fun _ => rfl)).congr ?_
    rw [decisionRound_gateView, latchLift_gateView]
    exact gateView_of_recs (by simp) (by simp) (by simp) (by simp)

theorem judgeLift_gateSound {c : CraneId} (hc : (s.liftRec c).state = .idle) (a : RequestLiftArgs) (dir : Direction)
    (n : Nat) (k : Lot) : GateSound (judgeLift c a dir n k s).1 := by
  have haccept (p : Prop) [Decidable p] : GateSound (if p then refuse .sequence s else acceptLift c a dir n k s).1 := by
    split
    · exact h
    · exact acceptLift_gateSound h hc a dir n k
  unfold judgeLift
  split
  · exact h
  split
  · split
    · exact h
    · exact haccept _
  · exact haccept _

theorem bodyRequestLift_gateSound (l : Link) (a : RequestLiftArgs) : GateSound (bodyRequestLift l a s).1 := by
  unfold bodyRequestLift
  dsimp only
  split
  · exact h
  split
  · exact h
  split
  · exact h
  rename_i hidle
  have hc : (s.liftRec (craneOf l)).state = .idle := not_not.mp hidle
  split
  · split
    · split
      · exact joinLift_gateSound h hc _ _ _ _ _
      · exact judgeLift_gateSound h hc _ _ _ _
    · exact judgeLift_gateSound h hc _ _ _ _
  · exact h

/-! ### Cancel Lift and the timers (R136, R144, R146, R147) -/

/-- The end of a lift whose crane is not IDLE, with the contexts that it advances. -/
theorem timedRelease_gateSound {c : CraneId} (hc : (s.liftRec c).state ≠ .idle) (k : EndKind) :
    GateSound (advance true true (releaseLift (liftOf s c) k s)) :=
  (h.released hc k).congr (by simp)

theorem bodyCancelLift_gateSound (l : Link) : GateSound (bodyCancelLift l s).1 := by
  unfold bodyCancelLift
  dsimp only
  split
  case isTrue hc =>
    exact timedRelease_gateSound h (fun hi => by simp [hi, LiftState.cancellable] at hc) .cancelled
  case isFalse => exact h

/-- R136, R144: the lift of a crane whose timer runs in a state other than IDLE ends. -/
theorem timeoutLift_gateSound {c : CraneId} {st : LiftState} {period : Nat} (hst : st ≠ .idle)
    (hdue : timerDue s c st period = true) : GateSound (timeoutLift c s) := by
  simp only [timerDue, Bool.and_eq_true, decide_eq_true_eq] at hdue
  exact timedRelease_gateSound h (by rw [hdue.1]; exact hst) .timeout

/-! ### Hook Report and Landing Report (R148 to R153) -/

section
variable {c : CraneId} (hc : (s.liftRec c).state.pastRequested = true)

include hc

theorem confirmOn_gateSound (n : Nat) : GateSound (confirmOn c n s) := by
  have hslot := h.others c hc
  unfold confirmOn
  split
  · exact h.hoisted hslot _
  split
  · exact h.hoisted hslot _
  · exact h.congr (onRec_gateView s (f := fun r => { r with confirmed := some n }) (fun _ => rfl) c)

theorem confirmOff_gateSound : GateSound (confirmOff c s) := by
  have hslot := h.others c hc
  unfold confirmOff
  split
  · exact h.liftedOff hslot
  split
  · exact h.liftedOff hslot
  · exact h.congr (onRec_gateView s (f := fun r => { r with offConfirmed := true }) (fun _ => rfl) c)

/-- A test that counts keeps the gate and the crane's state. -/
theorem counterAt_gateSound (n : Nat) : GateSound (s.onRec c (LiftRecord.counterAt n))
    ∧ ((s.onRec c (LiftRecord.counterAt n)).liftRec c).state.pastRequested = true := by
  refine ⟨h.congr (onRec_gateView s (f := LiftRecord.counterAt n) (fun _ => rfl) c), ?_⟩
  rw [onRec_liftRec, if_pos rfl]
  exact hc

theorem testLoadOn_gateSound (n : Nat) : GateSound (testLoadOn c n s) := by
  unfold testLoadOn
  dsimp only
  split
  · exact h
  obtain ⟨hg, hpast⟩ := counterAt_gateSound h hc
    (counted (loadOnQualifies s.settings.onFraction (expectedMass s c) n) (s.liftRec c).counter)
  split
  · exact confirmOn_gateSound hg hpast n
  · exact hg

theorem testLoadOff_gateSound (n : Nat) : GateSound (testLoadOff c n s) := by
  unfold testLoadOff
  dsimp only
  split
  · exact h
  obtain ⟨hg, hpast⟩ := counterAt_gateSound h hc
    (counted (loadOffQualifies s.settings.offFraction (referenceMass s c) n) (s.liftRec c).counter)
  split
  · exact confirmOff_gateSound hg hpast
  · exact hg

end

theorem applyReport_gateSound (c : CraneId) (n : Nat) : GateSound (applyReport c n s) := by
  unfold applyReport
  split
  · exact testLoadOn_gateSound h (by simp [*, LiftState.pastRequested]) n
  · exact testLoadOff_gateSound h (by simp [*, LiftState.pastRequested]) n
  · exact testLoadOff_gateSound h (by simp [*, LiftState.pastRequested]) n
  · exact h

theorem bodyHookReport_gateSound (l : Link) (n : Nat) (tip : Pos) : GateSound (bodyHookReport l n tip s).1 := by
  have hmoved (c : CraneId) : GateSound (moveHook c n tip s) := by
    refine h.congr ?_
    rw [moveHook, setStale_gateView]
    exact (onRec_gateView _ (f := fun r => { r with lastReport := some s.time }) (fun _ => rfl) c).trans rfl
  unfold bodyHookReport
  dsimp only
  split
  · exact h
  split
  · exact h
  · exact (applyReport_gateSound (hmoved _) (craneOf l) n).congr (advance_gateView _ _ _)

theorem bodyLandingReport_gateSound (l : Link) (a : LandingArgs) : GateSound (bodyLandingReport l a s).1 := by
  have hlanded (c : CraneId) (w : Landing) : (s.onRec c (LiftRecord.landedAs w)).gateView = s.gateView :=
    onRec_gateView s (f := LiftRecord.landedAs w) (fun _ => rfl) c
  have hslot {q : LiftState} (hs : (s.liftRec (craneOf l)).state = q) (hq : q.pastRequested = true) :=
    h.others (craneOf l) (hs ▸ hq)
  unfold bodyLandingReport
  dsimp only
  split
  · exact h
  split
  case h_1 hs =>
    split
    · exact h
    · exact (h.lowered (hslot hs rfl) _).congr (advance_gateView _ _ _)
  case h_2 hs =>
    split
    · exact h
    · exact ((h.congr (hlanded _ _)).completed (by simpa using hslot hs rfl)).congr (advance_gateView _ _ _)
  case h_3 => exact h

/-! ### Deliveries (R143, R145, R166) -/

theorem deliverLift_gateSound (r : LiftRef) (b : Bool) (w : Option CheckClass) : GateSound (deliverLift r b w s) := by
  unfold deliverLift
  split
  · exact h
  rename_i hentry
  have hq : GateEntry.lift r ∈ s.gate.queue := by simpa using (not_or.mp hentry).2
  split
  · exact h.congr (setReason_gateView s _ _)
  rename_i hstop
  split
  · exact h.congr (setReason_gateView s _ _)
  · have hfree : s.gate.slot = none ∧ s.suspended = false := by
      unfold liftStop at hstop
      split at hstop
      · cases hstop
      split at hstop
      · cases hstop
      · exact ⟨by simpa using ‹¬ s.gate.slot.isSome = true›, by simpa using ‹¬ s.suspended = true›⟩
    exact h.granted hq hfree.1 hfree.2

theorem deliverRecheck_gateSound (b : Bool) (w : Option CheckClass) : GateSound (deliverRecheck b w s) := by
  unfold deliverRecheck
  split
  · exact h
  split
  · exact h.clearanceWithdrawn ‹_› _
  split
  · exact h.clearanceWithdrawn ‹_› _
  · exact h

theorem completePrediction_gateSound : GateSound (completePrediction s) := by
  have hfreed : GateSound { s with eval := { s.eval with unit := .idle } } := h.congr rfl
  unfold completePrediction
  split
  · exact h
  dsimp only
  split
  · unfold deliver
    split
    · exact deliverRecheck_gateSound hfreed _ _
    · exact deliverLift_gateSound hfreed _ _ _
    · exact hfreed.congr (deliverTransfer_gateView _ _ _ _)
  · exact h.congr rfl

end

end Sys2Proof.Machine
end

section
/-! Every step keeps the gate sound (R9 to R11, R73, R122, R132, R138). -/

namespace Sys2Proof.Machine

/-! ### Publications (R73, R120, R141, R145) -/

theorem judgeWindow_gateView (r : ResultSet) (s : State) : (judgeWindow r s).gateView = s.gateView :=
  gateView_of_recs rfl rfl rfl rfl

theorem publishSet_gateView (p : Pass) (r : ResultSet) (s : State) : (publishSet p r s).gateView = s.gateView := rfl

theorem updateListOf_gateView (p : Pass) (vs : List Violation) (s : State) :
    (updateListOf p vs s).gateView = s.gateView := by
  cases hc : p.ctx <;> simp only [updateListOf, Monitor.setList, hc] <;> rfl

section
variable {s : State} (h : GateSound s)

include h

theorem autoSuspend_gateSound : GateSound (autoSuspend s) := by
  unfold autoSuspend
  split
  · exact h
  split
  · exact h.suspensionEntered _
  · exact h

theorem recheckClearance_gateSound : GateSound (recheckClearance s) := by
  unfold recheckClearance
  split
  · exact h
  split
  · exact h.clearanceWithdrawn ‹_› _
  · exact h.congr (by simp)

theorem publish_gateSound (p : Pass) : GateSound (publish p s) := by
  by_cases hx : p.ctx = .actual
  · have hwindow : GateSound (judgeWindow (passSet s.ship p) (autoSuspend (observed p s))) :=
      (autoSuspend_gateSound (observed_gateSound hx h)).congr (judgeWindow_gateView _ _)
    rw [publish_actual hx]
    exact (recheckClearance_gateSound hwindow).decided.congr (by simp)
  · refine h.congr ?_
    cases hc : p.ctx with
    | actual => exact absurd hc hx
    | plan => simp only [publish, hc, noteResults, latch_gateView, updateListOf_gateView, publishSet_gateView]
    | trial => simp only [publish, hc, noteResults, latch_gateView, updateListOf_gateView, publishSet_gateView]

end

/-! ### Power and the modes (R6 to R11) -/

theorem restartEngine_gateSound (s : State) : GateSound (restartEngine s) := by
  rw [restartEngine_form]
  exact gateSound_of_idle (fun c => by cases c <;> rfl) rfl rfl

theorem powerOnState_gateSound (s : State) : GateSound (powerOnState s) := gateSound_reset.congr rfl

@[simp] theorem changeMode_gateView (m : Mode) (s : State) : (changeMode m s).gateView = s.gateView :=
  (latchOn_gateView _ _ _).trans rfl

theorem enterService_gateSound (s : State) : GateSound (enterService s) := by
  have hcleared : GateSound (clearedCondition (abandonSnapshot s)) :=
    gateSound_of_idle (fun c => by cases c <;> rfl) rfl rfl
  exact hcleared.congr (by simp [enterService])

theorem endPendingTransfers_slot (ts : Table Transfer) (s : State) :
    (ts.foldl endPendingTransfer s).gate.slot = s.gate.slot := by
  induction ts generalizing s with
  | nil => rfl
  | cons p ts ih => exact (ih _).trans (removeTransfer_gate_slot _ _ _ _)

/-- R9: no lift is left in CONFIGURATION. -/
theorem leaveService_gateSound {s : State} (h : GateSound s) (hh : heldInService s = false) :
    GateSound (leaveService s) := by
  obtain ⟨ls, e, _⟩ := leaveService_form s
  have hslot : (pendingEnded s).gate.slot = none :=
    (endPendingTransfers_slot _ _).trans (endPendingLift_slot (endPendingLift_slot (no_slot h hh) .one) .two)
  rw [e]
  refine gateSound_of_idle (fun c => ?_) hslot rfl
  rw [leftWith_liftRec, pendingEnded_liftRec, pendingLifts_liftRec h hh]
  split
  · rfl
  · exact not_not.mp ‹_›

theorem bodyEnterConfiguration_gateSound {s : State} (h : GateSound s) : GateSound (bodyEnterConfiguration s).1 := by
  unfold bodyEnterConfiguration
  split
  · split
    · exact h
    · exact leaveService_gateSound h (Bool.eq_false_iff.mpr ‹_›)
  · exact h.congr (changeMode_gateView _ s)
  · exact h

theorem endInitializing_gateSound {s : State} (h : GateSound s) : GateSound (endInitializing s) := by
  have hloaded : (loadShipData (loadSettings s)).gateView = s.gateView := by
    unfold loadSettings
    split <;> rfl
  unfold endInitializing
  dsimp only
  split
  · exact enterService_gateSound _
  · exact h.congr ((changeMode_gateView _ _).trans hloaded)

theorem powerLoss_gateSound {s x : State} (h : GateSound s) (hx : execPowerLoss s = .next x) : GateSound x := by
  rcases event_cases hx with ⟨_, rfl⟩ | ⟨_, rfl⟩
  · exact h
  · refine h.congr ?_
    rw [interruptStore_form]
    rfl

/-! ### Suspend Work and Resume Work (R121, R124) -/

theorem bodySuspendWork_gateSound {s : State} (h : GateSound s) : GateSound (bodySuspendWork s).1 := by
  unfold bodySuspendWork
  split
  · exact h
  · exact h.suspensionEntered _

theorem bodyResumeWork_gateSound {s : State} (h : GateSound s) : GateSound (bodyResumeWork s).1 := by
  unfold bodyResumeWork
  split
  · exact h
  split
  · exact h
  · exact h.suspensionEnded.decided

/-! ### Every step -/

theorem gateSound_body (l : Link) (r : Request) {s : State} (h : GateSound s) : GateSound (bodyOf l r s).1 := by
  by_cases ht : touchesGate r = false
  · exact h.congr (bodyOf_gateView l ht s)
  · cases r <;> simp only [touchesGate, not_true_eq_false] at ht
    case enterConfiguration => exact bodyEnterConfiguration_gateSound h
    case restart => exact restartEngine_gateSound s
    case suspendWork => exact bodySuspendWork_gateSound h
    case resumeWork => exact bodyResumeWork_gateSound h
    case requestLift a => exact bodyRequestLift_gateSound h l a
    case cancelLift => exact bodyCancelLift_gateSound h l
    case hookReport n p => exact bodyHookReport_gateSound h l n p
    case landingReport a => exact bodyLandingReport_gateSound h l a

theorem gateSound_calm : Calm GateSound :=
  ⟨fun _ _ _ h => h.congr (by simp), fun _ h => h.congr (by simp)⟩

/-- A due event that keeps the gate sound where it is due. -/
theorem gateSound_due {due : State → Bool} {f : State → State} {s x : State} (h : GateSound s)
    (hf : due s = true → GateSound (f s)) (hx : dueEvent due f s = .next x) : GateSound x := by
  rcases dueEvent_cases hx with rfl | ⟨_, hdue, rfl⟩
  · exact h
  · exact gateSound_calm.close _ (hf hdue)

/-- An event that always happens and keeps the gate sound. -/
theorem gateSound_event {f : State → State} {s x : State} (h : GateSound s) (hf : GateSound (f s))
    (hx : event f s = .next x) : GateSound x := by
  rcases event_cases hx with ⟨_, rfl⟩ | ⟨_, rfl⟩
  · exact h
  · exact hf

theorem gateSound_exec {i : Instr} {s x : State} (h : GateSound s) (hx : exec i s = .next x) : GateSound x := by
  have hlink (l : Link) (f : LinkUnit → LinkUnit) : GateSound (s.onLink l f) := gateSound_calm.link _ _ _ h
  rcases hr : i.request with _ | ⟨l, t, r⟩
  · cases i <;> simp only [Instr.request, reduceCtorEq] at hr <;> simp only [exec] at hx
    case powerOn => cases hx; exact powerOnState_gateSound s
    case restartLine =>
      refine gateSound_event h ?_ hx
      split
      · exact (restartEngine_gateSound _).congr (startAllTx_gateView _)
      · exact h
    case endOfInitializing => exact gateSound_due h (fun _ => endInitializing_gateSound h) hx
    case timebaseAdvance => exact gateSound_event (f := fun s => { s with time := s.time + 1 }) h (h.congr rfl) hx
    case commitCompletion => exact gateSound_due (f := completeCommit) h (fun _ => enterService_gateSound _) hx
    case storeSettingsCompletion => exact gateSound_due h (fun _ => h.congr rfl) hx
    case openSnapshotCompletion =>
      refine gateSound_due h (fun _ => h.congr ?_) hx
      unfold completeSnapshot
      split <;> rfl
    case pairingTimeout c => exact gateSound_due h (timeoutLift_gateSound h LiftState.noConfusion) hx
    case requestTimeout c => exact gateSound_due h (timeoutLift_gateSound h LiftState.noConfusion) hx
    case clearanceLapse =>
      refine gateSound_due h (fun hd => ?_) hx
      exact timeoutLift_gateSound h LiftState.noConfusion (Bool.and_eq_true_iff.mp hd).2
    case craneBecomesStale c =>
      exact gateSound_due (f := fun s => advanceActual (craneGoesStale c s)) h
        (fun _ => h.congr (by simp [craneGoesStale])) hx
    case tankBecomesStale k =>
      exact gateSound_due (f := fun s => advanceActual (tankGoesStale k s)) h
        (fun _ => h.congr (by simp [tankGoesStale])) hx
    case transferRequestTimeout k =>
      refine gateSound_due h (fun _ => h.congr ?_) hx
      unfold timeoutTransfer
      split <;> simp
    case publication =>
      refine gateSound_due h (fun _ => ?_) hx
      split
      · exact publish_gateSound h _
      · exact h
    case hookPassComplete =>
      refine gateSound_due h (fun _ => h.congr ?_) hx
      unfold completeHookPass
      split <;> rfl
    case predictionCompletion => exact gateSound_due h (fun _ => completePrediction_gateSound h) hx
    case frameReceived l cs => exact gateSound_event h (hlink _ _) hx
    case characterGapTimeout l => exact gateSound_event h (hlink _ _) hx
    case lineBreak l => exact gateSound_event h (hlink _ _) hx
    case takeFrame l => exact takeFrame_calm gateSound_calm (fun r _ hs => gateSound_body l r hs) h hx
    case frameDeparture l => exact gateSound_event h (hlink _ _) hx
    case powerLoss => exact powerLoss_gateSound h hx
    case receiveLineReturnToIdle l => cases hx; exact hlink _ _
    case restartInputReturnToRest => cases hx; exact h.congr rfl
  · rw [exec_request hr] at hx
    exact command_calm gateSound_calm (fun _ hs => gateSound_body l r hs) h hx

/-- Settles O9: by a case split over the commands.  Most of them leave what the invariant reads (`bodyOf_gateView`); the
rest move one lift from state to state (`GateSound.relift`) or leave every crane IDLE (`gateSound_of_idle`). -/
theorem liftGateStaysSound : Obligations.LiftGateStaysSound := by
  intro s t h hx
  unfold step at hx
  split at hx
  · cases hx
    exact h
  · rename_i rest _
    exact gateSound_exec (s := { s with pending := rest }) (h.congr rfl) hx

end Sys2Proof.Machine
end

section
/-! Lifts that end before their load is on the hook, and staleness: what states that stand alike agree in, and what a
cancel or a timeout leaves (R136, R144, R146, R147, R149, R160). -/

namespace Sys2Proof.Machine

/-! ### States that stand alike -/

section
variable {s t : State} (h : t.standing = s.standing)

include h

theorem cond_of_standing : t.cond = s.cond := (congrArg State.cond h :)

theorem mode_of_standing : t.mode = s.mode := (congrArg State.mode h :)

theorem ballast_of_standing : t.ballast = s.ballast := (congrArg State.ballast h :)

theorem liftRec_of_standing (c : CraneId) : t.liftRec c = s.liftRec c := (congrArg (fun x : State => x.liftRec c) h :)

theorem stale_of_standing (c : CraneId) : t.gate.stale.get c = s.gate.stale.get c :=
  (congrArg (fun x : State => x.gate.stale.get c) h :)

theorem queue_of_standing : t.gate.queue = s.gate.queue := (congrArg (fun x : State => x.gate.queue) h :)

theorem slot_of_standing : t.gate.slot = s.gate.slot := (congrArg (fun x : State => x.gate.slot) h :)

theorem window_of_standing : t.gate.window = s.gate.window := (congrArg (fun x : State => x.gate.window) h :)

theorem actualGen_of_standing : t.eval.actual.gen = s.eval.actual.gen :=
  (congrArg (fun x : State => x.eval.actual.gen) h :)

theorem planGen_of_standing : t.eval.plan.gen = s.eval.plan.gen := (congrArg (fun x : State => x.eval.plan.gen) h :)

theorem notices_of_standing (j : Link) : (t.links.get j).notices = (s.links.get j).notices := by
  have hj := (congrArg (fun x : State => (x.links.get j).notices) h :)
  simpa [LinkUnit.standing] using hj

theorem untouched_of_standing : Untouched s t :=
  ⟨(congrArg State.powered h :), (congrArg State.restartArmed h :), (congrArg State.time h :), (congrArg State.nvm h :),
    (congrArg State.ship h :), (congrArg State.settings h :), (congrArg State.origin h :),
    ⟨(congrArg State.committing h :), (congrArg State.storing h :)⟩,
    ⟨(congrArg State.snapshot h :), (congrArg State.snapshotOp h :)⟩, (congrArg State.image h :),
    (congrArg State.frames h :),
    (congrArg State.freeCount h :), (congrArg State.pending h :)⟩

end

/-- The place reserved for a reply is no part of what stands. -/
theorem reserve_standing (l : Link) (k tag : Byte) (s : State) :
    (s.onLink l (LinkUnit.reserve k tag)).standing = s.standing := standing_onLink (standing_reserve _ _ _)

/-! ### Generations (R70, R155) -/

theorem advance_untouched (a p : Bool) (s : State) : Untouched s (advance a p s) :=
  ⟨by simp, by simp, by simp, by simp, by simp, by simp, by simp, by simp, by simp, by simp, by simp, by simp, by simp⟩

theorem advancePlan_actual (s : State) : (advancePlan s).eval.actual = s.eval.actual := by
  unfold advancePlan
  dsimp only
  split <;> rfl

theorem advancePlan_planGen (s : State) : (advancePlan s).eval.plan.gen = s.eval.plan.gen + 1 := by
  unfold advancePlan
  dsimp only
  split <;> rfl

theorem advance_actualGen (p : Bool) (s : State) :
    (advance true p s).eval.actual.gen = s.eval.actual.gen + 1 := by
  cases p
  · rfl
  · exact congrArg CtxState.gen (advancePlan_actual (advanceActual s))

theorem advance_planGen (a p : Bool) (s : State) :
    (advance a p s).eval.plan.gen = if p then s.eval.plan.gen + 1 else s.eval.plan.gen := by
  cases a <;> cases p
  · rfl
  · exact advancePlan_planGen s
  · rfl
  · exact advancePlan_planGen (advanceActual s)

@[simp] theorem advance_liftRec (a p : Bool) (s : State) (c : CraneId) : (advance a p s).liftRec c = s.liftRec c := by
  simp [State.liftRec]

/-- R182: LIFT reaches L0 and the links of the lift's cranes. -/
theorem latchLift_notices (cs : List CraneId) (s : State) (j : Link) :
    ((latchLift cs s).links.get j).notices = (s.links.get j).notices
      ||| (if j = .l0 ∨ j ∈ cs.map CraneId.link then Event.lift.flag else 0#16) := by
  rw [latchLift, latchOn_notices]
  simp only [List.mem_append, List.mem_singleton, or_comm]

/-! ### A lift released (R136, R144, R146, R147) -/

/-- R136: the lot of the lift is again what it was before LIFTING, and nothing else of the condition changes. -/
theorem releaseLift_cond {r : LiftRef} {s : State} {n : LotRef} {k : Lot} (hn : (s.liftRec r.lead).lot = some n)
    (hk : tget s.cond.lots n.slot = some k) (kind : EndKind) :
    (releaseLift r kind s).cond = { s.cond with lots := tput s.cond.lots n.slot k.returned } := by
  have hlot (u : State) (hr : u.liftRec r.lead = s.liftRec r.lead) (hc : u.cond = s.cond) :
      (u.onLiftLot r Lot.returned).cond = { s.cond with lots := tput s.cond.lots n.slot k.returned } := by
    simp [State.onLiftLot, State.onLot, State.setLots, hr, hn, hc, hk]
  rw [releaseLift_eq, freeSlotOf_cond, latchLift_cond, liftEnded]
  simp only [clearStale_cond, onRecs_cond]
  split
  · exact hlot _ rfl rfl
  · exact hlot _ rfl rfl

theorem releaseLift_stale {r : LiftRef} {c : CraneId} (hc : c ∈ r.cranes) (kind : EndKind) (s : State) :
    (releaseLift r kind s).gate.stale.get c = false := by
  rw [releaseLift_eq, freeSlotOf_gate_stale, latchLift_gate, liftEnded, clearStale_get]
  simp [hc]

/-- R136, R144, R146, R147: all that the end of a lift before its load is on the hook leaves. -/
theorem releaseLift_released {r : LiftRef} (hnd : r.cranes.Nodup) (kind : EndKind) (s : State) :
    Released r kind s (advance true true (releaseLift r kind s)) := by
  have hended (c : CraneId) (hc : c ∈ r.cranes) :
      ((advance true true (releaseLift r kind s)).liftRec c).silent = ((s.liftRec c).ended kind).silent := by
    rw [advance_liftRec, releaseLift_silent hnd, if_pos hc]
  have hends := releaseLift_endsPending r kind s
  exact {
    cranes := fun c hc => by
      have h := hended c hc
      exact ⟨congrArg LiftRecord.state h, congrArg LiftRecord.role h, congrArg LiftRecord.lot h,
        congrArg LiftRecord.timer h, congrArg LiftRecord.deviation h, congrArg LiftRecord.lastOutcome h⟩
    removed := fun c hc => by
      have h := hended c hc
      refine ⟨congrArg LiftRecord.dir h, congrArg LiftRecord.worst h, congrArg LiftRecord.plan h,
        congrArg LiftRecord.other h, congrArg LiftRecord.share h, congrArg LiftRecord.confirmed h,
        congrArg LiftRecord.landing h, congrArg LiftRecord.setDownTip h, ?_⟩
      rw [advance_gate, releaseLift_stale hc]
    stood := fun c hc => by
      have h := hended c hc
      exact ⟨(congrArg LiftRecord.counter h :), (congrArg LiftRecord.offConfirmed h :),
        (congrArg LiftRecord.lastReport h :)⟩
    others := fun c hc => by rw [advance_liftRec, releaseLift_silent hnd, if_neg hc]
    lot := fun n k hn hk => by rw [advance_cond, releaseLift_cond hn hk]
    gate := by
      rw [advance_gate, releaseLift_queue, releaseLift_slot, releaseLift_gate_window]
      exact ⟨rfl, rfl, rfl⟩
    gens := by
      rw [advance_actualGen, advance_planGen, releaseLift_eval_actual, releaseLift_eval_plan]
      exact ⟨rfl, rfl⟩
    notices := fun j => by
      rw [advance_links, releaseLift_notices]
      simp only [List.mem_append, List.mem_singleton, or_comm]
    mode := by rw [advance_mode, hends.mode]
    frame := hends.frame.trans (advance_untouched _ _ _) }

/-- What a released lift leaves does not turn on what the close of a step writes. -/
theorem Released.congr {r : LiftRef} {kind : EndKind} {s s' t t' : State} (h : Released r kind s' t')
    (hs : s.standing = s'.standing) (ht : t.standing = t'.standing) : Released r kind s t where
  cranes c hc := by
    rw [liftRec_of_standing ht, liftRec_of_standing hs]
    exact h.cranes c hc
  removed c hc := by
    rw [liftRec_of_standing ht, stale_of_standing ht]
    exact h.removed c hc
  stood c hc := by
    rw [liftRec_of_standing ht, liftRec_of_standing hs]
    exact h.stood c hc
  others c hc := by
    rw [liftRec_of_standing ht, liftRec_of_standing hs]
    exact h.others c hc
  lot n k hn hk := by
    rw [liftRec_of_standing hs] at hn
    rw [cond_of_standing hs] at hk
    rw [cond_of_standing ht, cond_of_standing hs]
    exact h.lot n k hn hk
  gate := by
    rw [queue_of_standing ht, slot_of_standing ht, window_of_standing ht, queue_of_standing hs, slot_of_standing hs,
      window_of_standing hs]
    exact h.gate
  gens := by
    rw [actualGen_of_standing ht, planGen_of_standing ht, actualGen_of_standing hs, planGen_of_standing hs]
    exact h.gens
  notices j := by
    rw [notices_of_standing ht, notices_of_standing hs]
    exact h.notices j
  mode := by rw [mode_of_standing ht, mode_of_standing hs, h.mode]
  frame := ((untouched_of_standing hs.symm).trans h.frame).trans (untouched_of_standing ht)

/-! ### Cancel Lift and the timeouts -/

section
variable {s : State} {l : Link} (h : Ready s l .cancelLift) (tag : Byte)

include h

/-- R147: a cancel in a state that takes it. -/
theorem cancelLift_releases (hc : (s.liftRec (craneOf l)).state.cancellable = true) :
    ∃ t, exec (.cancelLift l tag) s = .next t ∧ t.sends l (replyFrame (Reply.bare .done) 0x41#8 tag)
      ∧ Released (liftOf s (craneOf l)) .cancelled s t := by
  let u := s.onLink l (LinkUnit.reserve 0x41#8 tag)
  have hbody : bodyCancelLift l u = doneWith (advance true true (releaseLift (liftOf s (craneOf l)) .cancelled u)) :=
    if_pos hc
  have hends := releaseLift_endsPending (liftOf s (craneOf l)) .cancelled u
  have hold := hends.holds l _ _ (holds_reserve h.none l 0x41#8 tag)
  obtain ⟨t, hx, hst, hsends⟩ := command_reply h hbody (by rwa [advance_links]) rfl
  exact ⟨t, hx, hsends,
    (releaseLift_released (liftOf_cranes_nodup s _) _ u).congr (reserve_standing l _ tag s).symm hst⟩

/-- R147: a cancel in any other state. -/
theorem cancelLift_refused (hc : (s.liftRec (craneOf l)).state.cancellable = false) :
    Refuses (.cancelLift l tag) l .cancelLift tag .state s :=
  command_quiet h (if_neg (Bool.eq_false_iff.mp hc))

end

theorem exec_pairingTimeout (c : CraneId) (s : State) : exec (.pairingTimeout c) s =
    dueEvent (fun s => timerDue s c .pairing s.settings.pairingTimeout) (timeoutLift c) s := rfl

theorem exec_requestTimeout (c : CraneId) (s : State) : exec (.requestTimeout c) s =
    dueEvent (fun s => timerDue s c .requested s.settings.requestTimeout) (timeoutLift c) s := rfl

theorem exec_clearanceLapse (s : State) : exec .clearanceLapse s =
    dueEvent (fun s => s.gate.slot.isSome && timerDue s (slotLead s) .cleared s.settings.clearanceValid)
      (fun s => timeoutLift (slotLead s) s) s := rfl

/-- R136, R144, R146: a timer that has reached its period ends the lift of its crane. -/
theorem timeout_releases {s : State} (hp : s.powered = true) {due : State → Bool} (hd : due s = true) (c : CraneId) :
    ∃ t, dueEvent due (timeoutLift c) s = .next t ∧ Released (liftOf s c) .timeout s t :=
  ⟨_, dueEvent_due hp hd, (releaseLift_released (liftOf_cranes_nodup s c) _ s).congr rfl (settle_standing _)⟩

theorem slotLead_of_some {s : State} {r : LiftRef} (h : s.gate.slot = some r) : slotLead s = r.lead := by
  rw [slotLead, h]

/-- R146: the clearance of the lift that holds the slot lapses, and the slot is free. -/
theorem clearanceLapse_releases {s : State} (hp : s.powered = true) {r : LiftRef} (hr : s.gate.slot = some r)
    (hown : liftOf s r.lead = r) (hd : timerDue s r.lead .cleared s.settings.clearanceValid = true) :
    ∃ t, exec .clearanceLapse s = .next t ∧ Released r .timeout s t ∧ t.gate.slot = none := by
  have hdue : (s.gate.slot.isSome && timerDue s (slotLead s) .cleared s.settings.clearanceValid) = true := by
    simp [slotLead_of_some hr, hr, hd]
  have hreleased := (releaseLift_released (liftOf_cranes_nodup s (slotLead s)) .timeout s).congr rfl
    (settle_standing (timeoutLift (slotLead s) s))
  rw [slotLead_of_some hr, hown] at hreleased
  refine ⟨_, (exec_clearanceLapse s).trans (dueEvent_due hp hdue), ?_, ?_⟩
  · rw [slotLead_of_some hr]
    exact hreleased
  · obtain ⟨_, hslot, _⟩ := hreleased.gate
    rw [slotLead_of_some hr, hslot, if_pos hr]

theorem clearanceLapse_not_due {s : State} (hd : s.gate.slot.isSome = true →
    timerDue s (slotLead s) .cleared s.settings.clearanceValid = false) : exec .clearanceLapse s = .next s := by
  rw [exec_clearanceLapse]
  refine dueEvent_not ?_
  cases hslot : s.gate.slot.isSome
  · rfl
  · exact hd hslot

/-- Settles O43: a cancel, a timeout and a lapse all release the lift (`releaseLift_released`), and what is released
does not turn on the close of the step. -/
theorem liftsEndUnhoisted : Obligations.LiftsEndUnhoisted := by
  refine ⟨fun s l tag h => ⟨cancelLift_releases h tag, cancelLift_refused h tag⟩,
    fun s hp => ⟨fun c hd => ?_, fun c hd => ?_, fun c hd => ?_, fun c hd => ?_,
      fun r hr hown => ⟨clearanceLapse_releases hp hr hown, fun hd => ?_⟩, fun hr => ?_⟩⟩
  · exact exec_pairingTimeout c s ▸ timeout_releases hp hd c
  · exact (exec_pairingTimeout c s).trans (dueEvent_not hd)
  · exact exec_requestTimeout c s ▸ timeout_releases hp hd c
  · exact (exec_requestTimeout c s).trans (dueEvent_not hd)
  · exact clearanceLapse_not_due fun _ => by rwa [slotLead_of_some hr]
  · exact clearanceLapse_not_due fun hsome => by simp [hr] at hsome

/-! ### Staleness (R149, R160) -/

theorem exec_craneBecomesStale (c : CraneId) (s : State) : exec (.craneBecomesStale c) s =
    dueEvent (fun s => craneStaleNow s c && !s.gate.stale.get c) (fun s => advanceActual (craneGoesStale c s)) s := rfl

theorem exec_tankBecomesStale (k : Nat) (s : State) : exec (.tankBecomesStale k) s =
    dueEvent (fun s => tankStaleNow s k && !(s.tankRow k).stale) (fun s => advanceActual (tankGoesStale k s)) s := rfl

/-- Settles O44: each event by its condition, due or not. -/
theorem stalenessIsNoted : Obligations.StalenessIsNoted := by
  intro s hp
  refine ⟨fun c hnow hflag => ?_, fun c hno => ?_, fun k hnow hflag => ?_, fun k hno => ?_⟩
  · exact ⟨_, (exec_craneBecomesStale c s).trans (dueEvent_due hp (by simp [hnow, hflag])), settle_standing _⟩
  · rw [exec_craneBecomesStale]
    refine dueEvent_not ?_
    obtain hno | hno := hno <;> simp [hno]
  · exact ⟨_, (exec_tankBecomesStale k s).trans (dueEvent_due hp (by simp [hnow, hflag])), settle_standing _⟩
  · rw [exec_tankBecomesStale]
    refine dueEvent_not ?_
    obtain hno | hno := hno <;> simp [hno]

end Sys2Proof.Machine
end

section
/-! Request Lift: its checks in their order, its acceptance, and the pairing of two cranes (R133 to R139). -/

namespace Sys2Proof.Machine

/-! ### What a decision round leaves (R139) -/

section
variable {s t : State} (h : RoundLeaves s t)

include h

theorem RoundLeaves.cond : t.cond = s.cond := by rw [h.form]

theorem RoundLeaves.links : t.links = s.links := by rw [h.form]

theorem RoundLeaves.mode : t.mode = s.mode := by rw [h.form]

theorem RoundLeaves.queue : t.gate.queue = s.gate.queue := by rw [h.form]

theorem RoundLeaves.slot : t.gate.slot = s.gate.slot := by rw [h.form]

theorem RoundLeaves.actual : t.eval.actual = s.eval.actual := by rw [h.form]

theorem RoundLeaves.plan : t.eval.plan = s.eval.plan := by rw [h.form]

theorem RoundLeaves.untouched : Untouched s t := by
  rw [h.form]
  exact ⟨rfl, rfl, rfl, rfl, rfl, rfl, rfl, ⟨rfl, rfl⟩, ⟨rfl, rfl⟩, rfl, rfl, rfl, rfl⟩

end

theorem advance_actualSet (a p : Bool) (s : State) : (advance a p s).eval.actual.set = s.eval.actual.set := by
  cases a <;> cases p
  · rfl
  · exact congrArg CtxState.set (advancePlan_actual s)
  · rfl
  · exact (congrArg CtxState.set (advancePlan_actual (advanceActual s)) :)

/-! ### The checks (R133) -/

section
variable {s : State} {l : Link} {a : RequestLiftArgs}

theorem bodyRequestLift_bad_values (hv : liftValuesOk s.ship (craneOf l) a = false) :
    bodyRequestLift l a s = refuse .badValue s := by
  simp [bodyRequestLift, hv]

theorem both_cranes_present (hab : s.craneAbsent (craneOf l) = false)
    (hother : a.tandem.isSome = true → s.craneAbsent (craneOf l).opposite = false) :
    (s.craneAbsent (craneOf l) || (a.tandem.isSome && s.craneAbsent (craneOf l).opposite)) = false := by
  rw [hab, Bool.false_or, Bool.and_eq_false_imp]
  exact hother

variable (hv : liftValuesOk s.ship (craneOf l) a = true)

include hv

theorem bodyRequestLift_absent (hab : s.craneAbsent (craneOf l) = true
    ∨ (a.tandem.isSome = true ∧ s.craneAbsent (craneOf l).opposite = true)) :
    bodyRequestLift l a s = refuse .badRole s := by
  simp [bodyRequestLift, hv, hab]

variable (hab : s.craneAbsent (craneOf l) = false)
  (hother : a.tandem.isSome = true → s.craneAbsent (craneOf l).opposite = false)

include hab hother

theorem bodyRequestLift_not_idle (hst : (s.liftRec (craneOf l)).state ≠ .idle) :
    bodyRequestLift l a s = refuse .state s := by
  simp [bodyRequestLift, hv, both_cranes_present hab hother, hst]

variable (hst : (s.liftRec (craneOf l)).state = .idle)

include hst

theorem bodyRequestLift_not_found (hk : findLot s.cond.lots a.lot = none) :
    bodyRequestLift l a s = refuse .notFound s := by
  simp [bodyRequestLift, hv, both_cranes_present hab hother, hst, hk]

variable {n : Nat} {k : Lot} {dir : Direction} (hk : findLot s.cond.lots a.lot = some (n, k))
  (hdir : dirOf a.dir = some dir)

include hk hdir

/-- R133, R137: a tandem request for a lot that another crane lifts is a partner request. -/
theorem bodyRequestLift_joins {x : TandemArgs} (ht : a.tandem = some x) (hl : k.state.isLifting = true) :
    bodyRequestLift l a s = joinLift (craneOf l) a x dir n k s := by
  have hthere := hother (by simp [ht])
  simp [bodyRequestLift, hv, hab, hthere, hst, hk, hdir, ht, hl]

/-- R133: every other request goes on to steps 6 to 8. -/
theorem bodyRequestLift_judges (ht : a.tandem = none ∨ k.state.isLifting = false) :
    bodyRequestLift l a s = judgeLift (craneOf l) a dir n k s := by
  cases htan : a.tandem with
  | none => simp [bodyRequestLift, hv, hab, hst, hk, hdir, htan]
  | some x =>
    have hl : k.state.isLifting = false := ht.resolve_left (by simp [htan])
    have hthere := hother (by simp [htan])
    simp [bodyRequestLift, hv, hab, hthere, hst, hk, hdir, htan, hl]

end

theorem not_lifting_of_liftable {k : Lot} {dir : Direction} (h : liftable k dir = true) :
    k.state.isLifting = false := by
  cases dir
  · simp [isPlanned_iff.mp h, LotState.isLifting]
  · simp [isAboard_iff.mp h, LotState.isLifting]

section
variable {s : State} {c : CraneId} {a : RequestLiftArgs} {dir : Direction} {n : Nat} {k : Lot}

theorem judgeLift_of_not_liftable (h : liftable k dir = false) : judgeLift c a dir n k s = refuse .state s := by
  simp [judgeLift, h]

variable (h : liftable k dir = true)

include h

theorem judgeLift_of_great_share {x : TandemArgs} (ht : a.tandem = some x) (hx : k.declared ≤ x.share) :
    judgeLift c a dir n k s = refuse .badValue s := by
  simp [judgeLift, h, ht, hx]

/-- R133 step 8: with a share that leaves the partner one, the deviation decides. -/
theorem judgeLift_of_share (hx : ∀ x, a.tandem = some x → x.share < k.declared) :
    judgeLift c a dir n k s =
      if deviates s a.lot && (s.settings.severity.get .c13).atLeast s.settings.gateThreshold then refuse .sequence s
      else acceptLift c a dir n k s := by
  cases ht : a.tandem with
  | none => simp [judgeLift, h, ht]
  | some x => simp [judgeLift, h, ht, Nat.not_le.mpr (hx x ht)]

end

/-! ### A request accepted (R134, R135, R138, R139) -/

/-- R134, R138: what an accepted request makes of the state before the round that it starts: a lead request joins no
queue. -/
def liftAsked (c : CraneId) (a : RequestLiftArgs) (dir : Direction) (n : Nat) (k : Lot) (s : State) : State :=
  (advance true true ((s.setLots (tput s.cond.lots n (k.lifted dir c))).onRec c
    (acceptedRecord s c a dir n k (deviates s a.lot)))).setQueue
      (s.gate.queue ++ if a.tandem.isSome then [] else [.lift ⟨c, none⟩])

section
variable (c : CraneId) (a : RequestLiftArgs) (dir : Direction) (n : Nat) (k : Lot) (s : State)

theorem acceptLift_eq : acceptLift c a dir n k s =
    (if a.tandem.isSome then liftAsked c a dir n k s else decisionRound (liftAsked c a dir n k s),
      .reply ⟨.accepted, flagsByte [deviates s a.lot]⟩) := by
  unfold acceptLift liftAsked
  cases a.tandem.isSome
  · simp
  · have hqueue : (advance true true ((s.setLots (tput s.cond.lots n (k.lifted dir c))).onRec c
        (acceptedRecord s c a dir n k (deviates s a.lot)))).gate.queue = s.gate.queue := by simp
    dsimp only
    rw [if_pos rfl, if_pos rfl, if_pos rfl, List.append_nil, ← hqueue]
    rfl

theorem acceptLift_replies : acceptLift c a dir n k s =
    ((acceptLift c a dir n k s).1, .reply ⟨.accepted, flagsByte [deviates s a.lot]⟩) := rfl

theorem acceptLift_leaves : RoundLeaves (liftAsked c a dir n k s) (acceptLift c a dir n k s).1 := by
  rw [acceptLift_eq]
  dsimp only
  split
  · exact .refl _
  · exact decisionRound_leaves _

theorem liftAsked_liftRec (d : CraneId) : (liftAsked c a dir n k s).liftRec d =
    if d = c then acceptedRecord s c a dir n k (deviates s a.lot) (s.liftRec d) else s.liftRec d := by
  refine Eq.trans ?_ (onRec_liftRec c d _ (s.setLots (tput s.cond.lots n (k.lifted dir c))))
  simp [State.liftRec, liftAsked]

theorem liftAsked_cond : (liftAsked c a dir n k s).cond =
    { s.cond with lots := tput s.cond.lots n (k.lifted dir c) } := by
  simp [liftAsked, State.setLots]

theorem liftAsked_links : (liftAsked c a dir n k s).links = s.links := by simp [liftAsked]

theorem liftAsked_gens : (liftAsked c a dir n k s).eval.actual.gen = s.eval.actual.gen + 1
    ∧ (liftAsked c a dir n k s).eval.plan.gen = s.eval.plan.gen + 1 := by
  rw [liftAsked, setQueue_eval, advance_actualGen, advance_planGen]
  exact ⟨rfl, rfl⟩

theorem liftAsked_untouched : Untouched s (liftAsked c a dir n k s) := by
  refine ⟨?_, ?_, ?_, ?_, ?_, ?_, ?_, ?_, ?_, ?_, ?_, ?_, ?_⟩
  all_goals simp [liftAsked]

/-- R139, R140: the round that a single request starts finds its own entry, and what stops it is what stopped it before
the request. -/
theorem ruling_liftAsked : ruling (liftAsked c a dir n k s) (.lift ⟨c, none⟩) =
    liftStop s ⟨c, none⟩ (actualTainted s) := by
  have hset : (liftAsked c a dir n k s).eval.actual.set = s.eval.actual.set := by
    rw [liftAsked, setQueue_eval, advance_actualSet]
    rfl
  have htaint : actualTainted (liftAsked c a dir n k s) = actualTainted s := by simp only [actualTainted, hset]
  have hfresh (d : CraneId) : hookFresh (liftAsked c a dir n k s) d = hookFresh s d := by
    refine hookFresh_congr ?_ (liftAsked_untouched c a dir n k s).time (liftAsked_untouched c a dir n k s).settings
    rw [liftAsked_liftRec]
    split <;> rfl
  have hsusp : (liftAsked c a dir n k s).suspended = s.suspended := by simp [State.suspended, liftAsked]
  have hslot : (liftAsked c a dir n k s).gate.slot = s.gate.slot := by simp [liftAsked]
  have hwindow : (liftAsked c a dir n k s).gate.window = s.gate.window := by simp [liftAsked]
  simp only [ruling, liftStop, htaint, hfresh, hsusp, hslot, hwindow]

/-- R134, R139: the pending reason of the crane after the round. -/
theorem acceptLift_reason (hq : ∀ r, GateEntry.lift r ∈ s.gate.queue → c ∉ r.cranes) :
    ((acceptLift c a dir n k s).1.liftRec c).reason =
      if a.tandem.isSome then none else some ((liftStop s ⟨c, none⟩ (actualTainted s)).getD .none) := by
  have hrec := liftAsked_liftRec c a dir n k s c
  rw [if_pos rfl] at hrec
  rw [acceptLift_eq]
  dsimp only
  cases ht : a.tandem.isSome
  · have hqueue : (liftAsked c a dir n k s).gate.queue = s.gate.queue ++ [.lift ⟨c, none⟩] := by simp [liftAsked, ht]
    have hround : (decisionRound (liftAsked c a dir n k s)).liftRec c
        = ((liftAsked c a dir n k s).liftRec c).ruled (liftStop s ⟨c, none⟩ (actualTainted s)) := by
      refine decisionRound_liftRec (fun r hr hc => ?_) ⟨⟨c, none⟩, by simp [hqueue], by simp [LiftRef.cranes]⟩
      rw [hqueue, List.mem_append, List.mem_singleton, GateEntry.lift.injEq] at hr
      obtain rfl := hr.resolve_left fun hr => hq r hr hc
      exact ruling_liftAsked c a dir n k s
    rw [if_neg Bool.false_ne_true, if_neg Bool.false_ne_true, hround, hrec]
    cases liftStop s ⟨c, none⟩ (actualTainted s) <;> simp [LiftRecord.ruled, setReason, acceptedRecord, ht]
  · rw [if_pos rfl, if_pos rfl, hrec]
    simp [acceptedRecord, ht]

end

/-! ### A partner request (R137) -/

/-- R137: what an accepted partner request makes of the state before the round that it starts. -/
def liftJoined (c : CraneId) (a : RequestLiftArgs) (x : TandemArgs) (dir : Direction) (n : Nat) (k : Lot) (s : State) :
    State :=
  let s' := (s.onRec c (partnerRecord s.time c a dir ⟨a.lot, n⟩ x.share)).onRec c.opposite (LiftRecord.paired s.time)
  latchLift [c.opposite, c]
    ((advanceActual (s'.setLots (tput s.cond.lots n k.tandem))).setQueue (s.gate.queue ++ [.lift ⟨c.opposite, some c⟩]))

section
variable {c : CraneId} {a : RequestLiftArgs} {x : TandemArgs} {dir : Direction} {n : Nat} {k : Lot} {s : State}

theorem joinLift_of_mismatch (h : partnerMatches (s.liftRec c.opposite) c a.lot dir = false) :
    joinLift c a x dir n k s = refuse .state s := by
  simp [joinLift, h]

theorem joinLift_of_wrong_share (h : partnerMatches (s.liftRec c.opposite) c a.lot dir = true)
    (hx : (s.liftRec c.opposite).share.getD 0 + x.share ≠ k.declared) :
    joinLift c a x dir n k s = refuse .badValue s := by
  simp [joinLift, h, hx]

theorem joinLift_accepts (h : partnerMatches (s.liftRec c.opposite) c a.lot dir = true)
    (hx : (s.liftRec c.opposite).share.getD 0 + x.share = k.declared) :
    joinLift c a x dir n k s =
      (decisionRound (liftJoined c a x dir n k s), .reply ⟨.accepted, flagsByte [false]⟩) := by
  simp only [joinLift, h, hx, Bool.not_true, Bool.false_eq_true, if_false, ne_eq, not_true_eq_false]
  rfl

end

section
variable (c : CraneId) (a : RequestLiftArgs) (x : TandemArgs) (dir : Direction) (n : Nat) (k : Lot) (s : State)

theorem liftJoined_partner : (liftJoined c a x dir n k s).liftRec c =
    partnerRecord s.time c a dir ⟨a.lot, n⟩ x.share (s.liftRec c) := by
  have hrec : (liftJoined c a x dir n k s).liftRec c =
      ((s.onRec c (partnerRecord s.time c a dir ⟨a.lot, n⟩ x.share)).onRec c.opposite
        (LiftRecord.paired s.time)).liftRec c := by
    simp [State.liftRec, liftJoined]
  rw [hrec, onRec_liftRec, if_neg (opposite_ne c).symm, onRec_liftRec, if_pos rfl]

theorem liftJoined_lead : (liftJoined c a x dir n k s).liftRec c.opposite =
    (s.liftRec c.opposite).paired s.time := by
  have hrec : (liftJoined c a x dir n k s).liftRec c.opposite =
      ((s.onRec c (partnerRecord s.time c a dir ⟨a.lot, n⟩ x.share)).onRec c.opposite
        (LiftRecord.paired s.time)).liftRec c.opposite := by
    simp [State.liftRec, liftJoined]
  rw [hrec, onRec_liftRec, if_pos rfl, onRec_liftRec, if_neg (opposite_ne c)]

theorem liftJoined_cond : (liftJoined c a x dir n k s).cond = { s.cond with lots := tput s.cond.lots n k.tandem } := by
  simp [liftJoined, State.setLots]

theorem liftJoined_gate : (liftJoined c a x dir n k s).gate.queue = s.gate.queue ++ [.lift ⟨c.opposite, some c⟩]
    ∧ (liftJoined c a x dir n k s).gate.slot = s.gate.slot := by
  simp [liftJoined]

theorem liftJoined_gens : (liftJoined c a x dir n k s).eval.actual.gen = s.eval.actual.gen + 1
    ∧ (liftJoined c a x dir n k s).eval.plan.gen = s.eval.plan.gen := by
  simp [liftJoined, advanceActual, CtxState.advance]

theorem liftJoined_untouched : Untouched s (liftJoined c a x dir n k s) := by
  refine ⟨?_, ?_, ?_, ?_, ?_, ?_, ?_, ?_, ?_, ?_, ?_, ?_, ?_⟩
  all_goals simp [liftJoined]

end

theorem mem_both (c d : CraneId) : d ∈ [c.opposite, c] := by cases c <;> cases d <;> decide

/-- R182: of both cranes of a tandem lift, LIFT reaches every link but that of the ballast station. -/
theorem lift_links_of_both {cs : List CraneId} (h : ∀ c, c ∈ cs) (j : Link) :
    (j = .l0 ∨ j ∈ cs.map CraneId.link) ↔ j ≠ .l3 := by
  cases j with
  | l0 => simp
  | l1 => exact ⟨fun _ => Link.noConfusion, fun _ => .inr (List.mem_map.mpr ⟨.one, h _, rfl⟩)⟩
  | l2 => exact ⟨fun _ => Link.noConfusion, fun _ => .inr (List.mem_map.mpr ⟨.two, h _, rfl⟩)⟩
  | l3 =>
    refine ⟨?_, fun hne => absurd rfl hne⟩
    rintro (hj | hj)
    · cases hj
    · obtain ⟨c, _, hc⟩ := List.mem_map.mp hj
      cases c <;> cases hc

theorem latchLift_notices_of_both {cs : List CraneId} (h : ∀ c, c ∈ cs) (s : State) (j : Link) :
    ((latchLift cs s).links.get j).notices
      = (s.links.get j).notices ||| (if j = .l3 then 0#16 else Event.lift.flag) := by
  rw [latchLift_notices]
  simp only [lift_links_of_both h, ne_eq, ite_not]

theorem liftJoined_notices (c : CraneId) (a : RequestLiftArgs) (x : TandemArgs) (dir : Direction) (n : Nat) (k : Lot)
    (s : State) (j : Link) : ((liftJoined c a x dir n k s).links.get j).notices
      = (s.links.get j).notices ||| (if j = .l3 then 0#16 else Event.lift.flag) := by
  rw [liftJoined, latchLift_notices_of_both (mem_both c)]
  simp

theorem liftJoined_holds {l : Link} {kind tag : Byte} {s : State} (h : (s.links.get l).holds kind tag) (c : CraneId)
    (a : RequestLiftArgs) (x : TandemArgs) (dir : Direction) (n : Nat) (k : Lot) :
    ((liftJoined c a x dir n k s).links.get l).holds kind tag := holds_latchOn (by simpa using h)

/-! ### The statements -/

section
variable {s : State} {l : Link} {a : RequestLiftArgs} (h : Ready s l (.requestLift a)) (tag : Byte)

include h

/-- R133: the request is refused as its body says. -/
theorem requestLift_refused {st : Status} (hb : bodyRequestLift l a (s.onLink l (LinkUnit.reserve 0x40#8 tag)) =
    refuse st (s.onLink l (LinkUnit.reserve 0x40#8 tag))) :
    Refuses (.requestLift l tag a) l (.requestLift a) tag st s :=
  command_quiet h hb

/-- R134, R137: the request is accepted, and a round may follow. -/
theorem requestLift_accepted {u v : State} {rep : Reply}
    (hb : bodyRequestLift l a (s.onLink l (LinkUnit.reserve 0x40#8 tag)) = (v, .reply rep)) (hv : RoundLeaves u v)
    (hold : (u.links.get l).holds 0x40#8 tag) :
    ∃ t, exec (.requestLift l tag a) s = .next t ∧ t.standing = v.standing ∧ t.sends l (replyFrame rep 0x40#8 tag) :=
  command_reply h hb (by rwa [hv.links]) rfl

end

/-- Settles O41: the checks by the branches of the body, and the acceptance by the state before its round
(`liftAsked`), what the round leaves of it (`acceptLift_leaves`) and the reason that it writes (`acceptLift_reason`). -/
theorem requestLiftCompletes : Obligations.RequestLiftCompletes := by
  refine ⟨fun s l tag a h => ?_, fun s l tag a n k dir h => ?_⟩
  · intro c no
    refine ⟨fun hv => requestLift_refused h tag (bodyRequestLift_bad_values hv),
      fun hv => ⟨fun hab => requestLift_refused h tag (bodyRequestLift_absent hv hab),
      fun hab ho => ⟨fun hst => requestLift_refused h tag (bodyRequestLift_not_idle hv hab ho hst),
      fun hst => ⟨fun hk => requestLift_refused h tag (bodyRequestLift_not_found hv hab ho hst hk),
      fun n k dir hk hdir => ?_⟩⟩⟩⟩
    have hjudge (ht : a.tandem = none ∨ k.state.isLifting = false) :=
      bodyRequestLift_judges (s := s.onLink l (LinkUnit.reserve 0x40#8 tag)) hv hab ho hst hk hdir ht
    refine ⟨fun ht hl => ?_, fun hl ⟨x, hx, hshare⟩ => ?_, fun hl hshare hdev hsev => ?_⟩
    · exact requestLift_refused h tag ((hjudge ht).trans (judgeLift_of_not_liftable hl))
    · exact requestLift_refused h tag
        ((hjudge (.inr (not_lifting_of_liftable hl))).trans (judgeLift_of_great_share hl hx hshare))
    · refine requestLift_refused h tag (((hjudge (.inr (not_lifting_of_liftable hl))).trans
        (judgeLift_of_share hl hshare)).trans (if_pos ?_))
      exact Bool.and_eq_true_iff.mpr ⟨hdev, hsev⟩
  · intro c hv hab ho hst hk hdir hl hshare hdev hq
    let u := s.onLink l (LinkUnit.reserve 0x40#8 tag)
    have hbody : bodyRequestLift l a u = acceptLift c a dir n k u :=
      ((bodyRequestLift_judges (s := u) hv hab ho hst hk hdir (.inr (not_lifting_of_liftable hl))).trans
        (judgeLift_of_share hl hshare)).trans (if_neg (Bool.eq_false_iff.mp hdev))
    have hround := acceptLift_leaves c a dir n k u
    obtain ⟨hactual, hplan⟩ := liftAsked_gens c a dir n k u
    have hrec := liftAsked_liftRec c a dir n k u
    have hold : ((liftAsked c a dir n k u).links.get l).holds 0x40#8 tag := by
      rw [liftAsked_links]
      exact holds_reserve h.none l 0x40#8 tag
    obtain ⟨t, hx, hst, hsends⟩ :=
      requestLift_accepted h tag (hbody.trans (acceptLift_replies c a dir n k u)) hround hold
    refine ⟨t, hx, hsends, ?_, ?_, ?_, ?_, ?_, ?_, ?_, ?_, ?_, ?_⟩
    · rw [cond_of_standing hst, hround.cond, liftAsked_cond]
      rfl
    · rw [liftRec_of_standing hst, hround.reasons, hrec, if_pos rfl]
      cases dir <;> rfl
    · rw [liftRec_of_standing hst, acceptLift_reason c a dir n k u hq]
      rfl
    · rw [liftRec_of_standing hst, hround.reasons, hrec, if_neg (opposite_ne c)]
      rfl
    · rw [queue_of_standing hst, hround.queue]
      rfl
    · rw [slot_of_standing hst, hround.slot]
      simp [liftAsked, u]
    · rw [actualGen_of_standing hst, hround.actual, hactual]
      rfl
    · rw [planGen_of_standing hst, hround.plan, hplan]
      rfl
    · rw [mode_of_standing hst, hround.mode]
      simp [liftAsked, u]
    · exact (((onLink_untouched l _ s).trans (liftAsked_untouched c a dir n k u)).trans hround.untouched).trans
        (untouched_of_standing hst)

/-- Settles O42: the refusals by the branches of the body, and the pairing by the state before its round
(`liftJoined`). -/
theorem partnerRequestCompletes : Obligations.PartnerRequestCompletes := by
  intro s l tag a x n k dir h c lead hv hab ho hst hk hdir ht hl
  let u := s.onLink l (LinkUnit.reserve 0x40#8 tag)
  have hbody : bodyRequestLift l a u = joinLift c a x dir n k u :=
    bodyRequestLift_joins (s := u) hv hab (fun _ => ho) hst hk hdir ht hl
  refine ⟨fun hm => requestLift_refused h tag (hbody.trans (joinLift_of_mismatch hm)),
    fun hm hx => requestLift_refused h tag (hbody.trans (joinLift_of_wrong_share hm hx)), fun hm hx => ?_⟩
  have hround := decisionRound_leaves (liftJoined c a x dir n k u)
  obtain ⟨hqueue, hslot⟩ := liftJoined_gate c a x dir n k u
  obtain ⟨hactual, hplan⟩ := liftJoined_gens c a x dir n k u
  obtain ⟨t, hexec, hst, hsends⟩ := requestLift_accepted h tag (hbody.trans (joinLift_accepts hm hx)) hround
    (liftJoined_holds (holds_reserve h.none l 0x40#8 tag) c a x dir n k)
  have hpartner : (t.liftRec c).silent = (partnerRecord u.time c a dir ⟨a.lot, n⟩ x.share (u.liftRec c)).silent := by
    rw [liftRec_of_standing hst, hround.reasons, liftJoined_partner]
  refine ⟨t, hexec, hsends, ?_, congrArg LiftRecord.state hpartner, congrArg LiftRecord.role hpartner,
    congrArg LiftRecord.lot hpartner, congrArg LiftRecord.worst hpartner, congrArg LiftRecord.share hpartner,
    congrArg LiftRecord.other hpartner, congrArg LiftRecord.timer hpartner, ?_, ?_, ?_, fun j => ?_, ?_, ?_, ?_, ?_⟩
  · rw [cond_of_standing hst, hround.cond, liftJoined_cond]
    rfl
  · rw [liftRec_of_standing hst, hround.reasons, liftJoined_lead]
    rfl
  · rw [queue_of_standing hst, hround.queue, hqueue]
    rfl
  · rw [slot_of_standing hst, hround.slot, hslot]
    rfl
  · rw [notices_of_standing hst, hround.links, liftJoined_notices, reserve_notices]
  · rw [actualGen_of_standing hst, hround.actual, hactual]
    rfl
  · rw [planGen_of_standing hst, hround.plan, hplan]
    rfl
  · rw [mode_of_standing hst, hround.mode]
    simp [liftJoined, u]
  · exact (((onLink_untouched l _ s).trans (liftJoined_untouched c a x dir n k u)).trans hround.untouched).trans
      (untouched_of_standing hst)

end Sys2Proof.Machine
end

section
/-! What the load tests of a report and the completion of a lift leave alone, and what a completed lift leaves
(R150, R151, R153, R155). -/

namespace Sys2Proof.Machine

/-! ### What the load tests leave alone (R148 to R151, R153) -/

/-- What the load tests of a report leave of a state. -/
structure LoadActs (s t : State) : Prop where
  frame : Untouched s t
  mode : t.mode = s.mode
  hooks : t.cond.hooks = s.cond.hooks
  tanks : t.cond.tanks = s.cond.tanks
  queue : t.gate.queue = s.gate.queue
  actual : t.eval.actual = s.eval.actual
  plan : t.eval.plan = s.eval.plan
  reports : ∀ c, (t.liftRec c).lastReport = (s.liftRec c).lastReport
  fresh : ∀ c, s.gate.stale.get c = false → t.gate.stale.get c = false
  holds : ∀ l k tag, (s.links.get l).holds k tag → (t.links.get l).holds k tag

theorem LoadActs.refl (s : State) : LoadActs s s :=
  ⟨.refl s, rfl, rfl, rfl, rfl, rfl, rfl, fun _ => rfl, fun _ h => h, fun _ _ _ h => h⟩

theorem LoadActs.trans {a b c : State} (h : LoadActs a b) (g : LoadActs b c) : LoadActs a c where
  frame := h.frame.trans g.frame
  mode := g.mode.trans h.mode
  hooks := g.hooks.trans h.hooks
  tanks := g.tanks.trans h.tanks
  queue := g.queue.trans h.queue
  actual := g.actual.trans h.actual
  plan := g.plan.trans h.plan
  reports := fun d => (g.reports d).trans (h.reports d)
  fresh := fun d hd => g.fresh d (h.fresh d hd)
  holds := fun l k tag hl => g.holds l k tag (h.holds l k tag hl)

theorem onRec_loadActs {f : LiftRecord → LiftRecord} (hf : ∀ r, (f r).lastReport = r.lastReport) (c : CraneId)
    (s : State) : LoadActs s (s.onRec c f) where
  frame := ⟨rfl, rfl, rfl, rfl, rfl, rfl, rfl, ⟨rfl, rfl⟩, ⟨rfl, rfl⟩, rfl, rfl, rfl, rfl⟩
  mode := rfl
  hooks := rfl
  tanks := rfl
  queue := rfl
  actual := rfl
  plan := rfl
  reports d := by
    rw [onRec_liftRec]
    split
    · exact hf _
    · rfl
  fresh _ h := h
  holds _ _ _ h := h

theorem onRecs_loadActs {f : LiftRecord → LiftRecord} (hf : ∀ r, (f r).lastReport = r.lastReport) (cs : List CraneId)
    (s : State) : LoadActs s (s.onRecs cs f) := by
  induction cs generalizing s with
  | nil => exact .refl s
  | cons c cs ih => exact (onRec_loadActs hf c s).trans (ih _)

theorem latchLift_loadActs (cs : List CraneId) (s : State) : LoadActs s (latchLift cs s) where
  frame := by refine ⟨?_, ?_, ?_, ?_, ?_, ?_, ?_, ?_, ?_, ?_, ?_, ?_, ?_⟩ <;> simp
  mode := by simp
  hooks := by simp
  tanks := by simp
  queue := by simp
  actual := by simp
  plan := by simp
  reports d := by simp [State.liftRec]
  fresh d h := by simpa using h
  holds _ _ _ h := holds_latchOn h

theorem withdrawDemand_loadActs (k : DemandKey) (s : State) : LoadActs s (withdrawDemand k s) :=
  ⟨⟨rfl, rfl, rfl, rfl, rfl, rfl, rfl, ⟨rfl, rfl⟩, ⟨rfl, rfl⟩, rfl, rfl, rfl, rfl⟩, rfl, rfl, rfl, rfl, rfl, rfl,
    fun _ => rfl, fun _ h => h, fun _ _ _ h => h⟩

theorem clearStale_loadActs (cs : List CraneId) (s : State) : LoadActs s (clearStale cs s) where
  frame := by refine ⟨?_, ?_, ?_, ?_, ?_, ?_, ?_, ?_, ?_, ?_, ?_, ?_, ?_⟩ <;> simp
  mode := by simp
  hooks := by simp
  tanks := by simp
  queue := by simp
  actual := by simp
  plan := by simp
  reports d := by simp [State.liftRec]
  fresh d h := by simp [clearStale_get, h]
  holds _ _ _ h := by simpa using h

theorem freeSlotOf_loadActs (r : LiftRef) (s : State) : LoadActs s (freeSlotOf r s) where
  frame := by refine ⟨?_, ?_, ?_, ?_, ?_, ?_, ?_, ?_, ?_, ?_, ?_, ?_, ?_⟩ <;> simp
  mode := by simp
  hooks := by simp
  tanks := by simp
  queue := by simp
  actual := by simp
  plan := by simp
  reports d := (congrArg LiftRecord.lastReport (freeSlotOf_silent r s d) :)
  fresh d h := by simpa using h
  holds _ _ _ h := by simpa using h

/-- A change of lots and sequence. -/
theorem LoadActs.of_lots {s t : State}
    (h : t = { s with cond := { s.cond with lots := t.cond.lots, seq := t.cond.seq } }) : LoadActs s t := by
  rw [h]
  exact ⟨⟨rfl, rfl, rfl, rfl, rfl, rfl, rfl, ⟨rfl, rfl⟩, ⟨rfl, rfl⟩, rfl, rfl, rfl, rfl⟩, rfl, rfl, rfl, rfl, rfl, rfl,
    fun _ => rfl, fun _ h => h, fun _ _ _ h => h⟩

theorem onLiftLot_loadActs (r : LiftRef) (f : Lot → Lot) (s : State) : LoadActs s (s.onLiftLot r f) := by
  refine .of_lots ?_
  rw [onLiftLot_form]

theorem hoist_loadActs (r : LiftRef) (x : Nat) (s : State) : LoadActs s (hoist r x s) :=
  (((onLiftLot_loadActs r _ s).trans (onRecs_loadActs (fun _ => by rfl) r.cranes _)).trans
    (withdrawDemand_loadActs .recheck _)).trans (latchLift_loadActs r.cranes _)

theorem confirmOn_loadActs (c : CraneId) (load : Nat) (s : State) : LoadActs s (confirmOn c load s) := by
  unfold confirmOn
  split
  · exact hoist_loadActs _ _ s
  · split
    · exact hoist_loadActs _ _ s
    · exact onRec_loadActs (fun _ => by rfl) c s

theorem testLoadOn_loadActs (c : CraneId) (load : Nat) (s : State) : LoadActs s (testLoadOn c load s) := by
  have hcount (n : Nat) : LoadActs s (s.onRec c (LiftRecord.counterAt n)) := onRec_loadActs (fun _ => by rfl) c s
  unfold testLoadOn
  dsimp only
  split
  · exact .refl s
  · split
    · exact (hcount _).trans (confirmOn_loadActs c load _)
    · exact hcount _

/-! ### The completion of a lift (R153) -/

/-- The state of a completion before its cranes become IDLE: the lot has landed as the lead's report says. -/
def lotLanded (r : LiftRef) (s : State) : State :=
  match (s.liftRec r.lead).lot, (s.liftRec r.lead).dir, (s.liftRec r.lead).landing with
  | some l, some dir, some place => landLot dir place l s
  | _, _, _ => s

theorem completeLift_eq (r : LiftRef) (s : State) : completeLift r s =
    freeSlotOf r (latchLift r.cranes (clearStale r.cranes ((lotLanded r s).onRecs r.cranes
      (LiftRecord.ended .completed)))) := rfl

theorem lotLanded_eq {r : LiftRef} {s : State} {l : LotRef} {dir : Direction} {place : Landing}
    (hl : (s.liftRec r.lead).lot = some l) (hd : (s.liftRec r.lead).dir = some dir)
    (hp : (s.liftRec r.lead).landing = some place) : lotLanded r s = landLot dir place l s := by
  simp only [lotLanded, hl, hd, hp]

theorem landLot_lots_form (d : Direction) (w : Landing) (l : LotRef) (s : State) : landLot d w l s =
    { s with cond := { s.cond with lots := (landLot d w l s).cond.lots, seq := (landLot d w l s).cond.seq } } := by
  unfold landLot
  split
  · rw [onLot_form]
    rfl
  · rfl
  · rw [onLot_form]

theorem lotLanded_form (r : LiftRef) (s : State) : lotLanded r s =
    { s with cond := { s.cond with lots := (lotLanded r s).cond.lots, seq := (lotLanded r s).cond.seq } } := by
  unfold lotLanded
  split
  · exact landLot_lots_form _ _ _ s
  · rfl

theorem lotLanded_liftRec (r : LiftRef) (s : State) (c : CraneId) : (lotLanded r s).liftRec c = s.liftRec c := by
  rw [lotLanded_form]
  rfl

theorem completeLift_loadActs (r : LiftRef) (s : State) : LoadActs s (completeLift r s) := by
  rw [completeLift_eq]
  exact (((LoadActs.of_lots (lotLanded_form r s)).trans
    (onRecs_loadActs (fun _ => by rfl) r.cranes _)).trans
      (clearStale_loadActs r.cranes _)).trans ((latchLift_loadActs r.cranes _).trans (freeSlotOf_loadActs r _))

theorem liftOff_loadActs (r : LiftRef) (s : State) : LoadActs s (liftOff r s) := by
  have hoff : LoadActs s (s.onRecs r.cranes LiftRecord.off) := onRecs_loadActs (fun _ => by rfl) r.cranes s
  unfold liftOff
  dsimp only
  split
  · exact hoff.trans (completeLift_loadActs r _)
  · exact (hoff.trans (onRecs_loadActs (fun _ => by rfl) r.cranes _)).trans (latchLift_loadActs r.cranes _)

theorem confirmOff_loadActs (c : CraneId) (s : State) : LoadActs s (confirmOff c s) := by
  unfold confirmOff
  split
  · exact liftOff_loadActs _ s
  · split
    · exact liftOff_loadActs _ s
    · exact onRec_loadActs (fun _ => by rfl) c s

theorem testLoadOff_loadActs (c : CraneId) (load : Nat) (s : State) : LoadActs s (testLoadOff c load s) := by
  have hcount (n : Nat) : LoadActs s (s.onRec c (LiftRecord.counterAt n)) := onRec_loadActs (fun _ => by rfl) c s
  unfold testLoadOff
  dsimp only
  split
  · exact .refl s
  · split
    · exact (hcount _).trans (confirmOff_loadActs c _)
    · exact hcount _

theorem applyReport_loadActs (c : CraneId) (load : Nat) (s : State) : LoadActs s (applyReport c load s) := by
  unfold applyReport
  split
  · exact testLoadOn_loadActs c load s
  · exact testLoadOff_loadActs c load s
  · exact testLoadOff_loadActs c load s
  · exact .refl s

section
variable {r : LiftRef} (hnd : r.cranes.Nodup) (s : State)

include hnd

/-- R153: the cranes of the lift become IDLE, and a round after it writes no more than a pending reason. -/
theorem completeLift_silent (c : CraneId) : ((completeLift r s).liftRec c).silent =
    (if c ∈ r.cranes then (s.liftRec c).ended .completed else s.liftRec c).silent := by
  have hrec (u : State) : (latchLift r.cranes (clearStale r.cranes u)).liftRec c = u.liftRec c := by
    simp [State.liftRec]
  rw [completeLift_eq, freeSlotOf_silent, hrec, onRecs_liftRec_of_nodup hnd, lotLanded_liftRec]

end

section
variable (r : LiftRef) (s : State)

theorem completeLift_slot : (completeLift r s).gate.slot = if s.gate.slot = some r then none else s.gate.slot := by
  rw [completeLift_eq, freeSlotOf_slot]
  simp only [latchLift_gate, clearStale_gate_slot, onRecs_gate_slot]
  rw [lotLanded_form]

theorem completeLift_notices (j : Link) : ((completeLift r s).links.get j).notices = (s.links.get j).notices
    ||| (if j = .l0 ∨ j ∈ r.cranes.map CraneId.link then Event.lift.flag else 0#16) := by
  rw [completeLift_eq, freeSlotOf_links, latchLift_notices, clearStale_links, onRecs_links, lotLanded_form]

theorem completeLift_cond : (completeLift r s).cond = (lotLanded r s).cond := by
  rw [completeLift_eq]
  simp

end

/-! ### Where the lot lands (R153) -/

section
variable {s : State} {lr : LotRef} {k : Lot}

/-- R153: a lot that lands aboard takes its location, and leaves the sequence when it was loaded. -/
theorem landLot_aboard (hk : tget s.cond.lots lr.slot = some k) (dir : Direction) (loc : Loc) :
    (landLot dir (.aboard loc) lr s).cond.lots
      = tput s.cond.lots lr.slot { k with state := .aboard, loc := loc, modified := true }
    ∧ (landLot dir (.aboard loc) lr s).cond.seq = match dir with
      | .load => s.cond.seq.filter (fun e => decide (¬ (e.lot = lr.id ∧ e.dir = .load)))
      | .discharge => s.cond.seq := by
  cases dir <;> simp [landLot, State.onLot, hk, Lot.landed, State.setLots, State.setSeq, seqDrop]

/-- R153: a lot to be loaded that lands ashore is planned again. -/
theorem landLot_load_ashore (hk : tget s.cond.lots lr.slot = some k) :
    (landLot .load .ashore lr s).cond.lots = tput s.cond.lots lr.slot { k with state := .planned, modified := true }
    ∧ (landLot .load .ashore lr s).cond.seq = s.cond.seq := by
  simp [landLot, State.onLot, hk, Lot.landed, State.setLots]

/-- R153: a lot discharged leaves the table and the sequence. -/
theorem landLot_discharge_ashore (s : State) (lr : LotRef) :
    (landLot .discharge .ashore lr s).cond.lots = tdrop s.cond.lots lr.slot
    ∧ (landLot .discharge .ashore lr s).cond.seq =
        s.cond.seq.filter (fun e => decide (¬ (e.lot = lr.id ∧ e.dir = .discharge))) := ⟨rfl, rfl⟩

end

/-! ### A lift that has landed (R151, R153, R155) -/

/-- A state from which the lift `r` of `s` completes: nothing that the completion reads or keeps has changed but the
lift's own records. -/
structure LandsFrom (r : LiftRef) (s u : State) : Prop where
  frame : Untouched s u
  mode : u.mode = s.mode
  lots : u.cond.lots = s.cond.lots
  seq : u.cond.seq = s.cond.seq
  tanks : u.cond.tanks = s.cond.tanks
  slot : u.gate.slot = s.gate.slot
  queue : u.gate.queue = s.gate.queue
  actual : u.eval.actual = s.eval.actual
  plan : u.eval.plan = s.eval.plan
  notices : ∀ j, (u.links.get j).notices = (s.links.get j).notices
  lot : ∀ c, (u.liftRec c).lot = (s.liftRec c).lot
  others : ∀ c, c ∉ r.cranes → u.liftRec c = s.liftRec c

theorem LandsFrom.trans {r : LiftRef} {a b c : State} (h : LandsFrom r a b) (g : LandsFrom r b c) :
    LandsFrom r a c where
  frame := h.frame.trans g.frame
  mode := g.mode.trans h.mode
  lots := g.lots.trans h.lots
  seq := g.seq.trans h.seq
  tanks := g.tanks.trans h.tanks
  slot := g.slot.trans h.slot
  queue := g.queue.trans h.queue
  actual := g.actual.trans h.actual
  plan := g.plan.trans h.plan
  notices := fun j => (g.notices j).trans (h.notices j)
  lot := fun d => (g.lot d).trans (h.lot d)
  others := fun d hd => (g.others d hd).trans (h.others d hd)

theorem LandsFrom.reserve (r : LiftRef) (l : Link) (k tag : Byte) (s : State) :
    LandsFrom r s (s.onLink l (LinkUnit.reserve k tag)) :=
  ⟨onLink_untouched l _ s, rfl, rfl, rfl, rfl, rfl, rfl, rfl, rfl, fun j => reserve_notices l j k tag s, fun _ => rfl,
    fun _ _ => rfl⟩

theorem LandsFrom.onRec {r : LiftRef} {c : CraneId} (hc : c ∈ r.cranes) {f : LiftRecord → LiftRecord}
    (hf : ∀ x, (f x).lot = x.lot) (s : State) : LandsFrom r s (s.onRec c f) where
  frame := ⟨rfl, rfl, rfl, rfl, rfl, rfl, rfl, ⟨rfl, rfl⟩, ⟨rfl, rfl⟩, rfl, rfl, rfl, rfl⟩
  mode := rfl
  lots := rfl
  seq := rfl
  tanks := rfl
  slot := rfl
  queue := rfl
  actual := rfl
  plan := rfl
  notices _ := rfl
  lot d := by
    rw [onRec_liftRec]
    split
    · exact hf _
    · rfl
  others d hd := by
    rw [onRec_liftRec, if_neg]
    rintro rfl
    exact hd hc

theorem LandsFrom.refl (r : LiftRef) (s : State) : LandsFrom r s s :=
  ⟨.refl s, rfl, rfl, rfl, rfl, rfl, rfl, rfl, rfl, fun _ => rfl, fun _ => rfl, fun _ _ => rfl⟩

theorem LandsFrom.onRecs {r : LiftRef} {cs : List CraneId} (hcs : ∀ c ∈ cs, c ∈ r.cranes) {f : LiftRecord → LiftRecord}
    (hf : ∀ x, (f x).lot = x.lot) (s : State) : LandsFrom r s (s.onRecs cs f) := by
  induction cs generalizing s with
  | nil => exact .refl r s
  | cons c cs ih =>
    exact (LandsFrom.onRec (hcs c List.mem_cons_self) hf s).trans (ih (fun d hd => hcs d (List.mem_cons_of_mem c hd)) _)

section
variable {r : LiftRef} {s u : State} (hnd : r.cranes.Nodup) (h : LandsFrom r s u) {lr : LotRef} {dir : Direction}
  {place : Landing} {k : Lot} (hl : (s.liftRec r.lead).lot = some lr) (hd : (u.liftRec r.lead).dir = some dir)
  (hp : (u.liftRec r.lead).landing = some place) (hk : tget s.cond.lots lr.slot = some k)

include hnd h hl hd hp hk

/-- R153, R155: all that the completion of a lift leaves. -/
theorem completeLift_landed : Landed r dir place lr k s (advance true true (completeLift r u)) := by
  have hcond : (advance true true (completeLift r u)).cond = (landLot dir place lr u).cond := by
    rw [advance_cond, completeLift_cond, lotLanded_eq ((h.lot _).trans hl) hd hp]
  have hku : tget u.cond.lots lr.slot = some k := by rw [h.lots, hk]
  have hacts := completeLift_loadActs r u
  have hrec (c : CraneId) : ((advance true true (completeLift r u)).liftRec c).silent =
      (if c ∈ r.cranes then (u.liftRec c).ended .completed else u.liftRec c).silent := by
    rw [advance_liftRec, completeLift_silent hnd]
  exact {
    cranes := fun c hc => by
      have hc' := hrec c
      rw [if_pos hc] at hc'
      refine ⟨congrArg LiftRecord.state hc', congrArg LiftRecord.role hc', congrArg LiftRecord.lot hc',
        congrArg LiftRecord.timer hc', congrArg LiftRecord.deviation hc', congrArg LiftRecord.landing hc',
        congrArg LiftRecord.setDownTip hc', ?_⟩
      rw [← h.lot c]
      exact congrArg LiftRecord.lastOutcome hc'
    others := fun c hc => by rw [hrec, if_neg hc, h.others c hc]
    loaded := fun hload loc hplace => by
      subst hload hplace
      rw [hcond, ← h.lots, ← h.seq]
      exact landLot_aboard hku .load loc
    left := fun hload hplace => by
      subst hload hplace
      rw [hcond, ← h.lots, ← h.seq]
      exact landLot_load_ashore hku
    unloaded := fun hdis hplace => by
      subst hdis hplace
      rw [hcond, ← h.lots, ← h.seq]
      exact landLot_discharge_ashore u lr
    kept := fun hdis loc hplace => by
      subst hdis hplace
      rw [hcond, ← h.lots, ← h.seq]
      exact landLot_aboard hku .discharge loc
    slot := by
      rw [advance_gate, completeLift_slot, hacts.queue, h.slot, h.queue]
      exact ⟨rfl, rfl⟩
    gens := by
      rw [advance_actualGen, advance_planGen, hacts.actual, hacts.plan, h.actual, h.plan]
      exact ⟨rfl, rfl⟩
    notices := fun j => by rw [advance_links, completeLift_notices, h.notices]
    tanks := by rw [advance_cond, hacts.tanks, h.tanks]
    mode := by rw [advance_mode, hacts.mode, h.mode]
    frame := (h.frame.trans hacts.frame).trans (advance_untouched _ _ _) }

end

/-- What a completed lift leaves does not turn on what the close of a step writes. -/
theorem Landed.congr {r : LiftRef} {dir : Direction} {place : Landing} {lr : LotRef} {k : Lot} {s t t' : State}
    (h : Landed r dir place lr k s t') (ht : t.standing = t'.standing) : Landed r dir place lr k s t where
  cranes c hc := by
    rw [liftRec_of_standing ht]
    exact h.cranes c hc
  others c hc := by
    rw [liftRec_of_standing ht]
    exact h.others c hc
  loaded := by
    rw [cond_of_standing ht]
    exact h.loaded
  left := by
    rw [cond_of_standing ht]
    exact h.left
  unloaded := by
    rw [cond_of_standing ht]
    exact h.unloaded
  kept := by
    rw [cond_of_standing ht]
    exact h.kept
  slot := by
    rw [slot_of_standing ht, queue_of_standing ht]
    exact h.slot
  gens := by
    rw [actualGen_of_standing ht, planGen_of_standing ht]
    exact h.gens
  notices j := by
    rw [notices_of_standing ht]
    exact h.notices j
  tanks := by rw [cond_of_standing ht, h.tanks]
  mode := by rw [mode_of_standing ht, h.mode]
  frame := h.frame.trans (untouched_of_standing ht)

end Sys2Proof.Machine
end

section
/-! Hook Report: how an accepted report moves the hook, and what it is then tested for (R148 to R151, R155). -/

namespace Sys2Proof.Machine

/-! ### The lift of a crane (R131, R133) -/

section
variable {s : State} {c : CraneId}

theorem liftOf_of_single (h : (s.liftRec c).role = some .single) : liftOf s c = ⟨c, none⟩ := by simp [liftOf, h]

theorem liftOf_of_lead (h : (s.liftRec c).role = some .lead) (hst : (s.liftRec c).state ≠ .pairing) :
    liftOf s c = ⟨c, some c.opposite⟩ := by simp [liftOf, h, hst]

theorem liftOf_of_partner (h : (s.liftRec c).role = some .partner) : liftOf s c = ⟨c.opposite, some c⟩ := by
  simp [liftOf, h]

theorem opposite_opposite (c : CraneId) : c.opposite.opposite = c := by cases c <;> rfl

theorem eq_or_eq_opposite (c d : CraneId) : c = d ∨ c = d.opposite := by cases c <;> cases d <;> decide

variable {lead : CraneId} (hlead : (s.liftRec lead).role = some .lead)
  (hpartner : (s.liftRec lead.opposite).role = some .partner)

include hlead hpartner

/-- R137: each crane of a tandem lift past PAIRING names the same lift. -/
theorem liftOf_of_tandem (hst : (s.liftRec c).state ≠ .pairing) : liftOf s c = ⟨lead, some lead.opposite⟩ := by
  obtain rfl | rfl := eq_or_eq_opposite c lead
  · exact liftOf_of_lead hlead hst
  · rw [liftOf_of_partner hpartner, opposite_opposite]

theorem not_single_of_tandem : (s.liftRec c).role ≠ some .single := by
  obtain rfl | rfl := eq_or_eq_opposite c lead
  · simp [hlead]
  · simp [hpartner]

end

theorem mem_tandem (lead c : CraneId) : c ∈ LiftRef.cranes ⟨lead, some lead.opposite⟩ := by
  cases lead <;> cases c <;> decide

theorem tandem_nodup (lead : CraneId) : (LiftRef.cranes ⟨lead, some lead.opposite⟩).Nodup := by cases lead <;> decide

/-! ### An accepted report (R148) -/

/-- `m` is `s` after the hook and the report time of crane `c` have moved, and a reply's place has been reserved. -/
structure Reported (c : CraneId) (load : Nat) (tip : Pos) (s m : State) : Prop where
  frame : Untouched s m
  mode : m.mode = s.mode
  cond : m.cond = { s.cond with hooks := s.cond.hooks.set c ⟨load, tip⟩ }
  liftRec : ∀ d, m.liftRec d = if d = c then { s.liftRec d with lastReport := some s.time } else s.liftRec d
  stale : m.gate.stale.get c = false
  slot : m.gate.slot = s.gate.slot
  queue : m.gate.queue = s.gate.queue
  actual : m.eval.actual = s.eval.actual
  plan : m.eval.plan = s.eval.plan
  notices : ∀ j, (m.links.get j).notices = (s.links.get j).notices

theorem moveHook_reported (c : CraneId) (load : Nat) (tip : Pos) (l : Link) (k tag : Byte) (s : State) :
    Reported c load tip s (moveHook c load tip (s.onLink l (LinkUnit.reserve k tag))) where
  frame := ⟨rfl, rfl, rfl, rfl, rfl, rfl, rfl, ⟨rfl, rfl⟩, ⟨rfl, rfl⟩, rfl, rfl, rfl, rfl⟩
  mode := rfl
  cond := rfl
  liftRec d := onRec_liftRec c d (fun r => { r with lastReport := some s.time }) (s.onLink l (LinkUnit.reserve k tag))
  stale := perCrane_get_set_self _ _ _
  slot := rfl
  queue := rfl
  actual := rfl
  plan := rfl
  notices j := reserve_notices l j k tag s

section
variable {c : CraneId} {load : Nat} {tip : Pos} {s m : State} (h : Reported c load tip s m)

include h

/-- A report moves no field of a record but the time of the last report. -/
theorem Reported.same (d : CraneId) :
    m.liftRec d = { s.liftRec d with lastReport := (m.liftRec d).lastReport } := by
  rw [h.liftRec]
  split <;> rfl

theorem Reported.mine : m.liftRec c = { s.liftRec c with lastReport := some s.time } := by
  rw [h.liftRec, if_pos rfl]

theorem Reported.opposite : m.liftRec c.opposite = s.liftRec c.opposite := by
  rw [h.liftRec, if_neg (opposite_ne c)]

theorem Reported.lots : m.cond.lots = s.cond.lots := by rw [h.cond]

theorem Reported.seq : m.cond.seq = s.cond.seq := by rw [h.cond]

theorem Reported.landsFrom {r : LiftRef} (hc : c ∈ r.cranes) : LandsFrom r s m where
  frame := h.frame
  mode := h.mode
  lots := h.lots
  seq := h.seq
  tanks := by rw [h.cond]
  slot := h.slot
  queue := h.queue
  actual := h.actual
  plan := h.plan
  notices := h.notices
  lot d := by rw [h.same d]
  others d hd := by
    rw [h.liftRec, if_neg]
    rintro rfl
    exact hd hc

end

theorem hookReply_advance (acc : Nat) (c : CraneId) (a p : Bool) (s : State) :
    hookReply acc c (advance a p s) = hookReply acc c s := by simp [hookReply]

theorem bodyHookReport_accepts {l : Link} {load : Nat} {tip : Pos} {u : State} (hu : u.craneAbsent (craneOf l) = false)
    (hpl : plausible load tip = true) :
    bodyHookReport l load tip u =
      (acceptReport (craneOf l) load tip u, .reply (hookReply 1 (craneOf l) (acceptReport (craneOf l) load tip u))) :=
  (if_neg (Bool.eq_false_iff.mp hu)).trans (if_neg (by simp [hpl]))

section
variable {s : State} {l : Link} {load : Nat} {tip : Pos} (h : Ready s l (.hookReport load tip)) (tag : Byte)

include h

theorem hookReport_absent (hab : s.craneAbsent (craneOf l) = true) :
    Refuses (.hookReport l tag load tip) l (.hookReport load tip) tag .badRole s :=
  command_quiet h (if_pos hab)

variable (hab : s.craneAbsent (craneOf l) = false)

include hab

theorem hookReport_discarded (hpl : plausible load tip = false) :
    Answers (.hookReport l tag load tip) l (.hookReport load tip) tag (hookReply 0 (craneOf l) s) s := by
  have hbody : bodyHookReport l load tip (s.onLink l (LinkUnit.reserve 0x42#8 tag)) =
      (s.onLink l (LinkUnit.reserve 0x42#8 tag), .quiet (hookReply 0 (craneOf l) s)) :=
    (if_neg (Bool.eq_false_iff.mp hab)).trans (if_pos (by simp [hpl]))
  exact command_quiet h hbody

variable (hpl : plausible load tip = true)

include hpl

/-- R148, R155: an accepted report moves the hook, is applied to confirmation, and advances ACTUAL, and PLAN when it
completed the lift. -/
theorem hookReport_runs : ∃ m t, Reported (craneOf l) load tip s m ∧ exec (.hookReport l tag load tip) s = .next t
    ∧ t.standing = (advance true (decide ((s.liftRec (craneOf l)).state = .lowering
        ∧ ((applyReport (craneOf l) load m).liftRec (craneOf l)).state = .idle))
      (applyReport (craneOf l) load m)).standing
    ∧ t.sends l (replyFrame (hookReply 1 (craneOf l) (applyReport (craneOf l) load m)) 0x42#8 tag) := by
  let u := s.onLink l (LinkUnit.reserve 0x42#8 tag)
  have hacts := applyReport_loadActs (craneOf l) load (moveHook (craneOf l) load tip u)
  obtain ⟨t, hx, hst, hsends⟩ := command_reply h (bodyHookReport_accepts (u := u) hab hpl) (by
    rw [acceptReport, advance_links]
    exact hacts.holds l _ _ (holds_reserve h.none l 0x42#8 tag)) rfl
  refine ⟨_, t, moveHook_reported _ load tip l _ tag s, hx, hst, ?_⟩
  rw [acceptReport, hookReply_advance] at hsends
  exact hsends

/-- R148: in a state in which no load is tested a report does no more than move the hook. -/
theorem hookReport_only_moves (hst : (s.liftRec (craneOf l)).state ∈ [.idle, .pairing, .requested, .setDown]) :
    Completes (.hookReport l tag load tip) l s (advanceActual (moveHook (craneOf l) load tip s))
      (replyFrame (hookReply 1 (craneOf l) s) 0x42#8 tag) := by
  let u := s.onLink l (LinkUnit.reserve 0x42#8 tag)
  have hmine : (moveHook (craneOf l) load tip u).liftRec (craneOf l)
      = { s.liftRec (craneOf l) with lastReport := some s.time } := (moveHook_reported _ load tip l _ tag s).mine
  have happly : applyReport (craneOf l) load (moveHook (craneOf l) load tip u) = moveHook (craneOf l) load tip u := by
    simp only [applyReport, hmine]
    simp only [List.mem_cons, List.not_mem_nil, or_false] at hst
    obtain hst | hst | hst | hst := hst <;> rw [hst]
  have hne : (s.liftRec (craneOf l)).state ≠ .lowering := by
    rintro he
    simp [he] at hst
  have haccept : acceptReport (craneOf l) load tip u = advanceActual (moveHook (craneOf l) load tip u) := by
    have hplan : decide ((u.liftRec (craneOf l)).state = .lowering
        ∧ ((moveHook (craneOf l) load tip u).liftRec (craneOf l)).state = .idle) = false :=
      decide_eq_false fun hlow => hne hlow.1
    rw [acceptReport, happly, hplan]
    rfl
  have hreply : hookReply 1 (craneOf l) (advanceActual (moveHook (craneOf l) load tip u))
      = hookReply 1 (craneOf l) s := by
    have hrec : (advanceActual (moveHook (craneOf l) load tip u)).liftRec (craneOf l)
        = { s.liftRec (craneOf l) with lastReport := some s.time } := hmine
    simp [hookReply, hrec]
  have hbody := bodyHookReport_accepts (u := u) hab hpl
  rw [haccept, hreply] at hbody
  exact command_changes h rfl hbody

end

/-- Settles O45: the two refusals, and a report accepted: what its tests leave alone (`applyReport_loadActs`), and that
none is made where no load is on the hook or due on it. -/
theorem hookReportsMoveTheHook : Obligations.HookReportsMoveTheHook := by
  intro s l tag load tip h c r i
  refine ⟨hookReport_absent h tag, hookReport_discarded h tag, fun hab hpl =>
    ⟨?_, hookReport_only_moves h tag hab hpl⟩⟩
  obtain ⟨m, t, hm, hx, hst, -⟩ := hookReport_runs h tag hab hpl
  have hacts := applyReport_loadActs c load m
  refine ⟨t, hx, ?_, ?_, ?_, ?_, ?_, ?_, ?_⟩
  · rw [cond_of_standing hst, advance_cond, hacts.hooks, hm.cond]
  · rw [liftRec_of_standing hst, advance_liftRec, hacts.reports, hm.mine]
  · rw [stale_of_standing hst, advance_gate, hacts.fresh _ hm.stale]
  · rw [actualGen_of_standing hst, advance_actualGen, hacts.actual, hm.actual]
  · rw [cond_of_standing hst, advance_cond, hacts.tanks, hm.cond]
  · rw [mode_of_standing hst, advance_mode, hacts.mode, hm.mode]
  · exact ((hm.frame.trans hacts.frame).trans (advance_untouched _ _ _)).trans (untouched_of_standing hst)

end Sys2Proof.Machine
end

section
/-! The load on the hook confirmed, single and tandem, by either crane (R145, R150). -/

namespace Sys2Proof.Machine

/-! ### The masses a report is tested against (R150, R151) -/

section
variable {s : State} {c : CraneId}

theorem lotOfCrane_of_single (hr : (s.liftRec c).role = some .single) {lr : LotRef} {k : Lot}
    (hl : (s.liftRec c).lot = some lr) (hk : tget s.cond.lots lr.slot = some k) : lotOfCrane s c = some k := by
  rw [lotOfCrane, liftOf_of_single hr, liftLot_of_tget hl hk]
  rfl

theorem expectedMass_of_single (hr : (s.liftRec c).role = some .single) {lr : LotRef} {k : Lot}
    (hl : (s.liftRec c).lot = some lr) (hk : tget s.cond.lots lr.slot = some k) : expectedMass s c = k.declared := by
  simp [expectedMass, hr, lotOfCrane_of_single hr hl hk, codeOr]

theorem expectedMass_of_share (hr : (s.liftRec c).role ≠ some .single) {x : Nat} (hx : (s.liftRec c).share = some x) :
    expectedMass s c = x := by
  unfold expectedMass
  split
  · exact absurd ‹_› hr
  · rw [hx]
    rfl

theorem referenceMass_of_single (hr : (s.liftRec c).role = some .single) {lr : LotRef} {k : Lot}
    (hl : (s.liftRec c).lot = some lr) (hk : tget s.cond.lots lr.slot = some k) :
    referenceMass s c = k.measured.getD 0 := by
  simp [referenceMass, hr, lotOfCrane_of_single hr hl hk]

theorem referenceMass_of_share (hr : (s.liftRec c).role ≠ some .single) {x : Nat}
    (hx : (s.liftRec c).share = some x) : referenceMass s c = x := by
  unfold referenceMass
  split
  · exact absurd ‹_› hr
  · rw [hx]
    rfl

end

theorem counterAt_liftRec (c : CraneId) (n : Nat) (s : State) (d : CraneId) :
    (s.onRec c (LiftRecord.counterAt n)).liftRec d =
      { s.liftRec d with counter := if d = c then n else (s.liftRec d).counter } := by
  rw [onRec_liftRec]
  split <;> rfl

theorem liftOf_counterAt (c : CraneId) (n : Nat) (s : State) (d : CraneId) :
    liftOf (s.onRec c (LiftRecord.counterAt n)) d = liftOf s d := by
  simp only [liftOf, counterAt_liftRec]

/-! ### A report read back from the step that takes it (R148) -/

section
variable {a p : Bool} {w t : State} (h : t.standing = (advance a p w).standing)

include h

theorem liftRec_of_advanced (c : CraneId) : t.liftRec c = w.liftRec c := by
  rw [liftRec_of_standing h, advance_liftRec]

theorem cond_of_advanced : t.cond = w.cond := by rw [cond_of_standing h, advance_cond]

theorem slot_of_advanced : t.gate.slot = w.gate.slot := by rw [slot_of_standing h, advance_gate]

theorem queue_of_advanced : t.gate.queue = w.gate.queue := by rw [queue_of_standing h, advance_gate]

theorem notices_of_advanced (j : Link) : (t.links.get j).notices = (w.links.get j).notices := by
  rw [notices_of_standing h, advance_links]

end

section
variable {c : CraneId} {load : Nat} {tip : Pos} {s m : State} (h : Reported c load tip s m)

include h

theorem Reported.role (d : CraneId) : (m.liftRec d).role = (s.liftRec d).role :=
  (congrArg LiftRecord.role (h.same d) :)

theorem Reported.state (d : CraneId) : (m.liftRec d).state = (s.liftRec d).state :=
  (congrArg LiftRecord.state (h.same d) :)

theorem Reported.lot (d : CraneId) : (m.liftRec d).lot = (s.liftRec d).lot :=
  (congrArg LiftRecord.lot (h.same d) :)

theorem Reported.share (d : CraneId) : (m.liftRec d).share = (s.liftRec d).share :=
  (congrArg LiftRecord.share (h.same d) :)

theorem Reported.confirmed (d : CraneId) : (m.liftRec d).confirmed = (s.liftRec d).confirmed :=
  (congrArg LiftRecord.confirmed (h.same d) :)

theorem Reported.offConfirmed (d : CraneId) : (m.liftRec d).offConfirmed = (s.liftRec d).offConfirmed :=
  (congrArg LiftRecord.offConfirmed (h.same d) :)

theorem Reported.liftOf_eq (d : CraneId) : liftOf m d = liftOf s d := by
  simp only [liftOf, h.role, h.state]

theorem Reported.lotOfCrane_eq (d : CraneId) : lotOfCrane m d = lotOfCrane s d := by
  simp only [lotOfCrane, liftLot, h.liftOf_eq, h.lot, h.lots]

theorem Reported.expectedMass_eq (d : CraneId) : expectedMass m d = expectedMass s d := by
  simp only [expectedMass, h.role, h.share, h.lotOfCrane_eq]

theorem Reported.referenceMass_eq (d : CraneId) : referenceMass m d = referenceMass s d := by
  simp only [referenceMass, h.role, h.share, h.lotOfCrane_eq]

theorem Reported.counted_mine (n : Nat) : (m.onRec c (LiftRecord.counterAt n)).liftRec c =
    { s.liftRec c with counter := n, lastReport := some s.time } := by
  rw [counterAt_liftRec, if_pos rfl, h.mine]

theorem Reported.counted_opposite (n : Nat) :
    (m.onRec c (LiftRecord.counterAt n)).liftRec c.opposite = s.liftRec c.opposite := by
  rw [counterAt_liftRec, if_neg (opposite_ne c), h.opposite]

theorem Reported.counted_lots (n : Nat) : (m.onRec c (LiftRecord.counterAt n)).cond.lots = s.cond.lots := h.lots

end

/-! ### A lift HOISTED (R150) -/

section
variable (r : LiftRef) (x : Nat) (s : State)

theorem hoist_liftRec (d : CraneId) :
    (hoist r x s).liftRec d = if d ∈ r.cranes then (s.liftRec d).hoisted else s.liftRec d := by
  have hlot : (s.onLiftLot r (Lot.weighed s.settings.discrepancyTol x)).liftRec d = s.liftRec d := by
    simp [State.liftRec]
  rw [← hlot, ← onRecs_liftRec (f := LiftRecord.hoisted) fun _ => rfl]
  simp [hoist, State.liftRec]

/-- R150: the lot of the lift's lead is weighed. -/
theorem hoist_lots {lr : LotRef} {k : Lot} (hl : (s.liftRec r.lead).lot = some lr)
    (hk : tget s.cond.lots lr.slot = some k) :
    (hoist r x s).cond.lots = tput s.cond.lots lr.slot (k.weighed s.settings.discrepancyTol x) := by
  simp [hoist, State.onLiftLot, State.onLot, hl, hk]

theorem hoist_notices (j : Link) : ((hoist r x s).links.get j).notices = (s.links.get j).notices
    ||| (if j = .l0 ∨ j ∈ r.cranes.map CraneId.link then Event.lift.flag else 0#16) := by
  rw [hoist, latchLift_notices]
  simp

theorem hoist_keeps : (hoist r x s).gate.slot = s.gate.slot ∧ (hoist r x s).cond.seq = s.cond.seq := by simp [hoist]

end

/-! ### A report tested for load-on (R150) -/

theorem applyReport_of_cleared {s : State} {c : CraneId} (h : (s.liftRec c).state = .cleared) (load : Nat) :
    applyReport c load s = testLoadOn c load s := by
  rw [applyReport, h]

section
variable {s : State} {c : CraneId} {load : Nat}

theorem confirmOn_of_single {a : CraneId} (h : liftOf s c = ⟨a, none⟩) :
    confirmOn c load s = hoist ⟨a, none⟩ load s := by
  simp [confirmOn, h]

theorem confirmOn_of_first {a b : CraneId} (h : liftOf s c = ⟨a, some b⟩)
    (ho : (s.liftRec c.opposite).confirmed = none) :
    confirmOn c load s = s.onRec c (fun r => { r with confirmed := some load }) := by
  simp [confirmOn, h, ho]

theorem confirmOn_of_second {a b : CraneId} (h : liftOf s c = ⟨a, some b⟩) {first : Nat}
    (ho : (s.liftRec c.opposite).confirmed = some first) :
    confirmOn c load s = hoist ⟨a, some b⟩ (load + first) s := by
  simp [confirmOn, h, ho]

section
variable {n : Nat} (hc : (s.liftRec c).confirmed = none)
  (hn : counted (loadOnQualifies s.settings.onFraction (expectedMass s c) load) (s.liftRec c).counter = n)

include hc hn

theorem testLoadOn_of_short (hlt : n < s.settings.confirmCount) :
    testLoadOn c load s = s.onRec c (LiftRecord.counterAt n) := by
  simp [testLoadOn, hc, hn, hlt]

theorem testLoadOn_of_reached (hle : s.settings.confirmCount ≤ n) :
    testLoadOn c load s = confirmOn c load (s.onRec c (LiftRecord.counterAt n)) := by
  simp [testLoadOn, hc, hn, hle]

end

theorem confirmOn_keeps (c : CraneId) (load : Nat) (s : State) : (confirmOn c load s).gate.slot = s.gate.slot
    ∧ (confirmOn c load s).cond.seq = s.cond.seq := by
  unfold confirmOn
  split
  · exact hoist_keeps _ _ s
  · split
    · exact hoist_keeps _ _ s
    · exact ⟨rfl, rfl⟩

theorem testLoadOn_keeps (c : CraneId) (load : Nat) (s : State) : (testLoadOn c load s).gate.slot = s.gate.slot
    ∧ (testLoadOn c load s).cond.seq = s.cond.seq := by
  unfold testLoadOn
  dsimp only
  split
  · exact ⟨rfl, rfl⟩
  · split
    · exact confirmOn_keeps c load _
    · exact ⟨rfl, rfl⟩

end

/-! ### What a report makes of a CLEARED lift (R145, R150) -/

section
variable {c : CraneId} {load : Nat} {tip : Pos} {s m : State} (h : Reported c load tip s m) {n : Nat}
  (hst : (s.liftRec c).state = .cleared) (hc : (s.liftRec c).confirmed = none)
  (hn : counted (loadOnQualifies s.settings.onFraction (expectedMass s c) load) (s.liftRec c).counter = n)

include h hst hc hn

theorem Reported.applied_of_on_short (hlt : n < s.settings.confirmCount) :
    applyReport c load m = m.onRec c (LiftRecord.counterAt n) := by
  rw [applyReport_of_cleared ((h.state c).trans hst)]
  refine testLoadOn_of_short ((h.confirmed c).trans hc) ?_ ?_
  · rw [h.frame.settings, h.expectedMass_eq, h.mine, hn]
  · rwa [h.frame.settings]

theorem Reported.applied_of_on_reached (hle : s.settings.confirmCount ≤ n) :
    applyReport c load m = confirmOn c load (m.onRec c (LiftRecord.counterAt n)) := by
  rw [applyReport_of_cleared ((h.state c).trans hst)]
  refine testLoadOn_of_reached ((h.confirmed c).trans hc) ?_ ?_
  · rw [h.frame.settings, h.expectedMass_eq, h.mine, hn]
  · rwa [h.frame.settings]

/-- R145: the lift of a single crane is HOISTED at its confirmation. -/
theorem Reported.applied_of_on_single (hr : (s.liftRec c).role = some .single) (hle : s.settings.confirmCount ≤ n) :
    applyReport c load m = hoist ⟨c, none⟩ load (m.onRec c (LiftRecord.counterAt n)) := by
  rw [h.applied_of_on_reached hst hc hn hle]
  refine confirmOn_of_single ?_
  rw [liftOf_counterAt, h.liftOf_eq, liftOf_of_single hr]

section
variable {lead : CraneId} (hlead : (s.liftRec lead).role = some .lead)
  (hpartner : (s.liftRec lead.opposite).role = some .partner) (hle : s.settings.confirmCount ≤ n)

include hlead hpartner hle

/-- R150: the first crane of a tandem lift keeps its confirming load. -/
theorem Reported.applied_of_on_first (ho : (s.liftRec c.opposite).confirmed = none) : applyReport c load m =
    (m.onRec c (LiftRecord.counterAt n)).onRec c (fun r => { r with confirmed := some load }) := by
  rw [h.applied_of_on_reached hst hc hn hle]
  refine confirmOn_of_first (a := lead) (b := lead.opposite) ?_ ?_
  · rw [liftOf_counterAt, h.liftOf_eq, liftOf_of_tandem hlead hpartner (by simp [hst])]
  · rw [h.counted_opposite, ho]

/-- R145: both cranes of a tandem lift are HOISTED at the second confirmation. -/
theorem Reported.applied_of_on_second {first : Nat} (ho : (s.liftRec c.opposite).confirmed = some first) :
    applyReport c load m =
      hoist ⟨lead, some lead.opposite⟩ (load + first) (m.onRec c (LiftRecord.counterAt n)) := by
  rw [h.applied_of_on_reached hst hc hn hle]
  refine confirmOn_of_second ?_ ?_
  · rw [liftOf_counterAt, h.liftOf_eq, liftOf_of_tandem hlead hpartner (by simp [hst])]
  · rw [h.counted_opposite, ho]

end

theorem Reported.on_short_reply (hlt : n < s.settings.confirmCount) :
    hookReply 1 c (applyReport c load m) = ⟨.done, encU 1 1 ++ encU 1 3 ++ encU 1 n⟩ := by
  rw [h.applied_of_on_short hst hc hn hlt, hookReply, h.counted_mine, hst]
  rfl

end

section
variable {c : CraneId} {load : Nat} {tip : Pos} {s m : State} (h : Reported c load tip s m) {n : Nat}

include h

/-- R150: a lift whose load is on the hook, at the report of its crane `c`. -/
theorem Reported.hoisted_mine {r : LiftRef} (hc : c ∈ r.cranes) (x : Nat) :
    (hoist r x (m.onRec c (LiftRecord.counterAt n))).liftRec c = { s.liftRec c with
      state := .hoisted, counter := 0, confirmed := none, timer := none, lastReport := some s.time } := by
  rw [hoist_liftRec, if_pos hc, h.counted_mine]
  rfl

theorem Reported.hoisted_reply {r : LiftRef} (hc : c ∈ r.cranes) (x : Nat) :
    hookReply 1 c (hoist r x (m.onRec c (LiftRecord.counterAt n))) = ⟨.done, encU 1 1 ++ encU 1 4 ++ encU 1 0⟩ := by
  rw [hookReply, h.hoisted_mine hc]
  rfl

theorem Reported.hoisted_lots {r : LiftRef} {lr : LotRef} {k : Lot} (hl : (s.liftRec r.lead).lot = some lr)
    (hk : tget s.cond.lots lr.slot = some k) (x : Nat) :
    (hoist r x (m.onRec c (LiftRecord.counterAt n))).cond.lots
      = tput s.cond.lots lr.slot (k.weighed s.settings.discrepancyTol x) := by
  have hlot : ((m.onRec c (LiftRecord.counterAt n)).liftRec r.lead).lot = some lr := by
    rw [counterAt_liftRec]
    exact (h.lot _).trans hl
  rw [hoist_lots r x _ hlot (by rwa [h.counted_lots])]
  show tput m.cond.lots lr.slot (k.weighed m.settings.discrepancyTol x) = _
  rw [h.lots, h.frame.settings]

theorem Reported.hoisted_notices (r : LiftRef) (x : Nat) (j : Link) :
    ((hoist r x (m.onRec c (LiftRecord.counterAt n))).links.get j).notices = (s.links.get j).notices
      ||| (if j = .l0 ∨ j ∈ r.cranes.map CraneId.link then Event.lift.flag else 0#16) := by
  rw [hoist_notices]
  exact congrArg (· ||| _) (h.notices j)

end

section
variable {c : CraneId} {load : Nat} {tip : Pos} {s m : State} (h : Reported c load tip s m) (n : Nat)

include h

/-- R150: the record of the first crane of a tandem lift confirmed. -/
theorem Reported.first_mine : ((m.onRec c (LiftRecord.counterAt n)).onRec c
    (fun r => { r with confirmed := some load })).liftRec c =
      { s.liftRec c with counter := n, confirmed := some load, lastReport := some s.time } := by
  rw [onRec_liftRec, if_pos rfl, h.counted_mine]

theorem Reported.first_opposite : ((m.onRec c (LiftRecord.counterAt n)).onRec c
    (fun r => { r with confirmed := some load })).liftRec c.opposite = s.liftRec c.opposite := by
  rw [onRec_liftRec, if_neg (opposite_ne c), h.counted_opposite]

/-- R145: each crane's record when a tandem lift is HOISTED. -/
theorem Reported.second_each (lead : CraneId) (x : Nat) (j : CraneId) {u : State}
    (hu : u = hoist ⟨lead, some lead.opposite⟩ x (m.onRec c (LiftRecord.counterAt n))) :
    (u.liftRec j).state = .hoisted ∧ (u.liftRec j).confirmed = none ∧ (u.liftRec j).counter = 0
      ∧ (u.liftRec j).timer = none ∧ (u.liftRec j).lot = (s.liftRec j).lot := by
  rw [hu, hoist_liftRec, if_pos (mem_tandem lead j), counterAt_liftRec]
  exact ⟨rfl, rfl, rfl, rfl, h.lot j⟩

end

/-- R148, R150: a report in CLEARED leaves the exclusive slot, the queue and the sequence. -/
theorem Reported.cleared_keeps {c : CraneId} {load : Nat} {tip : Pos} {s m t : State} (h : Reported c load tip s m)
    (hst : (s.liftRec c).state = .cleared) {a p : Bool}
    (ht : t.standing = (advance a p (applyReport c load m)).standing) :
    t.gate.slot = s.gate.slot ∧ t.gate.queue = s.gate.queue ∧ t.cond.seq = s.cond.seq := by
  obtain ⟨hslot, hseq⟩ := testLoadOn_keeps c load m
  rw [applyReport_of_cleared ((h.state c).trans hst)] at ht
  rw [slot_of_advanced ht, queue_of_advanced ht, cond_of_advanced ht, hslot, hseq,
    (testLoadOn_loadActs c load m).queue, h.slot, h.queue, h.seq]
  exact ⟨rfl, rfl, rfl⟩

/-- Settles O46: the counter after the test, the confirmation of a single crane, and the first and the second
confirmation of a tandem lift, whichever crane makes it. -/
theorem loadOnIsConfirmed : Obligations.LoadOnIsConfirmed := by
  refine ⟨?_, ?_, ?_⟩
  · intro s l tag load tip lr k h c r q n hab hpl hst hr hl hk hc _
    have hn : counted (loadOnQualifies s.settings.onFraction (expectedMass s c) load) r.counter = n := by
      rw [expectedMass_of_single hr hl hk]
      rfl
    obtain ⟨m, t, hm, hx, ht, hsends⟩ := hookReport_runs h tag hab hpl
    refine ⟨t, hx, fun hlt => ?_, fun hle => ?_, hm.cleared_keeps hst ht⟩
    · rw [hm.on_short_reply hst hc hn hlt] at hsends
      rw [hm.applied_of_on_short hst hc hn hlt] at ht
      exact ⟨(liftRec_of_advanced ht c).trans (hm.counted_mine n),
        (congrArg Condition.lots (cond_of_advanced ht)).trans (hm.counted_lots n), hsends⟩
    · have hmem : c ∈ LiftRef.cranes ⟨c, none⟩ := List.mem_singleton_self c
      rw [hm.applied_of_on_single hst hc hn hr hle] at ht hsends
      rw [hm.hoisted_reply hmem] at hsends
      refine ⟨(liftRec_of_advanced ht c).trans (hm.hoisted_mine hmem load), ?_, hsends, fun j => ?_⟩
      · rw [cond_of_advanced ht, hm.hoisted_lots hl hk]
        rfl
      · rw [notices_of_advanced ht, hm.hoisted_notices]
        simp [LiftRef.cranes, c]
  · intro s l tag load tip lr k share h c o hab hpl hst _ hlead hpartner _ _ hshare hl hk hc hq hle
    have hn : counted (loadOnQualifies s.settings.onFraction (expectedMass s c) load) (s.liftRec c).counter
        = (s.liftRec c).counter + 1 := by
      rw [expectedMass_of_share (not_single_of_tandem hlead hpartner) hshare]
      simp [counted, loadOnQualifies, hq]
    obtain ⟨m, t, hm, hx, ht, -⟩ := hookReport_runs h tag hab hpl
    refine ⟨t, hx, fun ho => ?_, fun first ho => ?_⟩
    · rw [hm.applied_of_on_first hst hc hn hlead hpartner hle ho] at ht
      have hmine : t.liftRec c = _ := (liftRec_of_advanced ht c).trans (hm.first_mine _)
      refine ⟨?_, ?_, ?_, (liftRec_of_advanced ht o).trans (hm.first_opposite _),
        (congrArg Condition.lots (cond_of_advanced ht)).trans hm.lots⟩
      · rw [hmine]
        exact hst
      · rw [hmine]
      · rw [hmine]
    · rw [hm.applied_of_on_second hst hc hn hlead hpartner hle ho] at ht
      refine ⟨fun j => ?_, ?_⟩
      · obtain ⟨hstate, hconf, hcount, -, -⟩ := hm.second_each _ c (load + first) j rfl
        rw [liftRec_of_advanced ht]
        exact ⟨hstate, hconf, hcount⟩
      · rw [cond_of_advanced ht, hm.hoisted_lots hl hk]
        rfl
  · intro s l tag load tip lr k share lead h c o n hab hpl hst _ hlead hpartner hshare hl hk hc
    have hn : counted (loadOnQualifies s.settings.onFraction (expectedMass s c) load) (s.liftRec c).counter = n := by
      rw [expectedMass_of_share (not_single_of_tandem hlead hpartner) hshare]
      simp [counted, loadOnQualifies, n]
    obtain ⟨m, t, hm, hx, ht, hsends⟩ := hookReport_runs h tag hab hpl
    refine ⟨t, hx, fun hlt => ?_, fun hle ho => ?_, fun first hle ho => ?_, hm.cleared_keeps hst ht⟩
    · rw [hm.on_short_reply hst hc hn hlt] at hsends
      rw [hm.applied_of_on_short hst hc hn hlt] at ht
      exact ⟨(liftRec_of_advanced ht c).trans (hm.counted_mine n),
        (liftRec_of_advanced ht o).trans (hm.counted_opposite n),
        (congrArg Condition.lots (cond_of_advanced ht)).trans (hm.counted_lots n), hsends⟩
    · rw [hm.applied_of_on_first hst hc hn hlead hpartner hle ho] at ht
      exact ⟨(liftRec_of_advanced ht c).trans (hm.first_mine n),
        (liftRec_of_advanced ht o).trans (hm.first_opposite n),
        (congrArg Condition.lots (cond_of_advanced ht)).trans hm.lots⟩
    · rw [hm.applied_of_on_second hst hc hn hlead hpartner hle ho] at ht hsends
      rw [hm.hoisted_reply (mem_tandem lead c)] at hsends
      refine ⟨fun j => ?_, ?_, hsends, fun j => ?_⟩
      · rw [liftRec_of_advanced ht]
        exact hm.second_each n lead (load + first) j rfl
      · rw [cond_of_advanced ht, hm.hoisted_lots hl hk]
        rfl
      · rw [notices_of_advanced ht, hm.hoisted_notices]
        simp only [lift_links_of_both (mem_tandem lead), ne_eq, ite_not]

end Sys2Proof.Machine
end

section
/-! The load off the hook confirmed, single and tandem, and the lift it completes (R151, R153). -/

namespace Sys2Proof.Machine

/-! ### A report tested for load-off (R151) -/

section
variable {s : State} {c : CraneId} {load : Nat}

theorem confirmOff_of_single {a : CraneId} (h : liftOf s c = ⟨a, none⟩) :
    confirmOff c s = liftOff ⟨a, none⟩ s := by
  simp [confirmOff, h]

theorem confirmOff_of_first {a b : CraneId} (h : liftOf s c = ⟨a, some b⟩)
    (ho : (s.liftRec c.opposite).offConfirmed = false) :
    confirmOff c s = s.onRec c (fun r => { r with offConfirmed := true }) := by
  simp [confirmOff, h, ho]

theorem confirmOff_of_second {a b : CraneId} (h : liftOf s c = ⟨a, some b⟩)
    (ho : (s.liftRec c.opposite).offConfirmed = true) : confirmOff c s = liftOff ⟨a, some b⟩ s := by
  simp [confirmOff, h, ho]

variable {n : Nat} (hc : (s.liftRec c).offConfirmed = false)
  (hn : counted (loadOffQualifies s.settings.offFraction (referenceMass s c) load) (s.liftRec c).counter = n)

include hc hn

theorem testLoadOff_of_short (hlt : n < s.settings.confirmCount) :
    testLoadOff c load s = s.onRec c (LiftRecord.counterAt n) := by
  simp [testLoadOff, hc, hn, hlt]

theorem testLoadOff_of_reached (hle : s.settings.confirmCount ≤ n) :
    testLoadOff c load s = confirmOff c (s.onRec c (LiftRecord.counterAt n)) := by
  simp [testLoadOff, hc, hn, hle]

end

theorem applyReport_of_carried {s : State} {c : CraneId}
    (h : (s.liftRec c).state = .hoisted ∨ (s.liftRec c).state = .lowering) (load : Nat) :
    applyReport c load s = testLoadOff c load s := by
  obtain h | h := h <;> rw [applyReport, h]

/-! ### The load off the hook (R151) -/

section
variable (r : LiftRef) (s : State)

theorem off_liftRec (d : CraneId) :
    (s.onRecs r.cranes LiftRecord.off).liftRec d = if d ∈ r.cranes then (s.liftRec d).off else s.liftRec d :=
  onRecs_liftRec (f := LiftRecord.off) (fun _ => rfl) _ _ _

theorem off_state (d : CraneId) : ((s.onRecs r.cranes LiftRecord.off).liftRec d).state = (s.liftRec d).state := by
  rw [off_liftRec]
  split <;> rfl

/-- R151: a LOWERING lift completes. -/
theorem liftOff_of_lowering (h : (s.liftRec r.lead).state = .lowering) :
    liftOff r s = completeLift r (s.onRecs r.cranes LiftRecord.off) :=
  if_pos ((off_state r s r.lead).trans h)

/-- R151: a lift that no report has landed is SET_DOWN. -/
theorem liftOff_of_not_lowering (h : (s.liftRec r.lead).state ≠ .lowering) : liftOff r s =
    latchLift r.cranes ((s.onRecs r.cranes LiftRecord.off).onRecs r.cranes
      (LiftRecord.setDown (tipNow s r.lead))) := by
  have htip : tipNow (s.onRecs r.cranes LiftRecord.off) r.lead = tipNow s r.lead := by simp [tipNow]
  rw [← htip]
  exact if_neg (by rwa [off_state])

variable (h : (s.liftRec r.lead).state ≠ .lowering)

include h

theorem setDown_liftRec {d : CraneId} (hd : d ∈ r.cranes) : (liftOff r s).liftRec d = { s.liftRec d with
    state := .setDown, counter := 0, offConfirmed := false, setDownTip := some (tipNow s r.lead) } := by
  have hlatch (u : State) : (latchLift r.cranes u).liftRec d = u.liftRec d := by simp [State.liftRec]
  rw [liftOff_of_not_lowering r s h, hlatch, onRecs_liftRec (f := LiftRecord.setDown _) fun _ => rfl,
    if_pos hd, off_liftRec, if_pos hd]
  rfl

theorem setDown_cond : (liftOff r s).cond = s.cond := by
  rw [liftOff_of_not_lowering r s h]
  simp

theorem setDown_slot : (liftOff r s).gate.slot = s.gate.slot := by
  rw [liftOff_of_not_lowering r s h]
  simp

theorem setDown_notices (j : Link) : ((liftOff r s).links.get j).notices = (s.links.get j).notices
    ||| (if j = .l0 ∨ j ∈ r.cranes.map CraneId.link then Event.lift.flag else 0#16) := by
  rw [liftOff_of_not_lowering r s h, latchLift_notices]
  simp

end

/-! ### What a report makes of a HOISTED or LOWERING lift (R151) -/

section
variable {c : CraneId} {load : Nat} {tip : Pos} {s m : State} (h : Reported c load tip s m) {n : Nat}
  (hst : (s.liftRec c).state = .hoisted ∨ (s.liftRec c).state = .lowering) (hc : (s.liftRec c).offConfirmed = false)
  (hn : counted (loadOffQualifies s.settings.offFraction (referenceMass s c) load) (s.liftRec c).counter = n)

include h hst hc hn

theorem Reported.applied_of_off_short (hlt : n < s.settings.confirmCount) :
    applyReport c load m = m.onRec c (LiftRecord.counterAt n) := by
  rw [applyReport_of_carried (by rwa [h.state])]
  refine testLoadOff_of_short ((h.offConfirmed c).trans hc) ?_ ?_
  · rw [h.frame.settings, h.referenceMass_eq, h.mine, hn]
  · rwa [h.frame.settings]

theorem Reported.applied_of_off_reached (hle : s.settings.confirmCount ≤ n) :
    applyReport c load m = confirmOff c (m.onRec c (LiftRecord.counterAt n)) := by
  rw [applyReport_of_carried (by rwa [h.state])]
  refine testLoadOff_of_reached ((h.offConfirmed c).trans hc) ?_ ?_
  · rw [h.frame.settings, h.referenceMass_eq, h.mine, hn]
  · rwa [h.frame.settings]

theorem Reported.applied_of_off_single (hr : (s.liftRec c).role = some .single) (hle : s.settings.confirmCount ≤ n) :
    applyReport c load m = liftOff ⟨c, none⟩ (m.onRec c (LiftRecord.counterAt n)) := by
  rw [h.applied_of_off_reached hst hc hn hle]
  refine confirmOff_of_single ?_
  rw [liftOf_counterAt, h.liftOf_eq, liftOf_of_single hr]

variable {lead : CraneId} (hlead : (s.liftRec lead).role = some .lead)
  (hpartner : (s.liftRec lead.opposite).role = some .partner) (hle : s.settings.confirmCount ≤ n)

include hlead hpartner hle

/-- R151: the first crane of a tandem lift is marked. -/
theorem Reported.applied_of_off_first (ho : (s.liftRec c.opposite).offConfirmed = false) : applyReport c load m =
    (m.onRec c (LiftRecord.counterAt n)).onRec c (fun r => { r with offConfirmed := true }) := by
  have hpairing : (s.liftRec c).state ≠ .pairing := by obtain hst | hst := hst <;> simp [hst]
  rw [h.applied_of_off_reached hst hc hn hle]
  refine confirmOff_of_first (a := lead) (b := lead.opposite) ?_ ?_
  · rw [liftOf_counterAt, h.liftOf_eq, liftOf_of_tandem hlead hpartner hpairing]
  · rw [h.counted_opposite, ho]

/-- R151: the load of a tandem lift is off at the second confirmation. -/
theorem Reported.applied_of_off_second (ho : (s.liftRec c.opposite).offConfirmed = true) :
    applyReport c load m = liftOff ⟨lead, some lead.opposite⟩ (m.onRec c (LiftRecord.counterAt n)) := by
  have hpairing : (s.liftRec c).state ≠ .pairing := by obtain hst | hst := hst <;> simp [hst]
  rw [h.applied_of_off_reached hst hc hn hle]
  refine confirmOff_of_second ?_ ?_
  · rw [liftOf_counterAt, h.liftOf_eq, liftOf_of_tandem hlead hpartner hpairing]
  · rw [h.counted_opposite, ho]

end

section
variable {c : CraneId} {load : Nat} {tip : Pos} {s m : State} (h : Reported c load tip s m)

include h

theorem Reported.tip_eq (d : CraneId) : tipNow m d = if d = c then tip else tipNow s d := by
  rw [tipNow, h.cond, perCrane_get_set]
  split <;> rfl

theorem Reported.off_first_mine (n : Nat) : ((m.onRec c (LiftRecord.counterAt n)).onRec c
    (fun r => { r with offConfirmed := true })).liftRec c =
      { s.liftRec c with counter := n, offConfirmed := true, lastReport := some s.time } := by
  rw [onRec_liftRec, if_pos rfl, h.counted_mine]

theorem Reported.off_first_opposite (n : Nat) : ((m.onRec c (LiftRecord.counterAt n)).onRec c
    (fun r => { r with offConfirmed := true })).liftRec c.opposite = s.liftRec c.opposite := by
  rw [onRec_liftRec, if_neg (opposite_ne c), h.counted_opposite]

theorem Reported.counted_state (n : Nat) (d : CraneId) :
    ((m.onRec c (LiftRecord.counterAt n)).liftRec d).state = (s.liftRec d).state := by
  rw [counterAt_liftRec]
  exact h.state d

/-- What a lift off the hook keeps of its record. -/
theorem Reported.off_same (r : LiftRef) (n : Nat) (d : CraneId) {u : State}
    (hu : u = (m.onRec c (LiftRecord.counterAt n)).onRecs r.cranes LiftRecord.off) :
    u.liftRec d = { s.liftRec d with
      counter := (u.liftRec d).counter, offConfirmed := (u.liftRec d).offConfirmed,
      lastReport := (u.liftRec d).lastReport } := by
  rw [hu, off_liftRec, counterAt_liftRec, h.same d]
  split <;> rfl

/-- R151, R153: a LOWERING lift off the hook completes, and PLAN advances with ACTUAL. -/
theorem Reported.completes {r : LiftRef} (hnd : r.cranes.Nodup) (hc : c ∈ r.cranes) (n : Nat)
    (hcl : (s.liftRec c).state = .lowering) (hlow : (s.liftRec r.lead).state = .lowering)
    {lr : LotRef} {dir : Direction} {place : Landing} {k : Lot} (hl : (s.liftRec r.lead).lot = some lr)
    (hd : (s.liftRec r.lead).dir = some dir) (hp : (s.liftRec r.lead).landing = some place)
    (hk : tget s.cond.lots lr.slot = some k) {t : State}
    (happly : applyReport c load m = liftOff r (m.onRec c (LiftRecord.counterAt n)))
    (ht : t.standing = (advance true (decide ((s.liftRec c).state = .lowering
      ∧ ((applyReport c load m).liftRec c).state = .idle)) (applyReport c load m)).standing) :
    Landed r dir place lr k s t := by
  let u := (m.onRec c (LiftRecord.counterAt n)).onRecs r.cranes LiftRecord.off
  have hcomplete : applyReport c load m = completeLift r u :=
    happly.trans (liftOff_of_lowering r _ ((h.counted_state n _).trans hlow))
  have hidle : ((completeLift r u).liftRec c).state = .idle := by
    have hsilent := completeLift_silent hnd u c
    rw [if_pos hc] at hsilent
    exact (congrArg LiftRecord.state hsilent :)
  have hfrom : LandsFrom r s u := ((h.landsFrom hc).trans (.onRec hc (fun _ => by rfl) m)).trans
    (.onRecs (fun _ hx => hx) (fun _ => by rfl) _)
  have hsame := h.off_same r n r.lead (u := u) rfl
  rw [hcomplete, decide_eq_true ⟨hcl, hidle⟩] at ht
  exact (completeLift_landed hnd hfrom hl ((congrArg LiftRecord.dir hsame).trans hd)
    ((congrArg LiftRecord.landing hsame).trans hp) hk).congr ht

end

section
variable {c : CraneId} {load : Nat} {tip : Pos} {s m : State} (h : Reported c load tip s m) {r : LiftRef}
  (hh : (s.liftRec r.lead).state = .hoisted) (n : Nat)

include h hh

/-- R151: what the load off the hook leaves of a HOISTED lift. -/
theorem Reported.setDown_each {d : CraneId} (hd : d ∈ r.cranes) :
    (liftOff r (m.onRec c (LiftRecord.counterAt n))).liftRec d =
      { s.liftRec d with
        state := .setDown, counter := 0, offConfirmed := false
        setDownTip := some (if r.lead = c then tip else tipNow s r.lead)
        lastReport := (m.liftRec d).lastReport } := by
  have hne : ((m.onRec c (LiftRecord.counterAt n)).liftRec r.lead).state ≠ .lowering := by
    rw [h.counted_state, hh]
    decide
  rw [setDown_liftRec r _ hne hd, counterAt_liftRec, h.same d, ← h.tip_eq]
  rfl

theorem Reported.setDown_keeps : (liftOff r (m.onRec c (LiftRecord.counterAt n))).cond.lots = s.cond.lots
    ∧ (liftOff r (m.onRec c (LiftRecord.counterAt n))).gate.slot = s.gate.slot
    ∧ ∀ j, ((liftOff r (m.onRec c (LiftRecord.counterAt n))).links.get j).notices = (s.links.get j).notices
      ||| (if j = .l0 ∨ j ∈ r.cranes.map CraneId.link then Event.lift.flag else 0#16) := by
  have hne : ((m.onRec c (LiftRecord.counterAt n)).liftRec r.lead).state ≠ .lowering := by
    rw [h.counted_state, hh]
    decide
  refine ⟨?_, (setDown_slot r _ hne).trans h.slot, fun j => ?_⟩
  · rw [setDown_cond r _ hne]
    exact h.lots
  · rw [setDown_notices r _ hne]
    exact congrArg (· ||| _) (h.notices j)

end

theorem singleton_nodup (c : CraneId) : (LiftRef.cranes ⟨c, none⟩).Nodup := List.nodup_singleton c

/-- Settles O47: the counter after the test; the lift set down or completed at a single crane's confirmation; and the
first and the second confirmation of a tandem lift, whichever crane makes it. -/
theorem loadOffIsConfirmed : Obligations.LoadOffIsConfirmed := by
  refine ⟨?_, ?_⟩
  · intro s l tag load tip lr k dir place h c r q n hab hpl hst hr hl hd hk hc hp
    have hn : counted (loadOffQualifies s.settings.offFraction (referenceMass s c) load) r.counter = n := by
      rw [referenceMass_of_single hr hl hk]
      rfl
    have hmem : c ∈ LiftRef.cranes ⟨c, none⟩ := List.mem_singleton_self c
    obtain ⟨m, t, hm, hx, ht, -⟩ := hookReport_runs h tag hab hpl
    refine ⟨t, hx, fun hlt => ?_, fun hle hh => ?_, fun hle hlow => ?_⟩
    · rw [hm.applied_of_off_short hst hc hn hlt] at ht
      exact ⟨(liftRec_of_advanced ht c).trans (hm.counted_mine n),
        (congrArg Condition.lots (cond_of_advanced ht)).trans (hm.counted_lots n),
        (slot_of_advanced ht).trans hm.slot⟩
    · rw [hm.applied_of_off_single hst hc hn hr hle] at ht
      obtain ⟨hlots, hslot, -⟩ := hm.setDown_keeps (r := ⟨c, none⟩) hh n
      refine ⟨?_, (congrArg Condition.lots (cond_of_advanced ht)).trans hlots, (slot_of_advanced ht).trans hslot⟩
      rw [liftRec_of_advanced ht, hm.setDown_each hh n hmem, hm.mine, if_pos rfl]
    · have hland : Landed ⟨c, none⟩ dir place lr k s t := hm.completes (singleton_nodup c) hmem n hlow hlow hl hd
        (hp hlow) hk (hm.applied_of_off_single hst hc hn hr hle) ht
      obtain ⟨hidle, -, hlot, -, -, -, -, hlast⟩ := hland.cranes c hmem
      obtain ⟨hslot, -⟩ := hland.slot
      obtain ⟨-, hplan⟩ := hland.gens
      rw [show (s.liftRec c).lot = some lr from hl] at hlast
      exact ⟨hidle, hlot, hlast, hplan, fun hmine => hslot.trans (if_pos hmine), hland.loaded, hland.left,
        hland.unloaded, hland.kept, hland⟩
  · intro s l tag load tip lr k dir place share lead h c o st n down hab hpl hst hsame hlead hpartner hshare hl hd hk
      hc hp
    have hn : counted (loadOffQualifies s.settings.offFraction (referenceMass s c) load) (s.liftRec c).counter = n := by
      rw [referenceMass_of_share (not_single_of_tandem hlead hpartner) hshare]
      simp [counted, loadOffQualifies, n]
    have hboth (d : CraneId) : (s.liftRec d).state = st := by
      obtain rfl | rfl := eq_or_eq_opposite d c
      · rfl
      · exact hsame
    obtain ⟨m, t, hm, hx, ht, -⟩ := hookReport_runs h tag hab hpl
    refine ⟨t, hx, ?_, fun hlt => ?_, fun hle ho => ?_, fun hle ho hh => ?_, fun hle ho hlow => ?_⟩
    · rw [cond_of_advanced ht, (applyReport_loadActs c load m).hooks, hm.cond]
    · rw [hm.applied_of_off_short hst hc hn hlt] at ht
      exact ⟨(liftRec_of_advanced ht c).trans (hm.counted_mine n),
        (liftRec_of_advanced ht o).trans (hm.counted_opposite n),
        (congrArg Condition.lots (cond_of_advanced ht)).trans (hm.counted_lots n),
        (slot_of_advanced ht).trans hm.slot⟩
    · rw [hm.applied_of_off_first hst hc hn hlead hpartner hle ho] at ht
      exact ⟨(liftRec_of_advanced ht c).trans (hm.off_first_mine n),
        (liftRec_of_advanced ht o).trans (hm.off_first_opposite n),
        (congrArg Condition.lots (cond_of_advanced ht)).trans hm.lots, (slot_of_advanced ht).trans hm.slot⟩
    · rw [hm.applied_of_off_second hst hc hn hlead hpartner hle ho] at ht
      have hhl : (s.liftRec lead).state = .hoisted := (hboth lead).trans hh
      obtain ⟨hlots, hslot, hnotices⟩ := hm.setDown_keeps (r := ⟨lead, some lead.opposite⟩) hhl n
      refine ⟨?_, ?_, (congrArg Condition.lots (cond_of_advanced ht)).trans hlots, (slot_of_advanced ht).trans hslot,
        fun j => ?_⟩
      · rw [liftRec_of_advanced ht, hm.setDown_each hhl n (mem_tandem lead c), hm.mine]
        rfl
      · rw [liftRec_of_advanced ht, hm.setDown_each hhl n (mem_tandem lead o), hm.opposite]
        rfl
      · rw [notices_of_advanced ht, hnotices]
        simp only [lift_links_of_both (mem_tandem lead), ne_eq, ite_not]
    · exact hm.completes (tandem_nodup lead) (mem_tandem lead c) n hlow ((hboth lead).trans hlow) hl hd (hp hlow) hk
        (hm.applied_of_off_second hst hc hn hlead hpartner hle ho) ht

end Sys2Proof.Machine
end

section
/-! Landing Report, by the state of the lift and the role of its crane (R152, R153). -/

namespace Sys2Proof.Machine

theorem advanceActual_standing_congr {s s' : State} (h : s.standing = s'.standing) :
    (advanceActual s).standing = (advanceActual s').standing :=
  (congrArg (fun x => (advanceActual x).standing) h :)

/-! ### The landing that a report gives (R152) -/

theorem reportedLanding_eq {a : LandingArgs} {place : Landing}
    (habo : a.aboard = true → a.location.map Landing.aboard = some place) (hash : a.aboard = false → place = .ashore) :
    reportedLanding a = place := by
  cases hab : a.aboard
  · rw [hash hab]
    simp [reportedLanding, hab]
  · obtain ⟨loc, hloc, hplace⟩ := Option.map_eq_some_iff.mp (habo hab)
    simp [reportedLanding, hab, hloc, hplace]

/-- R152: the landing is recorded of a HOISTED lift, and every crane of it is LOWERING. -/
theorem beginLowering_single (c : CraneId) (place : Landing) (s : State) : beginLowering ⟨c, none⟩ place s =
    latchLift [c] { s with gate := { s.gate with
      recs := s.gate.recs.set c { s.liftRec c with state := .lowering, landing := some place } } } := by
  cases c <;> rfl

theorem beginLowering_tandem (c : CraneId) (place : Landing) (s : State) :
    beginLowering ⟨c, some c.opposite⟩ place s =
      latchLift [c, c.opposite] { s with gate := { s.gate with
        recs := (s.gate.recs.set c { s.liftRec c with state := .lowering, landing := some place }).set
          c.opposite { s.liftRec c.opposite with state := .lowering } } } := by
  cases c <;> rfl

/-! ### The body of the command, by the state of the crane -/

section
variable {l : Link} {a : LandingArgs} {s : State}

theorem bodyLandingReport_of_bad (h : landingOk s.ship a = false) : bodyLandingReport l a s = refuse .badValue s :=
  if_pos (by simp [h])

section
variable (h : landingOk s.ship a = true)

include h

theorem bodyLandingReport_of_other (hh : (s.liftRec (craneOf l)).state ≠ .hoisted)
    (hs : (s.liftRec (craneOf l)).state ≠ .setDown) : bodyLandingReport l a s = refuse .state s := by
  simp only [bodyLandingReport, h, Bool.not_true, Bool.false_eq_true, if_false]

theorem bodyLandingReport_of_partner
    (hst : (s.liftRec (craneOf l)).state = .hoisted ∨ (s.liftRec (craneOf l)).state = .setDown)
    (hr : (s.liftRec (craneOf l)).role = some .partner) :
    bodyLandingReport l a s = (s, .quiet (Reply.bare .done)) := by
  obtain hst | hst := hst <;> simp [bodyLandingReport, h, hst, hr]

theorem bodyLandingReport_of_hoisted (hst : (s.liftRec (craneOf l)).state = .hoisted)
    (hr : (s.liftRec (craneOf l)).role ≠ some .partner) : bodyLandingReport l a s =
      doneWith (advanceActual (beginLowering (liftOf s (craneOf l)) (reportedLanding a) s)) := by
  simp [bodyLandingReport, h, hst, hr, advance]

theorem bodyLandingReport_of_setDown (hst : (s.liftRec (craneOf l)).state = .setDown)
    (hr : (s.liftRec (craneOf l)).role ≠ some .partner) : bodyLandingReport l a s =
      doneWith (advance true true (completeLift (liftOf s (craneOf l))
        (s.onRec (craneOf l) (LiftRecord.landedAs (reportedLanding a))))) := by
  simp [bodyLandingReport, h, hst, hr]

end

end

/-! ### The command (R152, R153) -/

section
variable {s : State} {l : Link} {a : LandingArgs} (h : Ready s l (.landingReport a)) (tag : Byte)
  (hok : landingOk s.ship a = true) (hr : (s.liftRec (craneOf l)).role ≠ some .partner)

include h hok hr

/-- R152: a report of a HOISTED lift, by the records that it leaves. -/
theorem landingReport_lowers (hst : (s.liftRec (craneOf l)).state = .hoisted) {cs : List CraneId}
    {recs : PerCrane LiftRecord}
    (hb : ∀ u : State, u.gate = s.gate → beginLowering (liftOf s (craneOf l)) (reportedLanding a) u =
      latchLift cs { u with gate := { s.gate with recs := recs } }) :
    Completes (.landingReport l tag a) l s
      (advanceActual (latchLift cs { s with gate := { s.gate with recs := recs } }))
      (replyFrame (Reply.bare .done) 0x43#8 tag) := by
  let u := s.onLink l (LinkUnit.reserve 0x43#8 tag)
  have hbody : bodyLandingReport l a u =
      doneWith (advanceActual (latchLift cs { u with gate := { s.gate with recs := recs } })) := by
    rw [← hb u rfl]
    exact bodyLandingReport_of_hoisted (s := u) hok hst hr
  refine command_reply h hbody ?_ (advanceActual_standing_congr (latchOn_standing_congr ?_))
  · exact holds_latchOn (holds_reserve h.none l 0x43#8 tag)
  · exact (congrArg (fun x : State => { x with gate := { s.standing.gate with recs := recs } })
      (reserve_standing l 0x43#8 tag s) :)

/-- R152, R153: a report of a SET_DOWN lift completes it, the landing recorded of its lead. -/
theorem landingReport_completes (hst : (s.liftRec (craneOf l)).state = .setDown) :
    ∃ m t, exec (.landingReport l tag a) s = .next t
      ∧ t.standing = (advance true true (completeLift (liftOf s (craneOf l)) m)).standing
      ∧ t.sends l (replyFrame (Reply.bare .done) 0x43#8 tag)
      ∧ LandsFrom (liftOf s (craneOf l)) s m ∧ (m.liftRec (craneOf l)).dir = (s.liftRec (craneOf l)).dir
      ∧ (m.liftRec (craneOf l)).landing = some (reportedLanding a) ∧ m.cond = s.cond := by
  let u := s.onLink l (LinkUnit.reserve 0x43#8 tag)
  let m := u.onRec (craneOf l) (LiftRecord.landedAs (reportedLanding a))
  have hacts := completeLift_loadActs (liftOf s (craneOf l)) m
  obtain ⟨t, hx, ht, hsends⟩ := command_reply h (bodyLandingReport_of_setDown (s := u) hok hst hr) (by
    rw [advance_links]
    exact hacts.holds l _ _ (holds_reserve h.none l 0x43#8 tag)) rfl
  have hmem : craneOf l ∈ (liftOf s (craneOf l)).cranes := mem_liftOf_cranes hr
  have hmine : m.liftRec (craneOf l) = (s.liftRec (craneOf l)).landedAs (reportedLanding a) := by
    rw [onRec_liftRec, if_pos rfl]
    rfl
  refine ⟨m, t, hx, ht, hsends, ?_, ?_, ?_, rfl⟩
  · exact (LandsFrom.reserve _ l 0x43#8 tag s).trans (.onRec hmem (fun _ => by rfl) u)
  · rw [hmine]
    rfl
  · rw [hmine]
    rfl

end

section
variable {c : CraneId} {s m t : State} {r : LiftRef} (hfrom : LandsFrom r s m)
  (ht : t.standing = (advance true true (completeLift r m)).standing)

include hfrom ht

/-- R153: a lift that completes, whether or not its lot is in the table. -/
theorem completes_cranes (hnd : r.cranes.Nodup) (hc : c ∈ r.cranes) : (t.liftRec c).state = .idle
    ∧ (t.liftRec c).lastOutcome =
      some { kind := .completed, lot := codeOr LotRef.id (s.liftRec c).lot, reason := none } := by
  have hsilent := completeLift_silent hnd m c
  rw [if_pos hc] at hsilent
  rw [liftRec_of_advanced ht, ← hfrom.lot c]
  exact ⟨congrArg LiftRecord.state hsilent, congrArg LiftRecord.lastOutcome hsilent⟩

theorem completes_slot : t.gate.slot = if s.gate.slot = some r then none else s.gate.slot := by
  rw [slot_of_advanced ht, completeLift_slot, hfrom.slot]

theorem completes_gens : t.eval.actual.gen = s.eval.actual.gen + 1 ∧ t.eval.plan.gen = s.eval.plan.gen + 1 := by
  have hacts := completeLift_loadActs r m
  rw [actualGen_of_standing ht, planGen_of_standing ht, advance_actualGen, advance_planGen, hacts.actual, hacts.plan,
    hfrom.actual, hfrom.plan]
  exact ⟨rfl, rfl⟩

/-- R153: the lot of a completed lift is where the lift's landing puts it. -/
theorem completes_cond {lr : LotRef} {dir : Direction} {place : Landing} (hl : (s.liftRec r.lead).lot = some lr)
    (hd : (m.liftRec r.lead).dir = some dir) (hp : (m.liftRec r.lead).landing = some place) :
    t.cond = (landLot dir place lr m).cond := by
  rw [cond_of_advanced ht, completeLift_cond, lotLanded_eq ((hfrom.lot _).trans hl) hd hp]

end

theorem not_partner_of_leads {s : State} {c : CraneId}
    (h : (s.liftRec c).role = some .single ∨ (s.liftRec c).role = some .lead) :
    (s.liftRec c).role ≠ some .partner := by
  obtain h | h := h <;> simp [h]

/-- Settles O48: the body's branches, by the state of the crane and its role; a lift that completes is `Landed`. -/
theorem landingReportCompletes : Obligations.LandingReportCompletes := by
  intro s l tag a h c r i
  refine ⟨fun hbad => command_quiet h (bodyLandingReport_of_bad hbad), fun hok => ⟨fun hh hs => ?_, fun hst hr => ?_,
    fun hst hr => ?_, fun hst hr => ?_, fun place habo hash => ⟨fun hst hr => ?_, fun lr k dir hst hr hl hd hk => ?_⟩⟩⟩
  · exact command_quiet h (bodyLandingReport_of_other (s := s.onLink l _) hok hh hs)
  · exact command_quiet h (bodyLandingReport_of_partner (s := s.onLink l _) hok hst hr)
  · refine landingReport_lowers h tag hok (not_partner_of_leads (.inl hr)) hst fun u hu => ?_
    rw [liftOf_of_single hr, beginLowering_single, State.liftRec, hu]
    rfl
  · obtain ⟨m, t, hx, ht, hsends, hfrom, hdir, hland, hcond⟩ :=
      landingReport_completes h tag hok (not_partner_of_leads (.inl hr)) hst
    rw [liftOf_of_single hr] at ht hfrom
    obtain ⟨hidle, hlast⟩ := completes_cranes hfrom ht (singleton_nodup c) (List.mem_singleton_self c)
    obtain ⟨hactual, hplan⟩ := completes_gens hfrom ht
    refine ⟨t, hx, hsends, hidle, hlast, fun hmine => (completes_slot hfrom ht).trans (if_pos hmine), hactual, hplan,
      fun lr k loc hl hd hk habo hloc => ?_, fun lr hl hd hash => ?_⟩
    · have hplace : reportedLanding a = .aboard loc := by simp [reportedLanding, habo, hloc]
      rw [completes_cond hfrom ht hl (hdir.trans hd) (hland.trans (congrArg some hplace)), ← hcond]
      exact (landLot_aboard (hcond ▸ hk) .load loc).left
    · have hplace : reportedLanding a = .ashore := by simp [reportedLanding, hash]
      rw [completes_cond hfrom ht hl (hdir.trans hd) (hland.trans (congrArg some hplace)), ← hcond]
      exact (landLot_discharge_ashore m lr).left
  · refine landingReport_lowers h tag hok (not_partner_of_leads (.inr hr)) hst fun u hu => ?_
    rw [liftOf_of_lead hr (by simp [hst]), beginLowering_tandem, reportedLanding_eq habo hash, State.liftRec,
      State.liftRec, hu]
    rfl
  · have hne : (s.liftRec c).role ≠ some .partner := not_partner_of_leads hr
    have hlift : liftOf s c = ⟨c, if (s.liftRec c).role = some .lead then some c.opposite else none⟩ := by
      obtain hr | hr := hr
      · rw [liftOf_of_single hr, hr]
        rfl
      · rw [liftOf_of_lead hr (by simp [hst]), hr]
        rfl
    obtain ⟨m, t, hx, ht, hsends, hfrom, hdir, hland, hcond⟩ := landingReport_completes h tag hok hne hst
    refine ⟨t, hx, hsends, ?_, ?_⟩
    · rw [cond_of_advanced ht, (completeLift_loadActs _ m).hooks, hcond]
    · rw [← hlift]
      have hlead : (liftOf s c).lead = c := liftOf_lead hne
      refine (completeLift_landed (liftOf_cranes_nodup s c) hfrom ?_ ?_ ?_ hk).congr ht
      · rw [hlead, hl]
      · rw [hlead, hdir, hd]
      · rw [hlead, hland, reportedLanding_eq habo hash]

end Sys2Proof.Machine
end

section
/-! Predictions delivered to the lift gate: an entry stopped, held or granted, and the clearance re-checked (R140, R143,
R145). -/

namespace Sys2Proof.Machine

/-! ### A prediction delivered to a lift entry (R140, R143) -/

section
variable {r : LiftRef} {s : State} (hst : (s.liftRec r.lead).state = .requested)
  (hq : GateEntry.lift r ∈ s.gate.queue) {tainted : Bool}

include hst hq

theorem deliverLift_of_stopped {why : Pending} (hstop : liftStop s r tainted = some why) (worst : Option CheckClass) :
    deliverLift r tainted worst s = s.onRecs r.cranes (setReason why) := by
  simp [deliverLift, hst, hq, hstop]

theorem deliverLift_of_blocked {c : CheckClass} (hstop : liftStop s r tainted = none) :
    deliverLift r tainted (some c) s = s.onRecs r.cranes (setReason (.limits c)) := by
  simp [deliverLift, hst, hq, hstop]

theorem deliverLift_of_clear (hstop : liftStop s r tainted = none) :
    deliverLift r tainted none s = grantLift r s := by
  simp [deliverLift, hst, hq, hstop]

end

/-- R140: a lift that no step stops finds the exclusive slot free. -/
theorem slot_of_not_stopped {s : State} {r : LiftRef} {tainted : Bool} (h : liftStop s r tainted = none) :
    s.gate.slot = none := by
  cases hslot : s.gate.slot
  · rfl
  · simp [liftStop, hslot] at h

theorem setReason_liftRec {r : LiftRef} {c : CraneId} (hc : c ∈ r.cranes) (why : Pending) (s : State) :
    (s.onRecs r.cranes (setReason why)).liftRec c = { s.liftRec c with reason := some why } := by
  rw [onRecs_liftRec (f := setReason why) fun _ => rfl, if_pos hc]
  rfl

/-- R140, R143: an entry that waits on is told why, and nothing else moves. -/
theorem reasoned_leaves {r : LiftRef} {why : Pending} {s t : State}
    (h : t.standing = (s.onRecs r.cranes (setReason why)).standing) :
    (∀ c ∈ r.cranes, t.liftRec c = { s.liftRec c with reason := some why }) ∧ t.gate.slot = s.gate.slot
      ∧ t.gate.queue = s.gate.queue ∧ t.eval.actual.gen = s.eval.actual.gen := by
  refine ⟨fun c hc => ?_, ?_, ?_, ?_⟩
  · rw [liftRec_of_standing h, setReason_liftRec hc]
  · rw [slot_of_standing h, onRecs_gate_slot]
  · rw [queue_of_standing h, onRecs_gate_queue]
  · rw [actualGen_of_standing h, onRecs_eval]

section
variable (r : LiftRef) (s : State)

theorem grantLift_liftRec {c : CraneId} (hc : c ∈ r.cranes) : (grantLift r s).liftRec c =
    { s.liftRec c with state := .cleared, counter := 0, timer := some s.time, reason := none } := by
  have hrec : (grantLift r s).liftRec c =
      ((leaveQueue (.lift r) s).onRecs r.cranes (LiftRecord.cleared s.time)).liftRec c := by
    simp [State.liftRec, grantLift, leaveQueue]
  rw [hrec, onRecs_liftRec (f := LiftRecord.cleared s.time) fun _ => rfl, if_pos hc]
  rfl

theorem grantLift_gate : (grantLift r s).gate.slot = some r
    ∧ (grantLift r s).gate.queue = s.gate.queue.filter (fun e => decide (e ≠ .lift r)) := by
  simp [grantLift, leaveQueue]

theorem grantLift_actualGen : (grantLift r s).eval.actual.gen = s.eval.actual.gen + 1 := by
  simp [grantLift, leaveQueue, advanceActual, CtxState.advance]

theorem grantLift_notices (j : Link) : ((grantLift r s).links.get j).notices = (s.links.get j).notices
    ||| (if j = .l0 ∨ j ∈ r.cranes.map CraneId.link then Event.lift.flag else 0#16) := by
  have hlinks : (grantLift r s).links = (latchLift r.cranes
      (((leaveQueue (.lift r) s).onRecs r.cranes (LiftRecord.cleared s.time)).setSlot (some r))).links := by
    simp [grantLift, leaveQueue]
  rw [hlinks, latchLift_notices]
  simp [leaveQueue]

end

/-- What a delivery to a lift entry leaves alone. -/
theorem deliverLift_leaves (r : LiftRef) (tainted : Bool) (worst : Option CheckClass) (s : State) :
    (deliverLift r tainted worst s).cond = s.cond ∧ (deliverLift r tainted worst s).ballast = s.ballast
      ∧ (deliverLift r tainted worst s).mode = s.mode ∧ Untouched s (deliverLift r tainted worst s) := by
  have hreason (why : Pending) : Untouched s (s.onRecs r.cranes (setReason why)) := by
    refine ⟨?_, ?_, ?_, ?_, ?_, ?_, ?_, ?_, ?_, ?_, ?_, ?_, ?_⟩
    all_goals simp
  unfold deliverLift
  split
  · exact ⟨rfl, rfl, rfl, .refl s⟩
  · split
    · exact ⟨by simp, by simp, by simp, hreason _⟩
    · split
      · exact ⟨by simp, by simp, by simp, hreason _⟩
      · refine ⟨?_, ?_, ?_, ?_, ?_, ?_, ?_, ?_, ?_, ?_, ?_, ?_, ?_, ?_, ?_, ?_⟩
        all_goals simp [grantLift, leaveQueue]

/-! ### The re-check delivered (R145) -/

theorem standingClearance_of_cleared {s : State} {r : LiftRef} (hslot : s.gate.slot = some r)
    (hst : (s.liftRec r.lead).state = .cleared) : standingClearance s = some r := by
  simp [standingClearance, hslot, hst]

theorem deliverRecheck_of_clear {s : State} {r : LiftRef} (h : standingClearance s = some r) :
    deliverRecheck false none s = s := by
  simp [deliverRecheck, h]

theorem deliverRecheck_of_blocked {s : State} {r : LiftRef} (h : standingClearance s = some r) {tainted : Bool}
    {worst : Option CheckClass} (hb : tainted = true ∨ worst ≠ none) :
    ∃ why, deliverRecheck tainted worst s = decisionRound (requeueLift r why s) := by
  cases tainted with
  | true => exact ⟨.stale, by simp [deliverRecheck, h, withdrawClearance_eq]⟩
  | false =>
    obtain ⟨c, rfl⟩ := Option.ne_none_iff_exists'.mp (hb.resolve_left Bool.false_ne_true)
    exact ⟨.limits c, by simp [deliverRecheck, h, withdrawClearance_eq]⟩

section
variable {r : LiftRef} {why : Pending} {s t : State} (h : RoundLeaves (requeueLift r why s) t)

include h

/-- R145: the cranes of a withdrawn clearance wait again. -/
theorem withdrawn_cranes {c : CraneId} (hc : c ∈ r.cranes) : (t.liftRec c).state = .requested
    ∧ (t.liftRec c).counter = 0 ∧ (t.liftRec c).confirmed = none ∧ (t.liftRec c).timer = some s.time
    ∧ t.gate.stale.get c = false := by
  have hsilent := h.reasons c
  rw [requeueLift_liftRec, if_pos hc] at hsilent
  refine ⟨(congrArg LiftRecord.state hsilent :), (congrArg LiftRecord.counter hsilent :),
    (congrArg LiftRecord.confirmed hsilent :), (congrArg LiftRecord.timer hsilent :), ?_⟩
  rw [h.form]
  simp [requeueLift, clearStale_get, hc]

theorem withdrawn_gate : t.gate.slot = none ∧ t.gate.queue = .lift r :: s.gate.queue
    ∧ t.eval.actual.gen = s.eval.actual.gen + 1 := by
  rw [h.slot, h.queue, h.actual]
  simp [requeueLift, advanceActual, CtxState.advance]

theorem withdrawn_notices (j : Link) : (t.links.get j).notices = (s.links.get j).notices
    ||| (if j = .l0 ∨ j ∈ r.cranes.map CraneId.link then Event.lift.flag else 0#16) := by
  rw [h.links, requeueLift_notices]

theorem withdrawn_leaves : t.cond = s.cond ∧ t.mode = s.mode ∧ Untouched s t := by
  have hacts := requeueLift_gateActs r why s
  exact ⟨h.cond.trans hacts.cond, h.mode.trans hacts.mode, hacts.frame.trans h.untouched⟩

end

/-! ### The statement -/

theorem unitFreed_untouched (s : State) : Untouched s (unitFreed s) := untouched_of_standing rfl

section
variable {s : State} {p : Prediction} (hp : s.powered = true) (hu : s.eval.unit = .predicting p)
  (hphase : p.phase = .landed) (hgen : p.gen = s.eval.actual.gen)

include hp hu hphase hgen

/-- R79: the delivery to the lift of a crane. -/
theorem liftPrediction_delivers {lead : CraneId} (hkey : p.key = .lift lead) :
    Becomes .predictionCompletion s
      (deliverLift (liftOf s lead) p.tainted (blocking s.settings (liftJudgement s.ship p)) (unitFreed s)) := by
  have hx := predictionCompletion_delivers hp hu (by simp [hphase]) hgen
  rw [deliver, hkey] at hx
  exact ⟨_, hx, settle_standing _⟩

/-- R79: the delivery to the standing clearance. -/
theorem recheckPrediction_delivers (hkey : p.key = .recheck) : Becomes .predictionCompletion s
    (deliverRecheck p.tainted (blocking s.settings (liftJudgement s.ship p)) (unitFreed s)) := by
  have hx := predictionCompletion_delivers hp hu (by simp [hphase]) hgen
  rw [deliver, hkey] at hx
  exact ⟨_, hx, settle_standing _⟩

end

/-- Settles O59: the delivery to an entry by the step that stops it, the class that holds it or the grant; the
delivery of a re-check by the clearance that stands or is withdrawn. -/
theorem liftPredictionsDeliver : Obligations.LiftPredictionsDeliver := by
  refine ⟨?_, ?_⟩
  · intro s p lead hp hu hphase hkey hgen r blocked hst hq
    obtain ⟨t, hx, ht⟩ := liftPrediction_delivers hp hu hphase hgen hkey
    obtain ⟨hcond, hballast, hmode, hframe⟩ := deliverLift_leaves r p.tainted blocked (unitFreed s)
    refine ⟨t, hx, fun why hstop => ?_, fun c' hstop hb => ?_, fun hstop hb => ?_, (cond_of_standing ht).trans hcond,
      (ballast_of_standing ht).trans hballast, (mode_of_standing ht).trans hmode,
      ((unitFreed_untouched s).trans hframe).trans (untouched_of_standing ht)⟩
    · rw [deliverLift_of_stopped (s := unitFreed s) hst hq hstop] at ht
      exact reasoned_leaves (s := unitFreed s) ht
    · rw [show blocking s.settings (liftJudgement s.ship p) = some c' from hb,
        deliverLift_of_blocked (s := unitFreed s) hst hq hstop] at ht
      obtain ⟨hrecs, hslot, hqueue, hactual⟩ := reasoned_leaves ht
      exact ⟨hrecs, hslot.trans (slot_of_not_stopped hstop), hqueue, hactual⟩
    · rw [show blocking s.settings (liftJudgement s.ship p) = none from hb,
        deliverLift_of_clear (s := unitFreed s) hst hq hstop] at ht
      obtain ⟨hslot, hqueue⟩ := grantLift_gate r (unitFreed s)
      refine ⟨fun c hc => (liftRec_of_standing ht c).trans (grantLift_liftRec r _ hc),
        (slot_of_standing ht).trans hslot, (queue_of_standing ht).trans hqueue,
        (actualGen_of_standing ht).trans (grantLift_actualGen r _),
        fun j => (notices_of_standing ht j).trans (grantLift_notices r _ j)⟩
  · intro s p r hp hu hphase hkey hgen hslot hst blocked
    obtain ⟨t, hx, ht⟩ := recheckPrediction_delivers hp hu hphase hgen hkey
    have hclear : standingClearance (unitFreed s) = some r := standingClearance_of_cleared hslot hst
    refine ⟨fun htaint hb => ?_, fun hb => ?_⟩
    · rw [htaint, show blocking s.settings (liftJudgement s.ship p) = none from hb,
        deliverRecheck_of_clear hclear] at ht
      exact ⟨t, hx, ht⟩
    · obtain ⟨why, hwhy⟩ := deliverRecheck_of_blocked hclear hb
      rw [hwhy] at ht
      have hround := decisionRound_leaves (requeueLift r why (unitFreed s))
      obtain ⟨hfree, hqueue, hactual⟩ := withdrawn_gate hround
      obtain ⟨hcond, hmode, hframe⟩ := withdrawn_leaves hround
      refine ⟨t, hx, fun c hc => ?_, (slot_of_standing ht).trans hfree, (queue_of_standing ht).trans hqueue,
        (actualGen_of_standing ht).trans hactual,
        fun j => (notices_of_standing ht j).trans (withdrawn_notices hround j), (cond_of_standing ht).trans hcond,
        (mode_of_standing ht).trans hmode, ((unitFreed_untouched s).trans hframe).trans (untouched_of_standing ht)⟩
      rw [liftRec_of_standing ht, stale_of_standing ht]
      exact withdrawn_cranes hround hc

end Sys2Proof.Machine
end

section
/-! The ends of a transfer: timeout, cancel and end (R167, R169 to R171). -/

namespace Sys2Proof.Machine

/-! ### A transfer removed (R171) -/

/-- What the end of a transfer, under the record `e`, leaves of the state: the transfer is gone from the table, its tank
ends are free and not stale, and its record stands newest in the log. -/
def transferGone (id : Nat) (x : Transfer) (e : EndRecord) (s : State) : State :=
  { s with
    cond :=
      { s.cond with
        tanks := x.tankEnds.foldl
          (fun ts k => tput ts k { (tget ts k).getD TankRow.fresh with transfer := none, stale := false })
          s.cond.tanks }
    ballast :=
      { s.ballast with
        transfers := tdrop s.ballast.transfers id
        log := (e :: s.ballast.log).take 4 } }

theorem transferEnded_standing (id : Nat) (x : Transfer) (kind : EndKind) (s : State) :
    (transferEnded id x kind s).standing =
      (leaveQueue (.transfer id) (transferGone id x (endRecord s.time id x kind) s)).standing := by
  unfold transferEnded
  dsimp only
  rw [releaseTanks_form, releaseTanks_tanks]
  rfl

/-- An end removes the transfer and its entry of the queue, and latches TRANSFER on L3 and L0. -/
theorem removeTransfer_standing (id : Nat) (x : Transfer) (kind : EndKind) (s : State) :
    (removeTransfer id x kind s).standing =
      (latchOn .transfer [.l3, .l0]
        (leaveQueue (.transfer id) (transferGone id x (endRecord s.time id x kind) s))).standing := by
  rw [removeTransfer_eq]
  exact latchOn_standing_congr (transferEnded_standing id x kind s)

theorem leaveQueue_of_not_mem {e : GateEntry} {s : State} (h : e ∉ s.gate.queue) : leaveQueue e s = s := by
  have hq : s.gate.queue.filter (fun x => decide (x ≠ e)) = s.gate.queue :=
    List.filter_eq_self.mpr fun x hx => decide_eq_true fun hxe => h (hxe ▸ hx)
  rw [leaveQueue, hq]
  rfl

theorem removeTransfer_standing_congr {s s' : State} (h : s.standing = s'.standing) (id : Nat) (x : Transfer)
    (kind : EndKind) : (removeTransfer id x kind s).standing = (removeTransfer id x kind s').standing := by
  rw [removeTransfer_standing, removeTransfer_standing]
  exact latchOn_standing_congr (congrArg (fun u : State =>
    (leaveQueue (.transfer id) (transferGone id x (endRecord u.time id x kind) u)).standing) h :)

section
variable {s : State} {id : Nat} {x : Transfer} (hx : tget s.ballast.transfers id = some x)

include hx

/-! ### A transfer that is REQUESTED (R167, R170) -/

section
variable {reason : Pending} {timer : Count32} (hp : x.phase = .requested reason timer)

include hp

theorem transferDue_of_requested :
    transferDue s id = decide (s.settings.requestTimeout ≤ age s.time timer) := by
  simp only [transferDue, hx, Option.map_some, hp]

theorem bodyEndTransfer_of_requested : bodyEndTransfer id s = refuse .state s := by
  simp only [bodyEndTransfer, hx, hp]

theorem bodyCancelTransfer_of_requested :
    bodyCancelTransfer id s = doneWith (removeTransfer id x .cancelled s) := by
  simp only [bodyCancelTransfer, hx, hp]

end

/-! ### A transfer that is GRANTED (R169, R170) -/

section
variable {ss sd : Option Nat} {time : Count32} {amount : Nat} {mark : Bool}
  (hp : x.phase = .granted ss sd time amount mark)

include hp

theorem bodyEndTransfer_of_granted : bodyEndTransfer id s = endGranted id x .ended amount mark s := by
  simp only [bodyEndTransfer, hx, hp]

theorem bodyCancelTransfer_of_granted : bodyCancelTransfer id s = endGranted id x .cancelled amount mark s := by
  simp only [bodyCancelTransfer, hx, hp]

end

theorem timeoutTransfer_of_some : timeoutTransfer id s = removeTransfer id x .timeout s := by
  simp only [timeoutTransfer, hx]

end

section
variable {s : State} {id : Nat} (hx : tget s.ballast.transfers id = none)

include hx

theorem bodyEndTransfer_of_none : bodyEndTransfer id s = refuse .notFound s := by
  simp only [bodyEndTransfer, hx]

theorem bodyCancelTransfer_of_none : bodyCancelTransfer id s = refuse .notFound s := by
  simp only [bodyCancelTransfer, hx]

end

/-! ### A request that ends a transfer -/

section
variable {s : State} {l : Link} {r : Request} {tag : Byte} {body : State → State × Answer} {id : Nat} {x : Transfer}
  {kind : EndKind} (h : Ready s l r)

include h

/-- R170: a ready request whose body removes a REQUESTED transfer completes so. -/
theorem command_removes (hb : body (s.onLink l (LinkUnit.reserve r.kind tag)) =
      doneWith (removeTransfer id x kind (s.onLink l (LinkUnit.reserve r.kind tag)))) :
    ∃ t, command l tag r body s = .next t ∧ t.standing = (removeTransfer id x kind s).standing
      ∧ t.sends l (replyFrame (Reply.bare .done) r.kind tag) :=
  command_reply h hb ((removeTransfer_endsPending id x kind _).holds l _ tag (holds_reserve h.none l r.kind tag))
    (removeTransfer_standing_congr (reserve_standing l r.kind tag s) id x kind)

/-- R169, R170: a ready request whose body ends a GRANTED transfer completes so. -/
theorem command_endsGranted {amount : Nat} {mark : Bool}
    (hb : body (s.onLink l (LinkUnit.reserve r.kind tag)) =
      endGranted id x kind amount mark (s.onLink l (LinkUnit.reserve r.kind tag))) :
    ∃ t, command l tag r body s = .next t ∧ t.standing = (advanceActual (removeTransfer id x kind s)).standing
      ∧ t.sends l (replyFrame ⟨.done, amountImage amount mark⟩ r.kind tag) :=
  command_reply h hb ((removeTransfer_endsPending id x kind _).holds l _ tag (holds_reserve h.none l r.kind tag))
    (advanceActual_standing_congr (removeTransfer_standing_congr (reserve_standing l r.kind tag s) id x kind))

end

/-- R171: the record of a GRANTED transfer carries its amount and its overrun mark, and no pending reason. -/
theorem endRecord_of_granted {x : Transfer} {ss sd : Option Nat} {time : Count32} {amount : Nat} {mark : Bool}
    (hp : x.phase = .granted ss sd time amount mark) (now : Count32) (id : Nat) (kind : EndKind) :
    endRecord now id x kind =
      { id := id, source := x.source, dest := x.dest, planned := x.planned, kind := kind, reason := none,
        amount := some amount, overrun := mark, time := now } := by
  simp only [endRecord, hp]

/-- R171: the record of a REQUESTED transfer carries its pending reason when it timed out. -/
theorem endRecord_of_requested {x : Transfer} {reason : Pending} {timer : Count32}
    (hp : x.phase = .requested reason timer) (now : Count32) (id : Nat) (kind : EndKind) :
    endRecord now id x kind =
      { id := id, source := x.source, dest := x.dest, planned := x.planned, kind := kind,
        reason := if kind = .timeout then some reason else none, amount := none, overrun := false, time := now } := by
  simp only [endRecord, hp]

theorem exec_transferRequestTimeout (id : Nat) (s : State) : exec (.transferRequestTimeout id) s =
    dueEvent (fun s => transferDue s id) (timeoutTransfer id) s := rfl

/-- Settles O52: every end is `removeTransfer`, whose state `removeTransfer_standing` says, under the record that the
phase and the kind of the end give. -/
theorem transfersEnd : Obligations.TransfersEnd := by
  refine ⟨fun s id x reason timer hx hp => ?_, fun s l tag id => ⟨fun hx => ?_, ?_⟩⟩
  · intro after
    have hremoved (kind : EndKind) : (removeTransfer id x kind s).standing =
        (after kind (if kind = .timeout then some reason else none)).standing := by
      rw [removeTransfer_standing, endRecord_of_requested hp]
      rfl
    refine ⟨fun hpow hdue => ?_, fun hearly => ?_, fun l tag h => ?_, fun l tag h => ?_⟩
    · refine ⟨_, (exec_transferRequestTimeout id s).trans (dueEvent_due hpow ?_), ?_⟩
      · rw [transferDue_of_requested hx hp]
        exact decide_eq_true hdue
      · rw [settle_standing, timeoutTransfer_of_some hx]
        exact hremoved .timeout
    · rw [exec_transferRequestTimeout]
      refine dueEvent_not ?_
      rw [transferDue_of_requested hx hp]
      exact decide_eq_false (Nat.not_le.mpr hearly)
    · obtain ⟨t, hexec, hst, hsends⟩ := command_removes (tag := tag) h
        (bodyCancelTransfer_of_requested (s := s.onLink l _) hx hp)
      exact ⟨t, hexec, hst.trans (hremoved .cancelled), hsends⟩
    · exact command_quiet h (bodyEndTransfer_of_requested (s := s.onLink l _) hx hp)
  · exact ⟨fun h => command_quiet h (bodyEndTransfer_of_none (s := s.onLink l _) hx),
      fun h => command_quiet h (bodyCancelTransfer_of_none (s := s.onLink l _) hx)⟩
  · intro x ss sd time amount mark hx hp hq after
    have hremoved (kind : EndKind) :
        (advanceActual (removeTransfer id x kind s)).standing = (after kind).standing := by
      refine advanceActual_standing_congr ?_
      rw [removeTransfer_standing, leaveQueue_of_not_mem (s := transferGone id x _ s) hq, endRecord_of_granted hp]
      rfl
    refine ⟨fun h => ?_, fun h => ?_⟩
    · obtain ⟨t, hexec, hst, hsends⟩ := command_endsGranted (tag := tag) h
        (bodyEndTransfer_of_granted (s := s.onLink l _) hx hp)
      exact ⟨t, hexec, hst.trans (hremoved .ended), hsends⟩
    · obtain ⟨t, hexec, hst, hsends⟩ := command_endsGranted (tag := tag) h
        (bodyCancelTransfer_of_granted (s := s.onLink l _) hx hp)
      exact ⟨t, hexec, hst.trans (hremoved .cancelled), hsends⟩

end Sys2Proof.Machine
end

section
/-! Request Transfer: its checks in their order and its acceptance (R161 to R164). -/

namespace Sys2Proof.Machine

/-! ### What states that stand alike share of a context -/

theorem ctxGen_of_standing {s t : State} (h : t.standing = s.standing) (c : Ctx) : (t.ctx c).gen = (s.ctx c).gen := by
  have hc := congrArg (fun x : State => (x.ctx c).gen) h
  simpa only [standing_ctx, CtxState.standing] using hc

theorem RoundLeaves.ctx {s t : State} (h : RoundLeaves s t) (c : Ctx) : t.ctx c = s.ctx c := by
  rw [h.form]
  cases c <;> rfl

/-! ### Rows of the tank table -/

theorem tankRow_setTankRow (k : Nat) (r : TankRow) (s : State) (j : Nat) :
    (s.setTankRow k r).tankRow j = if j = k then r else s.tankRow j := by
  simp only [State.tankRow, State.setTankRow, State.setTanks, tget_tput]
  split <;> rfl

theorem setTankTransfers_form (v : Option Nat) (ks : List Nat) (s : State) :
    ks.foldl (setTankTransfer v) s =
      { s with cond := { s.cond with tanks := (ks.foldl (setTankTransfer v) s).cond.tanks } } := by
  induction ks generalizing s with
  | nil => rfl
  | cons k ks ih => exact ih (setTankTransfer v s k)

/-- R161: the transfer field of each tank named is written, and no other row changes. -/
theorem setTankTransfers_tankRow (v : Option Nat) (ks : List Nat) (s : State) (k : Nat) :
    (ks.foldl (setTankTransfer v) s).tankRow k =
      if k ∈ ks then { s.tankRow k with transfer := v } else s.tankRow k := by
  induction ks generalizing s with
  | nil => rfl
  | cons m ks ih =>
    rw [List.foldl_cons, ih, setTankTransfer, tankRow_setTankRow]
    by_cases hk : k = m
    · subst k
      by_cases hks : m ∈ ks <;> simp [hks]
    · simp [hk]

/-! ### The checks (R162) -/

/-- The tank ends of a transfer from `x` to `y`, which neither its mass nor its phase moves. -/
abbrev endTanks (x y : End) (m : Nat) : List Nat := Transfer.tankEnds ⟨x, y, m, .requested .none 0⟩

section
variable {s : State} {a b m : Nat}

theorem transferEnds_of_bad (h : endOf a = none ∨ endOf b = none ∨ endOf a = endOf b ∨ m = 0) :
    transferEnds a b m = none := by
  unfold transferEnds
  split
  · rename_i x y hx hy
    exact if_pos (by simpa [hx, hy] using h)
  · rfl

theorem bodyRequestTransfer_of_bad_ends (h : transferEnds a b m = none) :
    bodyRequestTransfer a b m s = refuse .badValue s := by
  simp only [bodyRequestTransfer, h]

variable {x y : End} (h : transferEnds a b m = some (x, y))

include h

theorem bodyRequestTransfer_of_unwritten (hk : ∃ k ∈ endTanks x y m, tget s.ship.tanks k = none) :
    bodyRequestTransfer a b m s = refuse .notFound s := by
  simp only [bodyRequestTransfer, h]
  exact if_pos (by simpa [State.tankGeom?, endTanks] using hk)

variable (hk : ∀ k ∈ endTanks x y m, tget s.ship.tanks k ≠ none)

include hk

/-- R162: past step 2 the tank ends are judged by their rows. -/
theorem bodyRequestTransfer_of_written : bodyRequestTransfer a b m s =
    if (endTanks x y m).any (fun k => decide ((s.tankRow k).source ≠ .gauged) || (s.tankRow k).transfer.isSome) then
      refuse .state s
    else if !amountsOk s x y m then refuse .badValue s
    else if Config.maxTransfers ≤ s.ballast.transfers.length then refuse .full s
    else acceptTransfer x y m s := by
  simp only [bodyRequestTransfer, h]
  refine if_neg ?_
  simpa [State.tankGeom?, endTanks] using hk

theorem bodyRequestTransfer_of_busy
    (hr : ∃ k ∈ endTanks x y m, (s.tankRow k).source ≠ .gauged ∨ (s.tankRow k).transfer ≠ none) :
    bodyRequestTransfer a b m s = refuse .state s := by
  rw [bodyRequestTransfer_of_written h hk]
  exact if_pos (by simpa [Option.isSome_iff_ne_none] using hr)

variable (hr : ∀ k ∈ endTanks x y m, (s.tankRow k).source = .gauged ∧ (s.tankRow k).transfer = none)

include hr

/-- R162: past step 3 the amounts and the free entries decide. -/
theorem bodyRequestTransfer_of_free : bodyRequestTransfer a b m s =
    if !amountsOk s x y m then refuse .badValue s
    else if Config.maxTransfers ≤ s.ballast.transfers.length then refuse .full s
    else acceptTransfer x y m s := by
  rw [bodyRequestTransfer_of_written h hk]
  exact if_neg (by simpa using hr)

theorem bodyRequestTransfer_of_bad_amounts (hm : amountsOk s x y m = false) :
    bodyRequestTransfer a b m s = refuse .badValue s := by
  rw [bodyRequestTransfer_of_free h hk hr, hm]
  rfl

theorem bodyRequestTransfer_of_full (hm : amountsOk s x y m = true) (hlen : 4 ≤ s.ballast.transfers.length) :
    bodyRequestTransfer a b m s = refuse .full s := by
  rw [bodyRequestTransfer_of_free h hk hr, hm]
  exact if_pos hlen

theorem bodyRequestTransfer_accepts (hm : amountsOk s x y m = true) (hlen : s.ballast.transfers.length < 4) :
    bodyRequestTransfer a b m s = acceptTransfer x y m s := by
  rw [bodyRequestTransfer_of_free h hk hr, hm]
  exact if_neg (Nat.not_le.mpr hlen)

end

/-! ### The acceptance (R163, R164) -/

/-- The id that a transfer accepted now takes (R161). -/
def State.nextTransfer (s : State) : Nat := nextFreeId s.ballast.transfers 4 s.ballast.nextId

/-- R163: an accepted transfer as it is entered in the table. -/
def askedTransfer (x y : End) (m : Nat) (s : State) : Transfer :=
  { source := x, dest := y, planned := m, phase := .requested .none s.time }

/-- R163: what an accepted request makes of the state before the round that it starts. -/
def transferAsked (x y : End) (m : Nat) (s : State) : State :=
  let s' := (endTanks x y m).foldl (setTankTransfer (some s.nextTransfer))
    { s with
      ballast :=
        { s.ballast with
          transfers := tput s.ballast.transfers s.nextTransfer (askedTransfer x y m s)
          nextId := idAfter s.nextTransfer } }
  s'.setQueue (s'.gate.queue ++ [.transfer s.nextTransfer])

section
variable (x y : End) (m : Nat) (s : State)

theorem acceptTransfer_eq : acceptTransfer x y m s =
    (decisionRound (transferAsked x y m s), .reply ⟨.accepted, encU 1 s.nextTransfer⟩) := rfl

/-- R163: an accepted request enters the tank ends, the transfer and its entry of the queue, and nothing else. -/
theorem transferAsked_form : transferAsked x y m s =
    { s with
      cond := { s.cond with tanks := (transferAsked x y m s).cond.tanks }
      ballast :=
        { s.ballast with
          transfers := tput s.ballast.transfers s.nextTransfer (askedTransfer x y m s)
          nextId := idAfter s.nextTransfer }
      gate := { s.gate with queue := s.gate.queue ++ [.transfer s.nextTransfer] } } := by
  unfold transferAsked
  dsimp only
  rw [setTankTransfers_form]
  rfl

theorem transferAsked_ballast : (transferAsked x y m s).ballast =
    { s.ballast with
      transfers := tput s.ballast.transfers s.nextTransfer (askedTransfer x y m s)
      nextId := idAfter s.nextTransfer } := by
  rw [transferAsked_form]

theorem transferAsked_queue :
    (transferAsked x y m s).gate.queue = s.gate.queue ++ [.transfer s.nextTransfer] := by
  rw [transferAsked_form]

theorem transferAsked_links : (transferAsked x y m s).links = s.links := by
  rw [transferAsked_form]

theorem transferAsked_untouched : Untouched s (transferAsked x y m s) := by
  rw [transferAsked_form]
  exact ⟨rfl, rfl, rfl, rfl, rfl, rfl, rfl, ⟨rfl, rfl⟩, ⟨rfl, rfl⟩, rfl, rfl, rfl, rfl⟩

theorem transferAsked_tankRow (k : Nat) : (transferAsked x y m s).tankRow k =
    if k ∈ endTanks x y m then { s.tankRow k with transfer := some s.nextTransfer } else s.tankRow k :=
  setTankTransfers_tankRow (some s.nextTransfer) (endTanks x y m) _ k

/-- R164: the round writes at most the pending reason of the new transfer. -/
theorem acceptTransfer_entered : ∃ reason,
    tget (decisionRound (transferAsked x y m s)).ballast.transfers s.nextTransfer =
      some { source := x, dest := y, planned := m, phase := .requested reason s.time } := by
  have hq : GateEntry.transfer s.nextTransfer ∈ (transferAsked x y m s).gate.queue := by simp [transferAsked_queue]
  rw [decisionRound_transfer hq, transferAsked_ballast, tget_tput_self, Option.map_some]
  cases ruling (transferAsked x y m s) (.transfer s.nextTransfer) with
  | none => exact ⟨.none, rfl⟩
  | some p => exact ⟨p, rfl⟩

/-- R164: what the round leaves of the next id and of the log. -/
theorem acceptTransfer_counts : (decisionRound (transferAsked x y m s)).ballast.nextId = idAfter s.nextTransfer
    ∧ (decisionRound (transferAsked x y m s)).ballast.log = s.ballast.log := by
  rw [decisionRound_form]
  simp only [transferAsked_ballast, and_self]

end

/-- Settles O51: the checks by the branches of the body, and the acceptance by the state before its round
(`transferAsked`), of which the round changes no more than the pending reason (`acceptTransfer_entered`). -/
theorem requestTransferCompletes : Obligations.RequestTransferCompletes := by
  have hends {a b m : Nat} {x y : End} (hx : endOf a = some x) (hy : endOf b = some y) (hne : x ≠ y) (hm : m ≠ 0) :
      transferEnds a b m = some (x, y) := by simp [transferEnds, hx, hy, hne, hm]
  refine ⟨fun s l tag a b m h => ?_, fun s l tag a b m x y h hx hy hne hm => ?_⟩
  · intro no
    have hno {st : Status} (hb : bodyRequestTransfer a b m (s.onLink l (LinkUnit.reserve 0x49#8 tag)) =
        refuse st (s.onLink l (LinkUnit.reserve 0x49#8 tag))) : no st := command_quiet h hb
    refine ⟨fun hbad => hno (bodyRequestTransfer_of_bad_ends (transferEnds_of_bad hbad)), ?_⟩
    intro x y hx hy hne hm tanks
    have he := hends hx hy hne hm
    exact ⟨fun hk => hno (bodyRequestTransfer_of_unwritten he hk),
      fun hk => ⟨fun hr => hno (bodyRequestTransfer_of_busy he hk hr),
      fun hr => ⟨fun ha => hno (bodyRequestTransfer_of_bad_amounts he hk hr ha),
      fun ha hlen => hno (bodyRequestTransfer_of_full he hk hr ha hlen)⟩⟩⟩
  · intro tanks id hk ha hlen
    let u := s.onLink l (LinkUnit.reserve 0x49#8 tag)
    have hbody : bodyRequestTransfer a b m u = acceptTransfer x y m u :=
      bodyRequestTransfer_accepts (s := u) (hends hx hy hne hm) (fun k hmem => (hk k hmem).1)
        (fun k hmem => (hk k hmem).2) ha hlen
    have hround := decisionRound_leaves (transferAsked x y m u)
    have hold : ((decisionRound (transferAsked x y m u)).links.get l).holds 0x49#8 tag := by
      rw [hround.links, transferAsked_links]
      exact holds_reserve h.none l 0x49#8 tag
    obtain ⟨t, hexec, hst, hsends⟩ := command_reply h (hbody.trans (acceptTransfer_eq x y m u)) hold rfl
    obtain ⟨hnext, hlog⟩ := acceptTransfer_counts x y m u
    have hcond : t.cond = { s.cond with tanks := (transferAsked x y m u).cond.tanks } := by
      rw [cond_of_standing hst, hround.cond, transferAsked_form]
      rfl
    refine ⟨t, hexec, hsends, ?_, ?_, ?_, fun k => ?_, ?_, ?_, ?_, ?_, fun c => ?_, ?_, ?_⟩
    · rw [ballast_of_standing hst]
      exact acceptTransfer_entered x y m u
    · rw [ballast_of_standing hst, hnext]
      rfl
    · rw [ballast_of_standing hst, hlog]
      rfl
    · rw [State.tankRow, hcond]
      exact transferAsked_tankRow x y m u k
    · rw [queue_of_standing hst, hround.queue, transferAsked_queue]
      rfl
    · rw [hcond]
    · rw [hcond]
    · rw [hcond]
    · rw [ctxGen_of_standing hst, hround.ctx, transferAsked_form]
      cases c <;> rfl
    · rw [mode_of_standing hst, hround.mode, transferAsked_form]
      rfl
    · exact (((onLink_untouched l _ s).trans (transferAsked_untouched x y m u)).trans hround.untouched).trans
        (untouched_of_standing hst)

end Sys2Proof.Machine
end

section
/-! Readings of tanks: what one does to its tank and to the transfer that involves it (R157 to R160, R168). -/

namespace Sys2Proof.Machine

/-! ### States that stand alike -/

section
variable {s t : State} (h : t.standing = s.standing)

include h

theorem recs_of_standing : t.gate.recs = s.gate.recs := (congrArg (fun x : State => x.gate.recs) h :)

theorem gateStale_of_standing : t.gate.stale = s.gate.stale := (congrArg (fun x : State => x.gate.stale) h :)

theorem suspension_of_standing : t.monitor.suspension = s.monitor.suspension :=
  (congrArg (fun x : State => x.monitor.suspension) h :)

theorem listOf_of_standing (c : Ctx) : listOf t c = listOf s c := by
  cases c
  · exact (congrArg (fun x : State => x.monitor.actual) h :)
  · exact (congrArg (fun x : State => x.monitor.plan) h :)
  · exact (congrArg (fun x : State => x.monitor.trial) h :)

end

theorem advance_actualGen_eq (a p : Bool) (s : State) :
    (advance a p s).eval.actual.gen = if a then s.eval.actual.gen + 1 else s.eval.actual.gen := by
  cases a
  · cases p
    · rfl
    · exact congrArg CtxState.gen (advancePlan_actual s)
  · exact advance_actualGen p s

theorem listOf_advance (a p : Bool) (s : State) (c : Ctx) : listOf (advance a p s) c = listOf s c := by
  cases c <;> simp [listOf]

theorem advancePlan_standing_congr {s s' : State} (h : s.standing = s'.standing) :
    (advancePlan s).standing = (advancePlan s').standing := by
  have hframes : s.frames = s'.frames := (congrArg State.frames h :)
  by_cases hf : s.frames.isEmpty = true
  · have hf' : s'.frames.isEmpty = true := hframes ▸ hf
    simp only [advancePlan, hf, hf', if_true]
    exact (congrArg (fun x => ({ x with eval := { x.eval with plan := x.eval.plan.advance } } : State).standing) h :)
  · have hf' : ¬ s'.frames.isEmpty = true := hframes ▸ hf
    simp only [advancePlan, hf, hf']
    exact (congrArg (fun x =>
      (advanceTrial { x with eval := { x.eval with plan := x.eval.plan.advance } }).standing) h :)

theorem advance_standing_congr {s s' : State} (h : s.standing = s'.standing) (a p : Bool) :
    (advance a p s).standing = (advance a p s').standing := by
  cases a <;> cases p
  · exact h
  · exact advancePlan_standing_congr h
  · exact advanceActual_standing_congr h
  · exact advancePlan_standing_congr (advanceActual_standing_congr h)

theorem grantedFor_congr {s t : State} {k : Nat} (hrow : (t.tankRow k).transfer = (s.tankRow k).transfer)
    (hb : t.ballast = s.ballast) : grantedFor t k = grantedFor s k := by
  unfold grantedFor
  rw [hrow, hb]

/-! ### The progress of a transfer (R168) -/

/-- R168: the transfer under `id`, GRANTED, with an amount and an overrun mark recorded. -/
def State.recordAmount (id : Nat) (x : Transfer) (ss sd : Option Nat) (time : Count32) (m : Nat) (mark : Bool)
    (s : State) : State :=
  s.setTransfers (tput s.ballast.transfers id { x with phase := .granted ss sd time m mark })

theorem measure_of_none {k : Nat} {s : State} (h : grantedFor s k = none) : measure k s = s := by
  simp only [measure, h]

section
variable {s : State} {k id : Nat} {x : Transfer} {ss sd : Option Nat} {time : Count32} {amount : Nat} {mark : Bool}
  (ht : (s.tankRow k).transfer = some id) (hx : tget s.ballast.transfers id = some x)
  (hp : x.phase = .granted ss sd time amount mark)

include ht hx hp

theorem grantedFor_of_granted : grantedFor s k = some (id, x) := by
  simp only [grantedFor, ht, hx, hp]

/-- R168: the amount and the mark are recorded, and TRANSFER is latched when the mark becomes set. -/
theorem measure_of_granted {m : Nat} (hm : amountAfter x ss sd amount k (s.tankRow k).contents = m) :
    measure k s =
      if overruns s.settings.overrunTol x.planned m && !mark then
        latchTransfer (s.recordAmount id x ss sd time m (mark || overruns s.settings.overrunTol x.planned m))
      else s.recordAmount id x ss sd time m (mark || overruns s.settings.overrunTol x.planned m) := by
  subst hm
  simp only [measure, grantedFor_of_granted ht hx hp, hp]
  rfl

theorem measure_ballast : (measure k s).ballast =
    (s.recordAmount id x ss sd time (amountAfter x ss sd amount k (s.tankRow k).contents)
      (mark || overruns s.settings.overrunTol x.planned
        (amountAfter x ss sd amount k (s.tankRow k).contents))).ballast := by
  rw [measure_of_granted ht hx hp rfl]
  split <;> simp

end

/-- R168: a reading writes of the transfer's progress the table and, by a latch, the links. -/
theorem measure_form (k : Nat) (s : State) : measure k s =
    { s with
      links := (measure k s).links
      ballast := { s.ballast with transfers := (measure k s).ballast.transfers } } := by
  unfold measure
  split
  · rfl
  split
  · rfl
  dsimp only
  split
  · rw [latchTransfer, latchOn_form]
    rfl
  · rfl

theorem measure_standing_congr {s s' : State} (h : s.standing = s'.standing) (k : Nat) :
    (measure k s).standing = (measure k s').standing := by
  have hcond : s.cond = s'.cond := (congrArg State.cond h :)
  have hballast : s.ballast = s'.ballast := (congrArg State.ballast h :)
  have hsettings : s.settings = s'.settings := (congrArg State.settings h :)
  have hrow : s.tankRow k = s'.tankRow k := by rw [State.tankRow, hcond, State.tankRow]
  have hput (ts : Table Transfer) : (s.setTransfers ts).standing = (s'.setTransfers ts).standing :=
    (congrArg (fun x => (x.setTransfers ts).standing) h :)
  unfold measure
  rw [grantedFor_congr (congrArg TankRow.transfer hrow) hballast, hrow, hballast, hsettings]
  split
  · exact h
  split
  · exact h
  dsimp only
  split
  · exact latchOn_standing_congr (hput _)
  · exact hput _

theorem measure_holds {l : Link} {kind tag : Byte} {s : State} (h : (s.links.get l).holds kind tag) (k : Nat) :
    ((measure k s).links.get l).holds kind tag := by
  unfold measure
  split
  · exact h
  split
  · exact h
  dsimp only
  split
  · exact holds_latchOn h
  · exact h

/-! ### The judgement of a reading (R158) -/

section
variable {d : ShipData} {r : Reading}

theorem judgeReading_of_density (h : densityOk r.density = false) : judgeReading d r = .discardedDensity := by
  simp [judgeReading, h]

variable (h : densityOk r.density = true)

include h

theorem judgeReading_of_unwritten (hg : tget d.tanks r.tank = none) : judgeReading d r = .discardedTank := by
  simp [judgeReading, h, hg]

theorem judgeReading_of_written {g : TankGeom} (hg : tget d.tanks r.tank = some g) :
    judgeReading d r = if capacityMass g r.density < r.contents then .clamped else .accepted := by
  simp [judgeReading, h, hg]

theorem taken_of_written {g : TankGeom} (hg : tget d.tanks r.tank = some g) : (judgeReading d r).taken = true := by
  rw [judgeReading_of_written h hg]
  split <;> rfl

end

/-- R158: a reading is taken of a written tank at a density within its range. -/
theorem taken_iff {d : ShipData} {r : Reading} :
    (judgeReading d r).taken = true ↔ densityOk r.density = true ∧ ∃ g, tget d.tanks r.tank = some g := by
  refine ⟨fun h => ?_, fun ⟨hd, g, hg⟩ => taken_of_written hd hg⟩
  cases hd : densityOk r.density with
  | false => simp [judgeReading_of_density hd, ReadingOutcome.taken] at h
  | true =>
    cases hg : tget d.tanks r.tank with
    | none => simp [judgeReading_of_unwritten hd hg, ReadingOutcome.taken] at h
    | some g => exact ⟨rfl, g, rfl⟩

/-! ### One reading (R158 to R160) -/

/-- R158, R160: the row of a tank after the reading `r` is taken of it at the capacity mass `cap`. -/
def TankRow.gauged (now : Count32) (cap : Nat) (r : Reading) (row : TankRow) : TankRow :=
  { row with
    contents := min r.contents cap, density := r.density, source := .gauged, time := now
    clamped := decide (cap < r.contents), stale := false }

/-- The state after a reading is recorded in its tank, before the transfer that involves the tank is measured. -/
def State.gaugeTank (cap : Nat) (r : Reading) (s : State) : State :=
  s.setTankRow r.tank ((s.tankRow r.tank).gauged s.time cap r)

theorem gaugeTank_tankRow (cap : Nat) (r : Reading) (s : State) (k : Nat) :
    (s.gaugeTank cap r).tankRow k = if k = r.tank then (s.tankRow k).gauged s.time cap r else s.tankRow k := by
  rw [State.gaugeTank, tankRow_setTankRow]
  split
  · subst k
    rfl
  · rfl

/-- A reading leaves every transfer field, so the same transfers involve the same tanks after it. -/
theorem gaugeTank_grantedFor (cap : Nat) (r : Reading) (s : State) (k : Nat) :
    grantedFor (s.gaugeTank cap r) k = grantedFor s k := by
  refine grantedFor_congr ?_ rfl
  rw [gaugeTank_tankRow]
  split <;> rfl

section
variable {d : ShipData} {r : Reading} (s : State)

theorem takeReading_of_discarded (h : (judgeReading d r).taken = false) : takeReading d r s = s := by
  unfold takeReading
  cases hj : judgeReading d r <;> simp [hj, ReadingOutcome.taken] at h ⊢

theorem takeReading_of_written {g : TankGeom} (h : densityOk r.density = true) (hg : tget d.tanks r.tank = some g) :
    takeReading d r s = measure r.tank (s.gaugeTank (capacityMass g r.density) r) := by
  unfold takeReading
  rw [judgeReading_of_written h hg, hg]
  by_cases hc : capacityMass g r.density < r.contents
  · simp [hc, State.gaugeTank, TankRow.gauged, TankRow.read, Nat.min_eq_right (Nat.le_of_lt hc)]
  · simp [hc, State.gaugeTank, TankRow.gauged, TankRow.read, Nat.min_eq_left (Nat.not_lt.mp hc)]

/-- What one reading can do: nothing when it is discarded, else the record in its tank and the measure of its
transfer. -/
theorem takeReading_cases (d : ShipData) (r : Reading) (s : State) :
    ((judgeReading d r).taken = false ∧ takeReading d r s = s)
    ∨ ∃ g, densityOk r.density = true ∧ tget d.tanks r.tank = some g
      ∧ takeReading d r s = measure r.tank (s.gaugeTank (capacityMass g r.density) r) := by
  cases ht : (judgeReading d r).taken with
  | false => exact .inl ⟨rfl, takeReading_of_discarded s ht⟩
  | true =>
    obtain ⟨hd, g, hg⟩ := taken_iff.mp ht
    exact .inr ⟨g, hd, hg, takeReading_of_written s hd hg⟩

end

/-- A reading writes rows of tanks, the table of transfers and, by a latch, the links. -/
theorem takeReading_form (d : ShipData) (r : Reading) (s : State) : takeReading d r s =
    { s with
      links := (takeReading d r s).links
      cond := { s.cond with tanks := (takeReading d r s).cond.tanks }
      ballast := { s.ballast with transfers := (takeReading d r s).ballast.transfers } } := by
  obtain ⟨-, h⟩ | ⟨g, -, -, h⟩ := takeReading_cases d r s
  · rw [h]
  · rw [h, measure_form]
    rfl

theorem measure_tankRow (j : Nat) (s : State) (k : Nat) : (measure j s).tankRow k = s.tankRow k := by
  rw [measure_form]
  rfl

theorem takeReading_standing_congr {s s' : State} (h : s.standing = s'.standing) (d : ShipData) (r : Reading) :
    (takeReading d r s).standing = (takeReading d r s').standing := by
  obtain ⟨ht, hs⟩ | ⟨g, hd, hg, hs⟩ := takeReading_cases d r s
  · rw [hs, takeReading_of_discarded s' ht]
    exact h
  · rw [hs, takeReading_of_written s' hd hg]
    exact measure_standing_congr (s := s.gaugeTank _ r) (s' := s'.gaugeTank _ r)
      (congrArg (fun x : State => (x.gaugeTank (capacityMass g r.density) r).standing) h :) r.tank

theorem takeReading_holds {l : Link} {kind tag : Byte} {s : State} (h : (s.links.get l).holds kind tag)
    (d : ShipData) (r : Reading) : ((takeReading d r s).links.get l).holds kind tag := by
  obtain ⟨-, hs⟩ | ⟨g, -, -, hs⟩ := takeReading_cases d r s
  · rw [hs]
    exact h
  · rw [hs]
    exact measure_holds (s := s.gaugeTank (capacityMass g r.density) r) h r.tank

/-! ### Several readings (R157) -/

theorem takeReadings_cons (r : Reading) (rs : List Reading) (s : State) :
    takeReadings (r :: rs) s = takeReadings rs (takeReading s.ship r s) := rfl

/-- Readings write rows of tanks, the table of transfers and, by latches, the links. -/
theorem takeReadings_form (rs : List Reading) (s : State) : ∃ ls ts xs, takeReadings rs s =
    { s with
      links := ls
      cond := { s.cond with tanks := ts }
      ballast := { s.ballast with transfers := xs } } := by
  induction rs generalizing s with
  | nil => exact ⟨_, _, _, rfl⟩
  | cons r rs ih =>
    obtain ⟨ls, ts, xs, hrest⟩ := ih (takeReading s.ship r s)
    refine ⟨ls, ts, xs, ?_⟩
    rw [takeReadings_cons, hrest, takeReading_form]

theorem takeReadings_untouched (rs : List Reading) (s : State) : Untouched s (takeReadings rs s) := by
  obtain ⟨ls, ts, xs, hform⟩ := takeReadings_form rs s
  rw [hform]
  exact ⟨rfl, rfl, rfl, rfl, rfl, rfl, rfl, ⟨rfl, rfl⟩, ⟨rfl, rfl⟩, rfl, rfl, rfl, rfl⟩

theorem takeReadings_standing_congr {s s' : State} (h : s.standing = s'.standing) (rs : List Reading) :
    (takeReadings rs s).standing = (takeReadings rs s').standing := by
  induction rs generalizing s s' with
  | nil => exact h
  | cons r rs ih =>
    have hship : s.ship = s'.ship := (congrArg State.ship h :)
    rw [takeReadings_cons, takeReadings_cons, hship]
    exact ih (takeReading_standing_congr h s'.ship r)

theorem takeReadings_holds {l : Link} {kind tag : Byte} {s : State} (h : (s.links.get l).holds kind tag)
    (rs : List Reading) : ((takeReadings rs s).links.get l).holds kind tag := by
  induction rs generalizing s with
  | nil => exact h
  | cons r rs ih => exact ih (takeReading_holds h s.ship r)

@[simp] theorem takeReading_ship (d : ShipData) (r : Reading) (s : State) : (takeReading d r s).ship = s.ship := by
  rw [takeReading_form]

@[simp] theorem takeReading_time (d : ShipData) (r : Reading) (s : State) : (takeReading d r s).time = s.time := by
  rw [takeReading_form]

theorem takeReadings_of_discarded {rs : List Reading} {s : State}
    (h : ∀ r ∈ rs, (judgeReading s.ship r).taken = false) : takeReadings rs s = s := by
  induction rs with
  | nil => rfl
  | cons r rs ih =>
    rw [takeReadings_cons, takeReading_of_discarded s (h r List.mem_cons_self)]
    exact ih fun q hq => h q (List.mem_cons_of_mem r hq)

theorem takeReading_tankRow_of_discarded {d : ShipData} {r : Reading} {k : Nat}
    (h : r.tank = k → (judgeReading d r).taken = false) (s : State) :
    (takeReading d r s).tankRow k = s.tankRow k := by
  obtain ⟨-, hs⟩ | ⟨g, hd, hg, hs⟩ := takeReading_cases d r s
  · rw [hs]
  · rw [hs, measure_tankRow, gaugeTank_tankRow, if_neg]
    rintro rfl
    exact Bool.false_ne_true ((h rfl).symm.trans (taken_of_written hd hg))

/-- R157: a tank of which no reading is taken keeps its row. -/
theorem takeReadings_tankRow_of_discarded {rs : List Reading} {k : Nat} {s : State}
    (h : ∀ r ∈ rs, r.tank = k → (judgeReading s.ship r).taken = false) :
    (takeReadings rs s).tankRow k = s.tankRow k := by
  induction rs generalizing s with
  | nil => rfl
  | cons r rs ih =>
    rw [takeReadings_cons, ih, takeReading_tankRow_of_discarded (h r List.mem_cons_self)]
    intro q hq
    rw [takeReading_ship]
    exact h q (List.mem_cons_of_mem r hq)

/-- A reading is of a tank, at a density within its range. -/
def Reading.gauges (k : Nat) (r : Reading) : Bool := decide (r.tank = k) && densityOk r.density

theorem takeReading_tankRow {k : Nat} {g : TankGeom} {s : State} (hg : tget s.ship.tanks k = some g) (r : Reading) :
    (takeReading s.ship r s).tankRow k =
      if r.gauges k then (s.tankRow k).gauged s.time (capacityMass g r.density) r else s.tankRow k := by
  cases hd : densityOk r.density with
  | false =>
    rw [takeReading_of_discarded s (by rw [judgeReading_of_density hd]; rfl)]
    simp [Reading.gauges, hd]
  | true =>
    by_cases hk : r.tank = k
    · subst hk
      rw [takeReading_of_written s hd hg, measure_tankRow, gaugeTank_tankRow]
      simp [Reading.gauges, hd]
    · rw [takeReading_tankRow_of_discarded fun h => absurd h hk]
      simp [Reading.gauges, hk]

/-- R157: a written tank ends with the last reading taken of it. -/
theorem takeReadings_tankRow {k : Nat} {g : TankGeom} (rs : List Reading) {s : State}
    (hg : tget s.ship.tanks k = some g) : (takeReadings rs s).tankRow k =
      ((rs.filter (Reading.gauges k)).getLast?).elim (s.tankRow k)
        (fun x => (s.tankRow k).gauged s.time (capacityMass g x.density) x) := by
  induction rs generalizing s with
  | nil => rfl
  | cons r rs ih =>
    rw [takeReadings_cons, ih (by rwa [takeReading_ship]), takeReading_tankRow hg, takeReading_time]
    cases hr : r.gauges k with
    | false => simp [hr]
    | true =>
      rw [List.filter_cons_of_pos hr, List.getLast?_cons, if_pos rfl]
      cases (rs.filter (Reading.gauges k)).getLast? <;> rfl

/-- R157, R168: without a reading of a tank end, the ballast unit stands. -/
theorem takeReadings_ballast {rs : List Reading} {s : State}
    (h : ∀ r ∈ rs, (judgeReading s.ship r).taken = true → grantedFor s r.tank = none) :
    (takeReadings rs s).ballast = s.ballast := by
  induction rs generalizing s with
  | nil => rfl
  | cons r rs ih =>
    have hhead : (takeReading s.ship r s).ballast = s.ballast
        ∧ ∀ k, grantedFor (takeReading s.ship r s) k = grantedFor s k := by
      obtain ⟨-, hs⟩ | ⟨g, hd, hg, hs⟩ := takeReading_cases s.ship r s
      · rw [hs]
        exact ⟨rfl, fun _ => rfl⟩
      · rw [hs, measure_of_none]
        · exact ⟨rfl, gaugeTank_grantedFor _ r s⟩
        · rw [gaugeTank_grantedFor]
          exact h r List.mem_cons_self (taken_of_written hd hg)
    obtain ⟨hballast, hgranted⟩ := hhead
    rw [takeReadings_cons, ih, hballast]
    intro q hq htaken
    rw [hgranted]
    exact h q (List.mem_cons_of_mem r hq) (by rwa [takeReading_ship] at htaken)

end Sys2Proof.Machine
end

section
/-! Tank Report: what is recorded, what is measured, and the reply (R157 to R159, R168). -/

namespace Sys2Proof.Machine

/-! ### The body of the command (R157, R159) -/

/-- R159: ACTUAL advances when a reading is taken. -/
def readingsTaken (rs : List Reading) (s : State) : Bool := rs.any (fun r => (judgeReading s.ship r).taken)

/-- R159: PLAN advances when a reading taken is of a tank without a target. -/
def targetlessTaken (rs : List Reading) (s : State) : Bool :=
  rs.any (fun r => (judgeReading s.ship r).taken && (s.tankRow r.tank).target.isNone)

theorem bodyTankReport_of_bad_form {p : List Byte} (h : readingsOf p = none) (s : State) :
    bodyTankReport p s = refuse .badForm s := by
  simp only [bodyTankReport, h]

section
variable {p : List Byte} {rs : List Reading} (h : readingsOf p = some rs) (s : State)

include h

theorem bodyTankReport_of_discarded (ht : readingsTaken rs s = false) :
    bodyTankReport p s = (s, .quiet (tankReply s.ship rs)) := by
  simp only [bodyTankReport, h]
  refine if_pos (List.isEmpty_iff.mpr (List.filter_eq_nil_iff.mpr ?_))
  exact List.any_eq_false.mp ht

theorem bodyTankReport_of_taken (ht : readingsTaken rs s = true) :
    bodyTankReport p s = (advance true (targetlessTaken rs s) (takeReadings rs s), .reply (tankReply s.ship rs)) := by
  have hne : (takenReadings s.ship rs).isEmpty ≠ true := fun he => by
    obtain ⟨r, hr, htaken⟩ := List.any_eq_true.mp ht
    exact List.filter_eq_nil_iff.mp (List.isEmpty_iff.mp he) r hr htaken
  simp only [bodyTankReport, h]
  rw [if_neg hne, takenReadings, List.any_filter]
  rfl

end

/-- R157: the reply counts the readings taken and those clamped, and names the outcome of each. -/
theorem tankReply_eq (d : ShipData) (rs : List Reading) : tankReply d rs =
    ⟨.done, encU 1 (rs.countP (fun r => (judgeReading d r).taken))
      ++ encU 1 (rs.countP (fun r => decide (judgeReading d r = .clamped)))
      ++ (rs.map (fun r => encU 1 (judgeReading d r).code)).flatten⟩ := by
  rw [List.countP_eq_length_filter, List.countP_eq_length_filter]
  rfl

theorem tankReply_of_discarded {d : ShipData} {rs : List Reading} (h : ∀ r ∈ rs, (judgeReading d r).taken = false) :
    tankReply d rs = ⟨.done, encU 1 0 ++ encU 1 0 ++ (rs.map (fun r => encU 1 (judgeReading d r).code)).flatten⟩ := by
  have htaken : rs.countP (fun r => (judgeReading d r).taken) = 0 :=
    List.countP_eq_zero.mpr fun r hr => by simp [h r hr]
  have hclamped : rs.countP (fun r => decide (judgeReading d r = .clamped)) = 0 :=
    List.countP_eq_zero.mpr fun r hr hc => by
      have ht := h r hr
      rw [of_decide_eq_true hc] at ht
      cases ht
  rw [tankReply_eq, htaken, hclamped]

theorem tankReply_of_one_discarded {d : ShipData} {r : Reading} (h : (judgeReading d r).taken = false) :
    tankReply d [r] = ⟨.done, encU 1 0 ++ encU 1 0 ++ encU 1 (judgeReading d r).code⟩ := by
  rw [tankReply_of_discarded (by simpa using h)]
  simp

theorem tankReply_of_one_taken {d : ShipData} {r : Reading} {g : TankGeom} (h : densityOk r.density = true)
    (hg : tget d.tanks r.tank = some g) : tankReply d [r] =
      ⟨.done, encU 1 1 ++ encU 1 (beBool (decide (capacityMass g r.density < r.contents)))
        ++ encU 1 (beBool (decide (capacityMass g r.density < r.contents)))⟩ := by
  rw [tankReply_eq]
  by_cases hc : capacityMass g r.density < r.contents <;>
    simp [judgeReading_of_written h hg, hc, ReadingOutcome.taken, ReadingOutcome.code, beBool]

/-! ### The command -/

/-- An answered request's reply is queued, and the state stands. -/
theorem completes_of_answers {i : Instr} {s : State} {l : Link} {r : Request} {tag : Byte} {rep : Reply}
    (h : Answers i l r tag rep s) : Completes i l s s (replyFrame rep r.kind tag) := by
  refine ⟨_, h, ?_, ?_⟩
  · exact standing_onLink (standing_startTx _ _)
  · unfold State.sends answered
    rw [onLink_get_self]
    exact sends_startTx (.inl (by simp))

section
variable {s : State} {l : Link} {p : List Byte} (h : Ready s l (.tankReport p)) (tag : Byte)

include h

variable {rs : List Reading} (hr : readingsOf p = some rs)

include hr

/-- R157: a report of which no reading is taken changes nothing. -/
theorem tankReport_answers (ht : readingsTaken rs s = false) :
    Answers (.tankReport l tag p) l (.tankReport p) tag (tankReply s.ship rs) s :=
  command_quiet h (bodyTankReport_of_discarded hr (s.onLink l (LinkUnit.reserve 0x48#8 tag)) ht)

/-- R157, R159: a report leaves what its readings leave, with the generations they advance, taken or not. -/
theorem tankReport_completes : Completes (.tankReport l tag p) l s
    (advance (readingsTaken rs s) (targetlessTaken rs s) (takeReadings rs s))
    (replyFrame (tankReply s.ship rs) 0x48#8 tag) := by
  cases ht : readingsTaken rs s with
  | false =>
    have hdis : ∀ r ∈ rs, (judgeReading s.ship r).taken = false := fun r hm =>
      Bool.eq_false_iff.mpr (List.any_eq_false.mp ht r hm)
    have hplan : targetlessTaken rs s = false := List.any_eq_false.mpr fun r hm => by simp [hdis r hm]
    rw [hplan, takeReadings_of_discarded hdis]
    exact completes_of_answers (tankReport_answers h tag hr ht)
  | true =>
    have hreserved := takeReadings_standing_congr (reserve_standing l 0x48#8 tag s) rs
    refine command_reply h (bodyTankReport_of_taken hr (s.onLink l (LinkUnit.reserve 0x48#8 tag)) ht) ?_
      (advance_standing_congr hreserved _ _)
    rw [advance_links]
    exact takeReadings_holds (holds_reserve h.none l 0x48#8 tag) rs

end

/-- R158, R159: a report of one reading that is taken. -/
theorem tankReport_of_one {s : State} {l : Link} {p : List Byte} {x : Reading} {g : TankGeom}
    (h : Ready s l (.tankReport p)) (tag : Byte) (hr : readingsOf p = some [x]) (hd : densityOk x.density = true)
    (hg : tget s.ship.tanks x.tank = some g) : Completes (.tankReport l tag p) l s
      (advance true (s.tankRow x.tank).target.isNone
        (measure x.tank (s.gaugeTank (capacityMass g x.density) x)))
      (replyFrame ⟨.done, encU 1 1 ++ encU 1 (beBool (decide (capacityMass g x.density < x.contents)))
        ++ encU 1 (beBool (decide (capacityMass g x.density < x.contents)))⟩ 0x48#8 tag) := by
  have ht := taken_of_written hd hg
  have hc := tankReport_completes h tag hr
  rw [tankReply_of_one_taken hd hg, takeReadings_cons, takeReading_of_written s hd hg] at hc
  simpa [readingsTaken, targetlessTaken, ht, takeReadings] using hc

/-! ### The statements -/

/-- Settles O50: the measure by `measure_of_granted`, of a state and of what the reading of a report leaves. -/
theorem transfersAreMeasured : Obligations.TransfersAreMeasured := by
  refine ⟨fun s k id t ss sd time amount mark ht hx hp => ?_, ?_⟩
  · intro m
    refine ⟨?_, fun hsrc => ?_, fun hsrc => ?_, fun j hsrc hj => ?_, ?_, ?_⟩
    · rw [measure_ballast ht hx hp]
      exact tget_tput_self _ _ _
    · simp [m, amountAfter, hsrc]
    · simp [m, amountAfter, hsrc]
    · simp [m, amountAfter, hsrc, hj]
    · rw [measure_form]
    · rw [measure_form]
  · intro s l tag p x g id t ss sd time amount mark h hr hd hg ht hx hp cap held m beyond measured
    have hrow : (s.gaugeTank cap x).tankRow x.tank = (s.tankRow x.tank).gauged s.time cap x :=
      (gaugeTank_tankRow cap x s x.tank).trans (if_pos rfl)
    have hm : amountAfter t ss sd amount x.tank ((s.gaugeTank cap x).tankRow x.tank).contents = m := by
      rw [hrow]
      simp only [amountAfter, m]
      cases t.source with
      | sea => rfl
      | tank j => rfl
    have hmeasured : measure x.tank (s.gaugeTank cap x) =
        if beyond = true ∧ mark = false then latchOn .transfer [.l3, .l0] measured else measured := by
      rw [measure_of_granted (s := s.gaugeTank cap x) ((congrArg TankRow.transfer hrow).trans ht) hx hp hm]
      simp only [Bool.and_eq_true, Bool.not_eq_true']
      rfl
    have hc := tankReport_of_one h tag hr hd hg
    rw [show capacityMass g x.density = cap from rfl, hmeasured] at hc
    exact hc

/-- Settles O49: the outcomes of one reading by `judgeReading`, and of several by what they leave of each tank
(`takeReadings_tankRow`), of the ballast unit (`takeReadings_ballast`) and of the rest (`takeReadings_form`). -/
theorem tankReportCompletes : Obligations.TankReportCompletes := by
  refine ⟨fun s l tag p h => ⟨fun hr => ?_, fun x hr => ⟨fun hd => ?_, fun hd hg => ?_, fun g hd hg hfree => ?_⟩⟩,
    fun s l tag p rs h hr => ?_⟩
  · exact command_quiet h (bodyTankReport_of_bad_form hr _)
  · have hj : judgeReading s.ship x = .discardedDensity := judgeReading_of_density hd
    have ha := tankReport_answers h tag hr (by simp [readingsTaken, hj, ReadingOutcome.taken])
    rwa [tankReply_of_one_discarded (by rw [hj]; rfl), hj] at ha
  · have hj : judgeReading s.ship x = .discardedTank := judgeReading_of_unwritten hd hg
    have ha := tankReport_answers h tag hr (by simp [readingsTaken, hj, ReadingOutcome.taken])
    rwa [tankReply_of_one_discarded (by rw [hj]; rfl), hj] at ha
  · intro cap
    have hc := tankReport_of_one h tag hr hd hg
    rw [measure_of_none ((gaugeTank_grantedFor _ x s x.tank).trans hfree)] at hc
    exact hc
  · obtain ⟨t, hexec, hst, hsends⟩ := tankReport_completes h tag hr
    obtain ⟨ls, ts, xs, hform⟩ := takeReadings_form rs s
    have hcond : t.cond = (takeReadings rs s).cond := cond_of_advanced hst
    have hballast : t.ballast = (takeReadings rs s).ballast := by rw [ballast_of_standing hst, advance_ballast]
    rw [tankReply_eq] at hsends
    refine ⟨t, hexec, hsends, ?_, ?_, ?_, fun k hk => ?_, fun k g x hg hlast => ?_, ?_, ?_, ?_, fun hfree => ?_, ?_, ?_,
      ?_, ?_, ?_, ?_, fun x => ?_, fun hdis => ?_, ?_, ?_, ?_⟩
    · rw [hcond, hform]
    · rw [hcond, hform]
    · rw [hcond, hform]
    · rw [State.tankRow, hcond]
      exact takeReadings_tankRow_of_discarded hk
    · rw [State.tankRow, hcond]
      refine (takeReadings_tankRow rs hg).trans ?_
      rw [show (rs.filter (Reading.gauges k)).getLast? = some x from hlast]
      rfl
    · rw [planGen_of_standing hst, advance_planGen, hform]
      rfl
    · rw [hballast, hform]
    · rw [hballast, hform]
    · rw [hballast, takeReadings_ballast hfree]
    · rw [queue_of_advanced hst, hform]
    · rw [slot_of_advanced hst, hform]
    · rw [recs_of_standing hst, advance_gate, hform]
    · rw [window_of_standing hst, advance_gate, hform]
    · rw [gateStale_of_standing hst, advance_gate, hform]
    · rw [suspension_of_standing hst, advance_monitor, hform]
    · rw [listOf_of_standing hst, listOf_advance, hform]
      cases x <;> rfl
    · rw [← tankReply_of_discarded hdis]
      exact tankReport_answers h tag hr (List.any_eq_false.mpr fun r hm => Bool.eq_false_iff.mp (hdis r hm))
    · rw [actualGen_of_standing hst, advance_actualGen_eq, hform]
      rfl
    · rw [mode_of_standing hst, advance_mode, hform]
    · exact (takeReadings_untouched rs s).trans ((advance_untouched _ _ _).trans (untouched_of_standing hst))

end Sys2Proof.Machine
end

section
/-! What an operation on a link can make of its queues and counts (R174 to R178, R181 to R186). -/

namespace Sys2Proof.Machine

/-! ### The bounds of a link unit (R174) -/

theorem bounded_iff {u : LinkUnit} :
    u.bounded = true ↔
      u.inbound.length ≤ Config.linkPlaces ∧ u.outbound.length ≤ Config.linkPlaces ∧ u.dropCount ≤ Config.countCap
        ∧ u.errorCount ≤ Config.countCap ∧ u.outbound.countP OutPlace.isSending ≤ 1 := by
  simp only [LinkUnit.bounded, Bool.and_eq_true, decide_eq_true_eq, and_assoc]

/-- How many places are reserved for a command that is being served. -/
def LinkUnit.served (u : LinkUnit) : Nat := u.outbound.countP OutPlace.isCurrent

/-- What an operation on a link keeps: its queues and counts within their bounds, the inbound queue within `n` places,
and no place more reserved for a command that is being served. -/
structure LinkUnit.Keeps (n : Nat) (u v : LinkUnit) : Prop where
  inbound : u.inbound.length ≤ n → v.inbound.length ≤ n
  places : u.outbound.length ≤ Config.linkPlaces → v.outbound.length ≤ Config.linkPlaces
  drops : u.dropCount ≤ Config.countCap → v.dropCount ≤ Config.countCap
  errors : u.errorCount ≤ Config.countCap → v.errorCount ≤ Config.countCap
  sending : u.outbound.countP OutPlace.isSending ≤ 1 → v.outbound.countP OutPlace.isSending ≤ 1
  served : v.served ≤ u.served

section
variable {n : Nat} {u v w : LinkUnit}

theorem LinkUnit.Keeps.bounded (h : u.Keeps Config.linkPlaces v) (hu : u.bounded = true) : v.bounded = true := by
  obtain ⟨hi, hp, hd, he, hs⟩ := bounded_iff.mp hu
  exact bounded_iff.mpr ⟨h.inbound hi, h.places hp, h.drops hd, h.errors he, h.sending hs⟩

theorem LinkUnit.Keeps.refl (n : Nat) (u : LinkUnit) : u.Keeps n u := ⟨id, id, id, id, id, le_rfl⟩

theorem LinkUnit.Keeps.trans (h : u.Keeps n v) (g : v.Keeps n w) : u.Keeps n w :=
  ⟨g.inbound ∘ h.inbound, g.places ∘ h.places, g.drops ∘ h.drops, g.errors ∘ h.errors, g.sending ∘ h.sending,
    g.served.trans h.served⟩

/-- A change of the outbound queue alone. -/
theorem LinkUnit.Keeps.of_outbound {q : List OutPlace}
    (hp : u.outbound.length ≤ Config.linkPlaces → q.length ≤ Config.linkPlaces)
    (hs : u.outbound.countP OutPlace.isSending ≤ 1 → q.countP OutPlace.isSending ≤ 1)
    (hc : q.countP OutPlace.isCurrent ≤ u.served) : u.Keeps n { u with outbound := q } :=
  ⟨id, hp, id, id, hs, hc⟩

/-- A change of neither a queue nor a count. -/
theorem LinkUnit.Keeps.of_queues (hi : v.inbound = u.inbound) (ho : v.outbound = u.outbound)
    (hd : v.dropCount = u.dropCount) (he : v.errorCount = u.errorCount) : u.Keeps n v := by
  constructor <;> simp only [hi, ho, hd, he, LinkUnit.served, imp_self, le_refl]

/-- R174: a link with its queues empty and its counts at 0. -/
theorem LinkUnit.Keeps.of_empty (hi : v.inbound = []) (ho : v.outbound = []) (hd : v.dropCount = 0)
    (he : v.errorCount = 0) : u.Keeps n v := by
  constructor <;> simp [hi, ho, hd, he, LinkUnit.served]

end

/-! ### Notices (R182, R183, R185) -/

theorem noticeDue_keeps (n : Nat) (u : LinkUnit) : u.Keeps n u.noticeDue := by
  unfold LinkUnit.noticeDue
  split
  · exact .refl n u
  split
  case isTrue hfree =>
    refine .of_outbound (fun _ => ?_) (fun hs => ?_) ?_
    · simpa [LinkUnit.hasFree] using hfree
    · simpa [OutPlace.isSending] using hs
    · simp [OutPlace.isCurrent, LinkUnit.served]
  case isFalse => exact .of_queues rfl rfl rfl rfl

theorem latch_keeps (n : Nat) (e : Event) (u : LinkUnit) : u.Keeps n (u.latch e) := by
  have hbit : u.Keeps n { u with notices := u.notices ||| e.flag } := .of_queues rfl rfl rfl rfl
  unfold LinkUnit.latch
  split
  · exact .refl n u
  dsimp only
  split
  · exact hbit.trans (noticeDue_keeps n _)
  · exact hbit

theorem setMask_keeps (n : Nat) (m : Word16) (b : Bool) (u : LinkUnit) : u.Keeps n (u.setMask m b) := by
  have hmask : u.Keeps n { u with mask := m, level := b } := .of_queues rfl rfl rfl rfl
  unfold LinkUnit.setMask
  dsimp only
  split
  · exact hmask.trans (noticeDue_keeps n _)
  · exact hmask

/-! ### Reserved places (R178, R180) -/

/-- The first place reserved for `a` changes, if there is one, and no other place. -/
theorem onReserved_cases (a : Awaits) (f : Byte → Byte → OutPlace) (q : List OutPlace) :
    (onReserved a f q = q ∧ ∀ k t, OutPlace.reserved a k t ∉ q)
    ∨ ∃ p k t r, q = p ++ .reserved a k t :: r ∧ onReserved a f q = p ++ f k t :: r := by
  induction q with
  | nil => exact .inl ⟨rfl, fun _ _ => List.not_mem_nil⟩
  | cons x q ih =>
    by_cases hx : ∃ k t, x = .reserved a k t
    · obtain ⟨k, t, rfl⟩ := hx
      exact .inr ⟨[], k, t, q, rfl, by simp [onReserved]⟩
    · have hstep : onReserved a f (x :: q) = x :: onReserved a f q :=
        onReserved_append (q := [x]) fun y hy k t hyx => hx ⟨k, t, (List.mem_singleton.mp hy).symm.trans hyx⟩
      rcases ih with ⟨hsame, hnone⟩ | ⟨p, k, t, r, rfl, hat⟩
      · refine .inl ⟨by rw [hstep, hsame], fun k t hm => ?_⟩
        rcases List.mem_cons.mp hm with h | h
        · exact hx ⟨k, t, h.symm⟩
        · exact hnone k t h
      · exact .inr ⟨x :: p, k, t, r, rfl, by rw [hstep, hat]; rfl⟩

section
variable {a : Awaits} {f : Byte → Byte → OutPlace}

theorem length_onReserved (q : List OutPlace) : (onReserved a f q).length = q.length := by
  rcases onReserved_cases a f q with ⟨hsame, _⟩ | ⟨p, k, t, r, rfl, hat⟩
  · rw [hsame]
  · simp [hat]

/-- What fills or keeps a place is no frame in transmission. -/
theorem countP_sending_onReserved (hf : ∀ k t, (f k t).isSending = false) (q : List OutPlace) :
    (onReserved a f q).countP OutPlace.isSending = q.countP OutPlace.isSending := by
  rcases onReserved_cases a f q with ⟨hsame, _⟩ | ⟨p, k, t, r, rfl, hat⟩
  · rw [hsame]
  · simp [hat, hf, show (OutPlace.reserved a k t).isSending = false from rfl]

theorem countP_current_onReserved_le (hf : ∀ k t, (f k t).isCurrent = false) (q : List OutPlace) :
    (onReserved a f q).countP OutPlace.isCurrent ≤ q.countP OutPlace.isCurrent := by
  rcases onReserved_cases a f q with ⟨hsame, _⟩ | ⟨p, k, t, r, rfl, hat⟩
  · rw [hsame]
  · rw [hat]
    simp only [List.countP_append, List.countP_cons, hf]
    simp

/-- R178: the place of the command being served is reserved for it no longer. -/
theorem countP_current_onReserved (hf : ∀ k t, (f k t).isCurrent = false) (q : List OutPlace) :
    (onReserved .current f q).countP OutPlace.isCurrent ≤ q.countP OutPlace.isCurrent - 1 := by
  rcases onReserved_cases .current f q with ⟨hsame, hnone⟩ | ⟨p, k, t, r, rfl, hat⟩
  · have hzero : q.countP OutPlace.isCurrent = 0 := List.countP_eq_zero.mpr fun x hx hcur => by
      cases x with
      | reserved b k t =>
        cases b
        case current => exact hnone k t hx
        all_goals cases hcur
      | _ => cases hcur
    rw [hsame, hzero]
  · rw [hat]
    have hcur : (OutPlace.reserved .current k t).isCurrent = true := rfl
    simp only [List.countP_append, List.countP_cons, hf, hcur]
    simp

end

theorem fill_keeps (n : Nat) (a : Awaits) (r : Reply) (u : LinkUnit) : u.Keeps n (u.fill a r) := by
  refine .of_outbound (fun h => ?_) (fun h => ?_) ?_
  · rwa [length_onReserved]
  · rwa [countP_sending_onReserved fun _ _ => rfl]
  · exact countP_current_onReserved_le (fun _ _ => rfl) _

/-- R178, R180: the place reserved for a command, in a free place, is filled or kept when the command has been
served. -/
theorem LinkUnit.Keeps.freed {n : Nat} {u v : LinkUnit} {k t : Byte} {f : Byte → Byte → OutPlace}
    (hfree : u.hasFree = true) (h : (u.reserve k t).Keeps n v) (hs : ∀ k t, (f k t).isSending = false)
    (hc : ∀ k t, (f k t).isCurrent = false) : u.Keeps n { v with outbound := onReserved .current f v.outbound } := by
  have hroom : u.outbound.length < Config.linkPlaces := by simpa [LinkUnit.hasFree] using hfree
  refine ⟨h.inbound, fun _ => ?_, h.drops, h.errors, fun hu => ?_, ?_⟩
  · rw [length_onReserved]
    exact h.places (by simpa [LinkUnit.reserve] using hroom)
  · rw [countP_sending_onReserved hs]
    exact h.sending (by simpa [LinkUnit.reserve, OutPlace.isSending] using hu)
  · have hserved : v.served ≤ u.served + 1 := by
      simpa [LinkUnit.reserve, LinkUnit.served, OutPlace.isCurrent] using h.served
    exact (countP_current_onReserved hc _).trans (Nat.sub_le_of_le_add hserved)

/-! ### Transmission (R181) -/

/-- R181: at most one place changes, from a frame that waits to the frame in transmission. -/
theorem beginSending_cases (f : Frame) (q : List OutPlace) :
    beginSending f q = q
    ∨ ∃ a p b g, q = a ++ p :: b ∧ beginSending f q = a ++ .sending g :: b ∧ p.isCurrent = false
        ∧ p.isSending = false := by
  induction q with
  | nil => exact .inl rfl
  | cons x q ih =>
    have hpassed (hx : beginSending f (x :: q) = x :: beginSending f q) :
        beginSending f (x :: q) = x :: q
        ∨ ∃ a p b g, x :: q = a ++ p :: b ∧ beginSending f (x :: q) = a ++ .sending g :: b ∧ p.isCurrent = false
            ∧ p.isSending = false := by
      rcases ih with hsame | ⟨a, p, b, g, rfl, hat, hp⟩
      · exact .inl (by rw [hx, hsame])
      · exact .inr ⟨x :: a, p, b, g, rfl, by rw [hx, hat]; rfl, hp⟩
    cases x with
    | reserved w k t => exact hpassed rfl
    | sending g => exact hpassed rfl
    | reply g => exact .inr ⟨[], .reply g, q, g, rfl, rfl, rfl, rfl⟩
    | notice => exact .inr ⟨[], .notice, q, f, rfl, rfl, rfl, rfl⟩

theorem startTx_keeps (n : Nat) (m : Mode) (u : LinkUnit) : u.Keeps n (u.startTx m) := by
  unfold LinkUnit.startTx
  split
  · exact .refl n u
  case isFalse hnone =>
    have hzero : u.outbound.countP OutPlace.isSending = 0 :=
      List.countP_eq_zero.mpr fun p hp hs => hnone (List.any_eq_true.mpr ⟨p, hp, hs⟩)
    rcases beginSending_cases (u.noticeFrame m) u.outbound with hsame | ⟨a, p, b, g, hq, hat, hc, hs⟩
    · rw [hsame]
      exact .refl n u
    · refine .of_outbound (fun h => ?_) (fun _ => ?_) ?_ <;> rw [hat]
      · simpa [hq] using h
      · rw [hq] at hzero
        simp only [List.countP_append, List.countP_cons, hs] at hzero ⊢
        rw [show (OutPlace.sending g).isSending = true from rfl]
        simp only [reduceIte]
        omega
      · rw [LinkUnit.served, hq]
        simp [hc, show (OutPlace.sending g).isCurrent = false from rfl]

/-- R181: the place of the frame in transmission goes, and no other. -/
theorem dropSending_append {a b : List OutPlace} {f : Frame} (ha : ∀ p ∈ a, p.isSending = false) :
    dropSending (a ++ .sending f :: b) = a ++ b := by
  induction a with
  | nil => rfl
  | cons p a ih =>
    have ih := ih fun q hq => ha q (List.mem_cons_of_mem p hq)
    have hp := ha p List.mem_cons_self
    cases p with
    | sending g => simp [OutPlace.isSending] at hp
    | reserved w k t => simp [dropSending, ih]
    | reply g => simp [dropSending, ih]
    | notice => simp [dropSending, ih]

/-- A queue with a frame in transmission, cut at the first. -/
theorem exists_sending {q : List OutPlace} (h : q.any OutPlace.isSending = true) :
    ∃ a f b, q = a ++ .sending f :: b ∧ ∀ p ∈ a, p.isSending = false := by
  obtain ⟨p, hp⟩ : ∃ p, q.find? OutPlace.isSending = some p := Option.isSome_iff_exists.mp (by simpa using h)
  obtain ⟨hsend, a, b, rfl, ha⟩ := List.find?_eq_some_iff_append.mp hp
  cases p with
  | sending f => exact ⟨a, f, b, rfl, fun x hx => by simpa using ha x hx⟩
  | _ => cases hsend

/-- R181 steps 1 and 2: the frame leaves, and an owed notice takes its place. -/
theorem depart_of_sending {u : LinkUnit} {a b : List OutPlace} {f : Frame} (hq : u.outbound = a ++ .sending f :: b)
    (ha : ∀ p ∈ a, p.isSending = false) :
    u.depart = { u with outbound := a ++ b ++ if u.owed then [.notice] else [], owed := false } := by
  have hany : u.outbound.any OutPlace.isSending = true :=
    List.any_eq_true.mpr ⟨.sending f, by simp [hq], rfl⟩
  rw [LinkUnit.depart, if_pos hany, hq, dropSending_append ha]
  cases u.owed <;> simp [LinkUnit.payOwed]

theorem depart_of_none {u : LinkUnit} (h : ∀ p ∈ u.outbound, p.isSending = false) : u.depart = u :=
  if_neg fun hany => by
    obtain ⟨p, hp, hs⟩ := List.any_eq_true.mp hany
    simp [h p hp] at hs

theorem depart_keeps (n : Nat) (u : LinkUnit) : u.Keeps n u.depart := by
  by_cases h : u.outbound.any OutPlace.isSending = true
  · obtain ⟨a, f, b, hq, ha⟩ := exists_sending h
    rw [depart_of_sending hq ha]
    refine ⟨id, fun hp => ?_, id, id, fun hs => ?_, ?_⟩
    · rw [hq] at hp
      have htail : (if u.owed then [OutPlace.notice] else []).length ≤ 1 := by split <;> simp
      simp only [List.length_append, List.length_cons] at hp ⊢
      omega
    · rw [hq] at hs
      have htail : (if u.owed then [OutPlace.notice] else []).countP OutPlace.isSending = 0 := by split <;> rfl
      simp only [List.countP_append, List.countP_cons, htail] at hs ⊢
      omega
    · have htail : (if u.owed then [OutPlace.notice] else []).countP OutPlace.isCurrent = 0 := by split <;> rfl
      simp only [LinkUnit.served, hq, List.countP_append, List.countP_cons, htail]
      omega
  · rw [LinkUnit.depart, if_neg h]
    exact .refl n u

/-! ### Reception and link reset (R175 to R177, R186) -/

theorem bump_le {c : Nat} (h : c ≤ Config.countCap) : bump c ≤ Config.countCap := by
  unfold bump
  split <;> omega

theorem receive_keeps (f : Frame) (u : LinkUnit) : u.Keeps Config.linkPlaces (u.receive f) := by
  unfold LinkUnit.receive
  split
  case isTrue hroom => exact ⟨fun _ => by simpa using hroom, id, id, id, id, le_rfl⟩
  case isFalse =>
    have hcount : u.Keeps Config.linkPlaces { u with dropCount := bump u.dropCount } :=
      ⟨id, id, bump_le, id, id, le_rfl⟩
    exact hcount.trans (latch_keeps _ _ _)

theorem discard_keeps (n : Nat) (u : LinkUnit) : u.Keeps n u.discard := by
  have hcount : u.Keeps n { u with rx := .hunt, errorCount := bump u.errorCount } :=
    ⟨id, id, id, bump_le, id, le_rfl⟩
  exact hcount.trans (latch_keeps _ _ _)

theorem character_keeps (b : Byte) (u : LinkUnit) : u.Keeps Config.linkPlaces (u.character b) := by
  have hrx (r : Receiver) : u.Keeps Config.linkPlaces { u with rx := r } := .of_queues rfl rfl rfl rfl
  unfold LinkUnit.character LinkUnit.checkFrame
  split
  case h_1 => split; exacts [hrx _, .refl _ u]
  case h_2 => split; exacts [discard_keeps _ u, hrx _]
  case h_3 => exact hrx _
  case h_4 => split <;> exact hrx _
  case h_5 => split <;> exact hrx _
  case h_6 => exact hrx _
  case h_7 => split; exacts [(hrx _).trans (receive_keeps _ _), discard_keeps _ u]

theorem hear_keeps (u : LinkUnit) (c : RxChar) : u.Keeps Config.linkPlaces (u.hear c) := by
  unfold LinkUnit.hear
  split
  · exact .refl _ u
  split
  · exact character_keeps _ u
  split
  · exact .refl _ u
  · exact discard_keeps _ u

theorem hearAll_keeps (cs : List RxChar) (u : LinkUnit) : u.Keeps Config.linkPlaces (cs.foldl LinkUnit.hear u) := by
  induction cs generalizing u with
  | nil => exact .refl _ u
  | cons c cs ih => exact (hear_keeps u c).trans (ih _)

theorem broken_keeps (n : Nat) (l : Link) (standing : Word16) (u : LinkUnit) :
    u.Keeps n (LinkUnit.broken l standing) := .of_empty rfl rfl rfl rfl

theorem restarted_keeps (n : Nat) (l : Link) (u v : LinkUnit) : u.Keeps n (v.restarted l) := .of_empty rfl rfl rfl rfl

end Sys2Proof.Machine
end

section
/-! What the shared operations on a state keep of every link (R174, R178). -/

namespace Sys2Proof.Machine

/-! ### Every link of a state -/

/-- What a change of a state keeps of each of its links. -/
def LinksKept (n : Nat) (s t : State) : Prop := ∀ l, (s.links.get l).Keeps n (t.links.get l)

section
variable {n : Nat} {s t u : State}

theorem LinksKept.of_links (h : t.links = s.links) : LinksKept n s t := fun l => by
  rw [h]
  exact .refl n _

theorem LinksKept.refl (n : Nat) (s : State) : LinksKept n s s := .of_links rfl

theorem LinksKept.trans (h : LinksKept n s t) (g : LinksKept n t u) : LinksKept n s u := fun l => (h l).trans (g l)

/-- The links stand after what a kept change left. -/
theorem LinksKept.then (h : LinksKept n s u) (e : t.links = u.links) : LinksKept n s t := h.trans (.of_links e)

/-- The links stand before a kept change. -/
theorem LinksKept.after (h : LinksKept n u t) (e : u.links = s.links) : LinksKept n s t :=
  (LinksKept.of_links e).trans h

theorem LinksKept.foldl {α : Type} {f : State → α → State} (h : ∀ s a, LinksKept n s (f s a)) (as : List α)
    (s : State) : LinksKept n s (as.foldl f s) := by
  induction as generalizing s with
  | nil => exact .refl n s
  | cons a as ih => exact (h s a).trans (ih _)

theorem LinksKept.onLink {l : Link} {f : LinkUnit → LinkUnit} (h : (s.links.get l).Keeps n (f (s.links.get l))) :
    LinksKept n s (s.onLink l f) := fun k => by
  rw [onLink_get]
  split
  case isTrue hk =>
    subst hk
    exact h
  case isFalse => exact .refl n _

end

section
variable (n : Nat) (s : State)

theorem latch_linksKept (e : Event) (l : Link) : LinksKept n s (latch e l s) := .onLink (latch_keeps n e _)

theorem latchOn_linksKept (e : Event) (ls : List Link) : LinksKept n s (latchOn e ls s) :=
  .foldl (fun s l => latch_linksKept n s e l) ls s

theorem latchLift_linksKept (cs : List CraneId) : LinksKept n s (latchLift cs s) := latchOn_linksKept n s _ _

theorem latchTransfer_linksKept : LinksKept n s (latchTransfer s) := latchOn_linksKept n s _ _

theorem startAllTx_linksKept : LinksKept n s (startAllTx s) := fun l => by
  rw [startAllTx_get]
  exact startTx_keeps n s.mode _

theorem settle_linksKept : LinksKept n s (settle s) := fun l => by
  rw [settle_get]
  exact startTx_keeps n s.mode _

/-! ### Lifts and transfers (R122, R143, R145, R147, R153, R166, R171) -/

theorem releaseLift_linksKept (r : LiftRef) (kind : EndKind) : LinksKept n s (releaseLift r kind s) := by
  rw [releaseLift_eq]
  exact ((latchLift_linksKept n _ r.cranes).after (liftEnded_links r kind s)).then (freeSlotOf_links r _)

theorem completeLift_linksKept (r : LiftRef) : LinksKept n s (completeLift r s) := by
  have hlanded : (lotLanded r s).links = s.links := by rw [lotLanded_form]
  rw [completeLift_eq]
  exact ((latchLift_linksKept n _ r.cranes).after (by simp [hlanded])).then (freeSlotOf_links r _)

theorem withdrawClearance_linksKept (r : LiftRef) (p : Pending) : LinksKept n s (withdrawClearance r p s) := by
  refine .then (u := latchLift r.cranes _) ?_ (decisionRound_links _)
  exact (latchLift_linksKept n _ r.cranes).after (by simp)

theorem enterSuspension_linksKept (c : SuspendCause) : LinksKept n s (enterSuspension c s) := by
  have hlatched : LinksKept n s (latchOn .suspend allLinks
      { s with monitor := { s.monitor with suspension := some { cause := c, time := s.time } } }) :=
    (latchOn_linksKept n _ _ _).after rfl
  unfold enterSuspension
  dsimp only
  split
  · exact hlatched.trans (withdrawClearance_linksKept n _ _ _)
  · exact hlatched

theorem endSuspension_linksKept : LinksKept n s (endSuspension s) := (latchOn_linksKept n _ _ _).after rfl

theorem grantLift_linksKept (r : LiftRef) : LinksKept n s (grantLift r s) := by
  refine .then (u := latchLift r.cranes _) ?_ (advanceActual_links _)
  exact (latchLift_linksKept n _ r.cranes).after (by simp)

theorem removeTransfer_linksKept (id : Nat) (x : Transfer) (kind : EndKind) :
    LinksKept n s (removeTransfer id x kind s) := by
  rw [removeTransfer_eq]
  exact (latchTransfer_linksKept n _).after (transferEnded_links id x kind s)

theorem grantTransfer_linksKept (id : Nat) (x : Transfer) : LinksKept n s (grantTransfer id x s) :=
  ((latchTransfer_linksKept n _).after rfl).then rfl

/-! ### Staleness (R149, R160) -/

theorem craneGoesStale_linksKept (c : CraneId) : LinksKept n s (craneGoesStale c s) :=
  (latchOn_linksKept n _ _ _).after rfl

theorem tankGoesStale_linksKept (k : Nat) : LinksKept n s (tankGoesStale k s) := (latchOn_linksKept n _ _ _).after rfl

theorem rejudgeCrane_linksKept (c : CraneId) : LinksKept n s (rejudgeCrane s c) := by
  unfold rejudgeCrane
  split
  · split
    · exact .refl n s
    · exact craneGoesStale_linksKept n s c
  · exact .of_links rfl

theorem rejudgeTank_linksKept (k : Nat) : LinksKept n s (rejudgeTank s k) := by
  unfold rejudgeTank
  split
  · split
    · exact .refl n s
    · exact tankGoesStale_linksKept n s k
  split
  · exact .of_links rfl
  · exact .refl n s

theorem rejudgeCranes_linksKept : LinksKept n s (rejudgeCranes s) := .foldl (rejudgeCrane_linksKept n) _ s

theorem rejudgeTanks_linksKept : LinksKept n s (rejudgeTanks s) := .foldl (rejudgeTank_linksKept n) _ s

theorem rejudgedUnder_linksKept (w : Settings) : LinksKept n s (rejudgedUnder w s) := by
  have hset : LinksKept n s { s with settings := w } := .of_links rfl
  unfold rejudgedUnder
  dsimp only
  split
  · split
    · exact hset
    · exact hset.trans (rejudgeCranes_linksKept n _)
  · refine LinksKept.trans ?_ (rejudgeTanks_linksKept n _)
    split
    · exact hset
    · exact hset.trans (rejudgeCranes_linksKept n _)

/-! ### Power and the modes (R5 to R11) -/

theorem changeMode_linksKept (m : Mode) : LinksKept n s (changeMode m s) := (latchOn_linksKept n _ _ _).after rfl

theorem abandonSnapshot_linksKept : LinksKept n s (abandonSnapshot s) := by
  unfold abandonSnapshot
  split
  · exact (LinksKept.onLink (fill_keeps n _ _ _)).after rfl
  · exact .refl n s

theorem enterService_linksKept : LinksKept n s (enterService s) :=
  (abandonSnapshot_linksKept n s).trans ((changeMode_linksKept n _ .service).after (by simp [clearedCondition]))

theorem endInitializing_linksKept : LinksKept n s (endInitializing s) := by
  have hload : (loadShipData (loadSettings s)).links = s.links := by
    unfold loadSettings
    split <;> rfl
  unfold endInitializing
  dsimp only
  split
  · exact (enterService_linksKept n _).after hload
  · exact (changeMode_linksKept n _ _).after hload

theorem leaveService_linksKept : LinksKept n s (leaveService s) := by
  have hlift (u : State) (c : CraneId) : LinksKept n u (endPendingLift u c) := by
    unfold endPendingLift
    split
    · exact .refl n u
    · exact releaseLift_linksKept n u _ _
  have htransfer (u : State) (p : Nat × Transfer) : LinksKept n u (endPendingTransfer u p) :=
    removeTransfer_linksKept n u _ _ _
  have hsuspension (u : State) : LinksKept n u (liftSuspension u) := by
    unfold liftSuspension
    split
    · exact endSuspension_linksKept n u
    · exact .refl n u
  have hshut (u : State) : LinksKept n u (changeMode .configuration (shutResults u)) :=
    (changeMode_linksKept n (shutResults u) .configuration).after rfl
  unfold leaveService
  dsimp only
  exact ((LinksKept.foldl hlift _ s).trans (.foldl htransfer _ _)).trans ((hsuspension _).trans (hshut _))

theorem completeCommit_linksKept : LinksKept n s (completeCommit s) := by
  have hfilled (u : State) : LinksKept n u (u.onLink .l0 (LinkUnit.fill .commit (Reply.bare .done))) :=
    .onLink (fill_keeps n _ _ _)
  unfold completeCommit
  dsimp only
  refine .trans ?_ (enterService_linksKept n _)
  exact (hfilled _).after rfl

theorem completeStore_linksKept : LinksKept n s (completeStore s) :=
  (LinksKept.onLink (fill_keeps n _ _ _)).after rfl

theorem completeSnapshot_linksKept : LinksKept n s (completeSnapshot s) := by
  unfold completeSnapshot
  split
  · exact .refl n s
  · exact (LinksKept.onLink (fill_keeps n _ _ _)).after rfl

/-- R11, R174: power-on leaves the links at their reset values. -/
theorem powerOnState_linksKept : LinksKept n s (powerOnState s) := fun l => by
  cases l <;> exact .of_empty rfl rfl rfl rfl

/-- R11, R174: RESTART leaves every link at its reset values with MODE latched, whatever it held. -/
theorem restartEngine_linksKept (u : State) : LinksKept n s (restartEngine u) := by
  have hrestarted (v : State) : LinksKept n s (restartState v) := fun l => by
    cases l <;> exact restarted_keeps n _ _ _
  exact (hrestarted _).trans (latchOn_linksKept n _ _ _)

/-! ### Publications and predictions (R73, R79, R80) -/

theorem fillRecords_linksKept (g : Count32) (vs : List Violation) : LinksKept n s (fillRecords g vs s) := by
  refine .foldl (fun u v => ?_) _ s
  unfold fillRecord
  dsimp only
  split
  · exact (latchOn_linksKept n _ _ _).after rfl
  · exact .of_links rfl

theorem noteViolations_linksKept (a b : List Violation) : LinksKept n s (noteViolations a b s) := by
  have hnew : LinksKept n s (if (newlyAppearing a b).isEmpty then s else latchOn .violationNew allLinks s) := by
    split
    · exact .refl n s
    · exact latchOn_linksKept n s _ _
  unfold noteViolations
  dsimp only
  split
  · exact hnew.trans (latchOn_linksKept n _ _ _)
  · exact hnew

theorem autoSuspend_linksKept : LinksKept n s (autoSuspend s) := by
  unfold autoSuspend
  split
  · exact .refl n s
  split
  · exact enterSuspension_linksKept n s _
  · exact .refl n s

theorem recheckClearance_linksKept : LinksKept n s (recheckClearance s) := by
  unfold recheckClearance
  split
  · exact .refl n s
  split
  · exact withdrawClearance_linksKept n s _ _
  · exact .of_links (postDemand_links _ s)

theorem noteResults_linksKept (x : Ctx) : LinksKept n s (noteResults x s) := by
  unfold noteResults
  split
  · exact latchOn_linksKept n s _ _
  · exact latch_linksKept n s _ _

theorem publish_linksKept (p : Pass) : LinksKept n s (publish p s) := by
  have hmonitor (vs : List Violation) (u : State) : LinksKept n u (monitorActual p vs u) :=
    .trans (.trans ((noteViolations_linksKept n (updateListOf p vs u) _ vs).after rfl) (fillRecords_linksKept n _ _ _))
      (autoSuspend_linksKept n _)
  have hgate (r : ResultSet) (u : State) : LinksKept n u (gateActual r u) :=
    ((recheckClearance_linksKept n (judgeWindow r u)).after rfl).then (decisionRound_links _)
  have hset (r : ResultSet) : LinksKept n s (publishSet p r s) := .of_links rfl
  unfold publish
  dsimp only
  split
  · exact (((hset _).trans (hmonitor _ _)).trans (hgate _ _)).trans (noteResults_linksKept n _ _)
  · refine .trans ?_ (noteResults_linksKept n _ _)
    exact .of_links rfl

theorem deliverLift_linksKept (r : LiftRef) (b : Bool) (w : Option CheckClass) :
    LinksKept n s (deliverLift r b w s) := by
  unfold deliverLift
  split
  · exact .refl n s
  split
  · exact .of_links (by simp)
  split
  · exact .of_links (by simp)
  · exact grantLift_linksKept n s r

theorem deliverRecheck_linksKept (b : Bool) (w : Option CheckClass) : LinksKept n s (deliverRecheck b w s) := by
  unfold deliverRecheck
  split
  · exact .refl n s
  split
  · exact withdrawClearance_linksKept n s _ _
  split
  · exact withdrawClearance_linksKept n s _ _
  · exact .refl n s

theorem deliverTransfer_linksKept (id : Nat) (b : Bool) (vs : List Violation) :
    LinksKept n s (deliverTransfer id b vs s) := by
  have hreason (p : Pending) : LinksKept n s (setTransferReason id p s) := .of_links (setTransferReason_links id p s)
  unfold deliverTransfer
  split
  · exact .refl n s
  split
  · exact .refl n s
  split
  · exact .refl n s
  split
  · exact hreason _
  split
  · split
    · exact grantTransfer_linksKept n s _ _
    · exact hreason _
  split
  · exact hreason _
  · exact grantTransfer_linksKept n s _ _

theorem completePrediction_linksKept : LinksKept n s (completePrediction s) := by
  unfold completePrediction
  split
  · exact .refl n s
  dsimp only
  split
  · unfold deliver
    split
    · exact (deliverRecheck_linksKept n _ _ _).after rfl
    · exact (deliverLift_linksKept n _ _ _ _).after rfl
    · exact (deliverTransfer_linksKept n _ _ _ _).after rfl
  · exact .of_links rfl

theorem timeoutTransfer_linksKept (id : Nat) : LinksKept n s (timeoutTransfer id s) := by
  unfold timeoutTransfer
  split
  · exact removeTransfer_linksKept n s _ _ _
  · exact .refl n s

theorem timeoutLift_linksKept (c : CraneId) : LinksKept n s (timeoutLift c s) :=
  (releaseLift_linksKept n s _ _).then (advance_links _ _ _)

theorem completeHookPass_links : (completeHookPass s).links = s.links := by
  unfold completeHookPass
  split <;> rfl

theorem interruptStore_links : (interruptStore s).links = s.links := by
  unfold interruptStore
  repeat' split
  all_goals rfl

end

end Sys2Proof.Machine
end

section
/-! What the requests keep of every link, and what their answers leave of the place reserved for them (R174, R178). -/

namespace Sys2Proof.Machine

/-! ### The requests that change no link -/

/-- The requests whose bodies may change a link: those that latch an event, and the notice commands. -/
def touchesLinks : Request → Bool
  | .enterConfiguration => true
  | .writeSetting _ _ => true
  | .restart => true
  | .openFrame => true
  | .addMoves _ => true
  | .dropFrame => true
  | .foldFrame => true
  | .suspendWork => true
  | .resumeWork => true
  | .requestLift _ => true
  | .cancelLift => true
  | .hookReport _ _ => true
  | .landingReport _ => true
  | .tankReport _ => true
  | .endTransfer _ => true
  | .cancelTransfer _ => true
  | .setNoticeMask _ _ => true
  | .readNotices => true
  | _ => false

theorem acceptTransfer_links (a b : End) (m : Nat) (s : State) : (acceptTransfer a b m s).1.links = s.links := by
  have htanks (v : Option Nat) (ks : List Nat) (u : State) : (ks.foldl (setTankTransfer v) u).links = u.links := by
    induction ks generalizing u with
    | nil => rfl
    | cons k ks ih => exact ih _
  simp only [acceptTransfer, decisionRound_links, setQueue_links, htanks]

theorem bodyOf_links (l : Link) {r : Request} (h : touchesLinks r = false) (s : State) :
    (bodyOf l r s).1.links = s.links := by
  by_cases hr : onlyReads r = true
  · exact congrArg State.links (bodyOf_onlyReads l hr s)
  cases r <;> simp only [onlyReads, touchesLinks, not_true_eq_false, Bool.true_eq_false] at hr h
  all_goals
    simp only [bodyOf, bodyWriteShipData, bodyCommitShipData, bodyStoreSettings, bodyControlLine, bodyClearLineStatus,
      bodyPlanLot, bodyUnplanLot, bodyPlaceLot, bodyRemoveLot, bodyMarkDischarge, bodyUnmarkDischarge,
      bodyAcceptWeight, namedLot, discardLot, bodyInsertInSequence, bodyRemoveFromSequence, bodySetTankManual,
      bodySetTankTarget, bodyReadResults, bodyAcknowledgeRecords, bodyOpenSnapshot, bodyCloseSnapshot,
      bodyWriteImagePage, bodyApplyImage, bodyRequestTransfer, refuse, doneWith, doneWith2]
    repeat' split
    all_goals
      simp [acceptTransfer_links, startCommit, clearStatuses, clearSticky, clearRecords, startSnapshot, applyImage]

/-! ### The requests that may latch an event -/

section
variable (n : Nat) (s : State)

theorem bodyEnterConfiguration_linksKept : LinksKept n s (bodyEnterConfiguration s).1 := by
  unfold bodyEnterConfiguration
  split
  · split
    · exact .refl n s
    · exact leaveService_linksKept n s
  · exact changeMode_linksKept n s _
  · exact .refl n s

theorem bodyWriteSetting_linksKept (i v : Nat) : LinksKept n s (bodyWriteSetting i v s).1 := by
  have happly : LinksKept n s (applySetting i v s) := by
    rw [applySetting_eq]
    dsimp only
    split
    · exact (rejudgedUnder_linksKept n s _).then (advanceAllContexts_links _)
    split
    · exact (rejudgedUnder_linksKept n s _).then (advanceActual_links _)
    · exact rejudgedUnder_linksKept n s _
  unfold bodyWriteSetting
  split
  · exact .refl n s
  split
  · exact .refl n s
  split
  · exact .refl n s
  split
  · exact .refl n s
  · exact happly

theorem stackFault_linksKept (b : List Byte) (k : Nat) : LinksKept n s (stackFault b k s).1 :=
  latch_linksKept n s _ _

theorem bodyOpenFrame_linksKept : LinksKept n s (bodyOpenFrame s).1 := by
  unfold bodyOpenFrame
  split
  · exact .of_links (changeStack_links _ s)
  · exact stackFault_linksKept n s _ _

theorem bodyAddMoves_linksKept (p : List Byte) : LinksKept n s (bodyAddMoves p s).1 := by
  unfold bodyAddMoves
  split
  · exact .refl n s
  split
  · exact stackFault_linksKept n s _ _
  dsimp only
  split
  · exact .refl n s
  · exact .of_links (changeStack_links _ s)

theorem bodyDropFrame_linksKept : LinksKept n s (bodyDropFrame s).1 := by
  unfold bodyDropFrame
  split
  · exact stackFault_linksKept n s _ _
  · exact .of_links (changeStack_links _ s)

theorem bodyFoldFrame_linksKept : LinksKept n s (bodyFoldFrame s).1 := by
  have hplan (ms : List Move) : (foldIntoPlan ms s).1.links = s.links := by
    unfold foldIntoPlan
    split
    · rfl
    · simp only [stackDone_state, changeStack_links]
      split <;> rfl
  unfold bodyFoldFrame
  split
  · exact stackFault_linksKept n s _ _
  · exact .of_links (hplan _)
  · exact .of_links (changeStack_links _ s)

theorem bodySuspendWork_linksKept : LinksKept n s (bodySuspendWork s).1 := by
  unfold bodySuspendWork
  split
  · exact .refl n s
  · exact enterSuspension_linksKept n s _

theorem bodyResumeWork_linksKept : LinksKept n s (bodyResumeWork s).1 := by
  unfold bodyResumeWork
  split
  · exact .refl n s
  split
  · exact .refl n s
  · exact (endSuspension_linksKept n s).then (decisionRound_links _)

theorem judgeLift_links (c : CraneId) (a : RequestLiftArgs) (d : Direction) (m : Nat) (k : Lot) :
    (judgeLift c a d m k s).1.links = s.links := by
  unfold judgeLift acceptLift
  dsimp only
  repeat' split
  all_goals simp

theorem joinLift_linksKept (c : CraneId) (a : RequestLiftArgs) (x : TandemArgs) (d : Direction) (m : Nat) (k : Lot) :
    LinksKept n s (joinLift c a x d m k s).1 := by
  unfold joinLift
  dsimp only
  split
  · exact .refl n s
  split
  · exact .refl n s
  · refine .then (u := latchLift [c.opposite, c] _) ?_ (decisionRound_links _)
    exact (latchLift_linksKept n _ _).after (by simp)

theorem bodyRequestLift_linksKept (l : Link) (a : RequestLiftArgs) : LinksKept n s (bodyRequestLift l a s).1 := by
  have hjudge (d : Direction) (m : Nat) (k : Lot) : LinksKept n s (judgeLift (craneOf l) a d m k s).1 :=
    .of_links (judgeLift_links s _ _ _ _ _)
  unfold bodyRequestLift
  dsimp only
  split
  · exact .refl n s
  split
  · exact .refl n s
  split
  · exact .refl n s
  split
  · split
    · split
      · exact joinLift_linksKept n s _ _ _ _ _ _
      · exact hjudge _ _ _
    · exact hjudge _ _ _
  · exact .refl n s

theorem bodyCancelLift_linksKept (l : Link) : LinksKept n s (bodyCancelLift l s).1 := by
  unfold bodyCancelLift
  dsimp only
  split
  · exact (releaseLift_linksKept n s _ _).then (advance_links _ _ _)
  · exact .refl n s

theorem hoist_linksKept (r : LiftRef) (m : Nat) : LinksKept n s (hoist r m s) :=
  (latchLift_linksKept n _ r.cranes).after (by simp)

theorem confirmOn_linksKept (c : CraneId) (m : Nat) : LinksKept n s (confirmOn c m s) := by
  unfold confirmOn
  split
  · exact hoist_linksKept n s _ _
  split
  · exact hoist_linksKept n s _ _
  · exact .of_links (onRec_links _ _ s)

theorem testLoadOn_linksKept (c : CraneId) (m : Nat) : LinksKept n s (testLoadOn c m s) := by
  unfold testLoadOn
  dsimp only
  split
  · exact .refl n s
  split
  · exact (confirmOn_linksKept n _ _ _).after (onRec_links _ _ s)
  · exact .of_links (onRec_links _ _ s)

theorem liftOff_linksKept (r : LiftRef) : LinksKept n s (liftOff r s) := by
  unfold liftOff
  dsimp only
  split
  · exact (completeLift_linksKept n _ _).after (onRecs_links _ _ s)
  · exact (latchLift_linksKept n _ r.cranes).after (by simp)

theorem confirmOff_linksKept (c : CraneId) : LinksKept n s (confirmOff c s) := by
  unfold confirmOff
  split
  · exact liftOff_linksKept n s _
  split
  · exact liftOff_linksKept n s _
  · exact .of_links (onRec_links _ _ s)

theorem testLoadOff_linksKept (c : CraneId) (m : Nat) : LinksKept n s (testLoadOff c m s) := by
  unfold testLoadOff
  dsimp only
  split
  · exact .refl n s
  split
  · exact (confirmOff_linksKept n _ _).after (onRec_links _ _ s)
  · exact .of_links (onRec_links _ _ s)

theorem applyReport_linksKept (c : CraneId) (m : Nat) : LinksKept n s (applyReport c m s) := by
  unfold applyReport
  split
  · exact testLoadOn_linksKept n s c m
  · exact testLoadOff_linksKept n s c m
  · exact testLoadOff_linksKept n s c m
  · exact .refl n s

theorem bodyHookReport_linksKept (l : Link) (m : Nat) (p : Pos) : LinksKept n s (bodyHookReport l m p s).1 := by
  have haccept (c : CraneId) : LinksKept n s (acceptReport c m p s) :=
    ((applyReport_linksKept n (moveHook c m p s) c m).after rfl).then (advance_links _ _ _)
  unfold bodyHookReport
  dsimp only
  split
  · exact .refl n s
  split
  · exact .refl n s
  · exact haccept _

theorem bodyLandingReport_linksKept (l : Link) (a : LandingArgs) : LinksKept n s (bodyLandingReport l a s).1 := by
  have hlower (r : LiftRef) (w : Landing) : LinksKept n s (advance true false (beginLowering r w s)) := by
    refine .then (u := beginLowering r w s) ?_ (advance_links _ _ _)
    exact (latchLift_linksKept n _ r.cranes).after (by simp)
  unfold bodyLandingReport
  dsimp only
  split
  · exact .refl n s
  split
  · split
    · exact .refl n s
    · exact hlower _ _
  · split
    · exact .refl n s
    · refine .then (u := completeLift _ _) ?_ (advance_links _ _ _)
      exact (completeLift_linksKept n _ _).after (onRec_links _ _ s)
  · exact .refl n s

theorem measure_linksKept (k : Nat) : LinksKept n s (measure k s) := by
  unfold measure
  split
  · exact .refl n s
  split
  · exact .refl n s
  dsimp only
  split
  · exact (latchTransfer_linksKept n _).after rfl
  · exact .of_links rfl

theorem takeReadings_linksKept (rs : List Reading) : LinksKept n s (takeReadings rs s) := by
  refine .foldl (fun u r => ?_) rs s
  unfold takeReading
  split
  · exact (measure_linksKept n _ _).after rfl
  · exact (measure_linksKept n _ _).after rfl
  · exact .refl n u

theorem bodyTankReport_linksKept (p : List Byte) : LinksKept n s (bodyTankReport p s).1 := by
  unfold bodyTankReport
  split
  · exact .refl n s
  dsimp only
  split
  · exact .refl n s
  · exact (takeReadings_linksKept n s _).then (advance_links _ _ _)

theorem endGranted_linksKept (id : Nat) (x : Transfer) (kind : EndKind) (m : Nat) (b : Bool) :
    LinksKept n s (endGranted id x kind m b s).1 :=
  (removeTransfer_linksKept n s _ _ _).then (advanceActual_links _)

theorem bodyEndTransfer_linksKept (id : Nat) : LinksKept n s (bodyEndTransfer id s).1 := by
  unfold bodyEndTransfer
  split
  · exact .refl n s
  split
  · exact .refl n s
  · exact endGranted_linksKept n s _ _ _ _ _

theorem bodyCancelTransfer_linksKept (id : Nat) : LinksKept n s (bodyCancelTransfer id s).1 := by
  unfold bodyCancelTransfer
  split
  · exact .refl n s
  split
  · exact removeTransfer_linksKept n s _ _ _
  · exact endGranted_linksKept n s _ _ _ _ _

theorem bodySetNoticeMask_linksKept (l : Link) (e m : Nat) : LinksKept n s (bodySetNoticeMask l e m s).1 := by
  unfold bodySetNoticeMask
  dsimp only
  split
  · exact .refl n s
  split
  · exact .refl n s
  · exact .onLink (setMask_keeps n _ _ _)

theorem bodyReadNotices_linksKept (l : Link) : LinksKept n s (bodyReadNotices l s).1 :=
  .onLink (.of_queues rfl rfl rfl rfl)

end

/-- R178: no request's body takes a place, lets a frame in or counts. -/
theorem bodyOf_linksKept (n : Nat) (l : Link) (r : Request) (s : State) : LinksKept n s (bodyOf l r s).1 := by
  by_cases hr : touchesLinks r = false
  · exact .of_links (bodyOf_links l hr s)
  cases r <;> simp only [touchesLinks, not_true_eq_false] at hr
  case enterConfiguration => exact bodyEnterConfiguration_linksKept n s
  case writeSetting i v => exact bodyWriteSetting_linksKept n s i v
  case restart => exact restartEngine_linksKept n s s
  case openFrame => exact bodyOpenFrame_linksKept n s
  case addMoves p => exact bodyAddMoves_linksKept n s p
  case dropFrame => exact bodyDropFrame_linksKept n s
  case foldFrame => exact bodyFoldFrame_linksKept n s
  case suspendWork => exact bodySuspendWork_linksKept n s
  case resumeWork => exact bodyResumeWork_linksKept n s
  case requestLift a => exact bodyRequestLift_linksKept n s l a
  case cancelLift => exact bodyCancelLift_linksKept n s l
  case hookReport m p => exact bodyHookReport_linksKept n s l m p
  case landingReport a => exact bodyLandingReport_linksKept n s l a
  case tankReport p => exact bodyTankReport_linksKept n s p
  case endTransfer id => exact bodyEndTransfer_linksKept n s id
  case cancelTransfer id => exact bodyCancelTransfer_linksKept n s id
  case setNoticeMask e m => exact bodySetNoticeMask_linksKept n s l e m
  case readNotices => exact bodyReadNotices_linksKept n s l

/-! ### The place of the command being served (R178, R180) -/

/-- The answer fills the place of the command being served, or keeps it for an operation in flight. -/
def Answer.freesPlace : Answer → Bool
  | .quiet _ => true
  | .reply _ => true
  | .inFlight a => decide (a ≠ .current)
  | .silent => false

/-- R180: every request but Restart is answered or becomes an operation in flight. -/
theorem bodyOf_freesPlace (l : Link) {r : Request} (h : r ≠ .restart) (s : State) :
    (bodyOf l r s).2.freesPlace = true := by
  cases r <;> simp only [ne_eq, reduceCtorEq, not_true_eq_false, not_false_eq_true] at h
  all_goals
    simp only [bodyOf, bodyEnterConfiguration, bodyWriteShipData, bodyReadShipData, bodyCommitShipData,
      bodyWriteSetting, bodyReadSetting, bodyStoreSettings, bodyControlLine, bodyClearLineStatus, bodyPlanLot,
      bodyUnplanLot, bodyPlaceLot, bodyRemoveLot, bodyMarkDischarge, bodyUnmarkDischarge, bodyAcceptWeight,
      namedLot, bodyReadLot, bodyQuerySlot, bodyInsertInSequence, bodyRemoveFromSequence, bodyReadSequence,
      bodySetTankManual, bodySetTankTarget, bodyOpenFrame, bodyAddMoves, bodyDropFrame, bodyFoldFrame, foldIntoPlan,
      bodyReadResults, bodyReadViolations, bodyReadRecords, bodyAcknowledgeRecords, bodySuspendWork, bodyResumeWork,
      bodyOpenSnapshot, bodyReadSnapshotPage, bodyCloseSnapshot, bodyWriteImagePage, bodyApplyImage,
      bodyRequestLift, judgeLift, joinLift, acceptLift, bodyCancelLift, bodyHookReport, bodyLandingReport,
      bodyReadLiftStatus, bodyTankReport, bodyRequestTransfer, acceptTransfer, bodyEndTransfer, bodyCancelTransfer,
      bodyReadTransfers, bodySetNoticeMask, bodyReadNotices, endGranted]
    repeat' split
    all_goals rfl

/-- R178, R180: what the answer to a command makes of the places: the one reserved for it is filled or kept, or the
links have been reset. -/
theorem finish_linksKept {n : Nat} {s t : State} {l : Link} {k tag : Byte} {a : Answer}
    (hfree : (s.links.get l).hasFree = true) (h : LinksKept n (s.onLink l (LinkUnit.reserve k tag)) t)
    (ha : a.freesPlace = true ∨ a = .silent ∧ LinksKept n s t) : LinksKept n s (finish l a t) := by
  have hplace (f : Byte → Byte → OutPlace) (hs : ∀ k t, (f k t).isSending = false)
      (hc : ∀ k t, (f k t).isCurrent = false) :
      LinksKept n s (t.onLink l (fun u => { u with outbound := onReserved .current f u.outbound })) := fun j => by
    have hj := h j
    rw [onLink_get] at hj ⊢
    split
    case isTrue hjl =>
      subst hjl
      rw [if_pos rfl] at hj
      exact .freed hfree hj hs hc
    case isFalse hjl => rwa [if_neg hjl] at hj
  cases a with
  | quiet r => exact (hplace _ (fun _ _ => rfl) (fun _ _ => rfl)).trans (.onLink (startTx_keeps n _ _))
  | reply r => exact (hplace _ (fun _ _ => rfl) (fun _ _ => rfl)).trans (settle_linksKept n _)
  | inFlight x =>
    have hx : x ≠ .current := by simpa [Answer.freesPlace] using ha
    have hkept (k t : Byte) : (OutPlace.reserved x k t).isCurrent = false := by
      cases x
      case current => exact absurd rfl hx
      all_goals rfl
    exact (hplace _ (fun _ _ => rfl) hkept).trans (settle_linksKept n _)
  | silent =>
    obtain ⟨_, hreset⟩ := ha.resolve_left (by simp [Answer.freesPlace])
    exact hreset.trans (settle_linksKept n t)

/-- R178 to R180: a refusal at admission fills the place reserved for it. -/
theorem refused_linksKept (n : Nat) {s : State} {l : Link} (hfree : (s.links.get l).hasFree = true) (k t : Byte)
    (rep : Reply) : LinksKept n s (finish l (.quiet rep) (s.onLink l (LinkUnit.reserve k t))) :=
  finish_linksKept hfree (.refl n _) (.inl rfl)

/-- R178, R180: the body of an admitted request, and its answer in the place reserved for it. -/
theorem admitted_linksKept (n : Nat) {s : State} {l : Link} (hfree : (s.links.get l).hasFree = true) (k t : Byte)
    (r : Request) :
    LinksKept n s (finish l (bodyOf l r (s.onLink l (LinkUnit.reserve k t))).2
      (bodyOf l r (s.onLink l (LinkUnit.reserve k t))).1) := by
  refine finish_linksKept hfree (bodyOf_linksKept n l r _) ?_
  by_cases hr : r = .restart
  · subst hr
    exact .inr ⟨rfl, restartEngine_linksKept n s _⟩
  · exact .inl (bodyOf_freesPlace l hr _)

theorem takenAs_linksKept (n : Nat) {s : State} {l : Link} (hfree : (s.links.get l).hasFree = true) (k t : Byte)
    (req : Option Request) : LinksKept n s (takenAs l k t req (bodyOf l) s) := by
  rcases takenAs_cases l k t req (bodyOf l) s with ⟨st, e⟩ | ⟨r, _, _, _, e⟩
  · exact e ▸ refused_linksKept n hfree k t _
  · exact e ▸ admitted_linksKept n hfree k t r

/-! ### Every command (R174, R178) -/

theorem dueEvent_linksKept {n : Nat} {due : State → Bool} {f : State → State} {s t : State}
    (hf : ∀ u, LinksKept n u (f u)) (h : dueEvent due f s = .next t) : LinksKept n s t := by
  rcases dueEvent_cases h with rfl | ⟨_, _, rfl⟩
  · exact .refl n _
  · exact (hf s).trans (settle_linksKept n _)

theorem event_linksKept {n : Nat} {f : State → State} {s t : State} (hf : LinksKept n s (f s))
    (h : event f s = .next t) : LinksKept n s t := by
  rcases event_cases h with ⟨_, rfl⟩ | ⟨_, rfl⟩
  · exact .refl n _
  · exact hf

theorem linkEvent_linksKept {n : Nat} {l : Link} {f : LinkUnit → LinkUnit} {s : State}
    (hf : ∀ u : LinkUnit, u.Keeps n (f u)) : LinksKept n s (linkEvent l f s) :=
  .onLink ((hf _).trans (startTx_keeps n _ _))

/-- Every command keeps the queues and counts of every link within their bounds and leaves no place reserved for a
command that has been served. -/
theorem exec_linksKept {i : Instr} {s t : State} (h : exec i s = .next t) : LinksKept Config.linkPlaces s t := by
  have hfree {l : Link} (hc : canTake s l = true) : (s.links.get l).hasFree = true := (Bool.and_eq_true_iff.mp hc).2
  rcases hr : i.request with _ | ⟨l, tag, r⟩
  · cases i <;> simp only [Instr.request, reduceCtorEq] at hr <;> simp only [exec] at h
    case powerOn => cases h; exact powerOnState_linksKept _ s
    case restartLine =>
      refine event_linksKept ?_ h
      split
      · exact (restartEngine_linksKept _ s _).trans (startAllTx_linksKept _ _)
      · exact .refl _ s
    case endOfInitializing => exact dueEvent_linksKept (endInitializing_linksKept _) h
    case timebaseAdvance => exact event_linksKept (f := fun s => { s with time := s.time + 1 }) (.of_links rfl) h
    case commitCompletion => exact dueEvent_linksKept (completeCommit_linksKept _) h
    case storeSettingsCompletion => exact dueEvent_linksKept (completeStore_linksKept _) h
    case openSnapshotCompletion => exact dueEvent_linksKept (completeSnapshot_linksKept _) h
    case pairingTimeout c => exact dueEvent_linksKept (timeoutLift_linksKept _ · c) h
    case requestTimeout c => exact dueEvent_linksKept (timeoutLift_linksKept _ · c) h
    case clearanceLapse => exact dueEvent_linksKept (fun u => timeoutLift_linksKept _ u _) h
    case craneBecomesStale c =>
      exact dueEvent_linksKept (fun u => (craneGoesStale_linksKept _ u c).then (advanceActual_links _)) h
    case tankBecomesStale k =>
      exact dueEvent_linksKept (fun u => (tankGoesStale_linksKept _ u k).then (advanceActual_links _)) h
    case transferRequestTimeout k => exact dueEvent_linksKept (timeoutTransfer_linksKept _ · k) h
    case publication =>
      refine dueEvent_linksKept (fun u => ?_) h
      split
      · exact publish_linksKept _ u _
      · exact .refl _ u
    case hookPassComplete => exact dueEvent_linksKept (fun u => .of_links (completeHookPass_links u)) h
    case predictionCompletion => exact dueEvent_linksKept (completePrediction_linksKept _) h
    case frameReceived l cs => exact event_linksKept (linkEvent_linksKept (hearAll_keeps cs)) h
    case characterGapTimeout l =>
      refine event_linksKept (linkEvent_linksKept fun u => ?_) h
      split
      · exact .refl _ u
      · exact discard_keeps _ u
    case lineBreak l =>
      refine event_linksKept (.onLink ?_) h
      split
      · exact .refl _ _
      · exact broken_keeps _ _ _ _
    case takeFrame l =>
      rcases takeFrame_cases (by exact h) with rfl | ⟨f, rest, _, hc, hq, rfl⟩
      · exact .refl _ _
      · have hhead : (s.links.get l).Keeps Config.linkPlaces { s.links.get l with inbound := rest } :=
          ⟨fun hi => by rw [hq] at hi; exact Nat.le_of_succ_le hi, id, id, id, id, le_rfl⟩
        refine .trans (.onLink hhead) (takenAs_linksKept _ ?_ _ _ _)
        rw [onLink_get_self]
        exact hfree hc
    case frameDeparture l => exact event_linksKept (linkEvent_linksKept (depart_keeps _)) h
    case powerLoss =>
      rcases event_cases h with ⟨_, rfl⟩ | ⟨_, rfl⟩
      · exact .refl _ _
      · exact .of_links (interruptStore_links s)
    case receiveLineReturnToIdle l => cases h; exact .onLink (.of_queues rfl rfl rfl rfl)
    case restartInputReturnToRest => cases h; exact .of_links rfl
  · rw [exec_request hr] at h
    rcases command_cases h with rfl | ⟨_, f, rfl⟩ | ⟨_, hc, _, st, rfl⟩ | ⟨_, hc, _, _, _, rfl⟩
    · exact .refl _ _
    · exact .onLink ((receive_keeps f _).trans (startTx_keeps _ _ _))
    · exact refused_linksKept _ (hfree hc) _ _ _
    · exact admitted_linksKept _ (hfree hc) _ _ r

theorem step_linksKept {s t : State} (h : step s = .next t) : LinksKept Config.linkPlaces s t := by
  unfold step at h
  split at h
  · cases h
    exact .refl _ _
  · exact (exec_linksKept h).after rfl

theorem linksBounded_iff {s : State} : linksBounded s = true ↔ ∀ l, (s.links.get l).bounded = true := by
  simp only [linksBounded, List.all_eq_true]
  exact ⟨fun h l => h l (by cases l <;> decide), fun h l _ => h l⟩

theorem noneServed_iff {s : State} : noneServed s = true ↔ ∀ l, (s.links.get l).served = 0 := by
  simp only [noneServed, List.all_eq_true, LinkUnit.served, List.countP_eq_zero, Bool.not_eq_true', Bool.not_eq_true]
  exact ⟨fun h l => h l (by cases l <;> decide), fun h l _ => h l⟩

/-- Settles O4: every step keeps each link within its bounds and reserves no place beyond it (`step_linksKept`). -/
theorem linksStayBounded : Obligations.LinksStayBounded := by
  refine ⟨fun s t hs h => ?_, fun s t hs h => ?_⟩
  · exact linksBounded_iff.mpr fun l => (step_linksKept h l).bounded (linksBounded_iff.mp hs l)
  · exact noneServed_iff.mpr fun l => Nat.le_zero.mp ((noneServed_iff.mp hs l) ▸ (step_linksKept h l).served)

end Sys2Proof.Machine
end

section
/-! Latching, reception, breaks and departures (R173 to R177, R181 to R183, R186). -/

namespace Sys2Proof.Machine

/-! ### Latching (R182, R183) -/

theorem any_isNotice {q : List OutPlace} : q.any OutPlace.isNotice = true ↔ OutPlace.notice ∈ q := by
  rw [List.any_eq_true]
  refine ⟨fun ⟨p, hp, hn⟩ => ?_, fun h => ⟨.notice, h, rfl⟩⟩
  cases p with
  | notice => exact hp
  | _ => cases hn

/-- R183: a due notice frame merges with one that waits. -/
theorem noticeDue_of_waiting {u : LinkUnit} (h : OutPlace.notice ∈ u.outbound) : u.noticeDue = u :=
  if_pos (any_isNotice.mpr h)

theorem noticeDue_of_room {u : LinkUnit} (h : OutPlace.notice ∉ u.outbound)
    (hroom : u.outbound.length < Config.linkPlaces) :
    u.noticeDue = { u with outbound := u.outbound ++ [.notice] } := by
  rw [LinkUnit.noticeDue, if_neg (mt any_isNotice.mp h), if_pos (by simpa [LinkUnit.hasFree] using hroom)]

theorem noticeDue_of_full {u : LinkUnit} (h : OutPlace.notice ∉ u.outbound)
    (hfull : Config.linkPlaces ≤ u.outbound.length) : u.noticeDue = { u with owed := true } := by
  rw [LinkUnit.noticeDue, if_neg (mt any_isNotice.mp h), if_neg (by simpa [LinkUnit.hasFree] using hfull)]

theorem latch_of_set {e : Event} {u : LinkUnit} (h : u.notices.getLsbD e.bit = true) : u.latch e = u := if_pos h

theorem latch_of_clear {e : Event} {u : LinkUnit} (h : u.notices.getLsbD e.bit = false) :
    u.latch e =
      if u.mask.getLsbD e.bit then LinkUnit.noticeDue { u with notices := u.notices ||| e.flag }
      else { u with notices := u.notices ||| e.flag } :=
  if_neg (by simp [h])

/-- Settles O18: a bit that is set leaves the link as it is (`latch_of_set`); one that is taken to set makes a notice
frame due where it is unmasked (`latch_of_clear`), merged, placed or owed. -/
theorem latchingMakesANoticeDue : Obligations.LatchingMakesANoticeDue := by
  refine fun e u => ⟨latch_unit_notices e u, fun h => ?_, fun hclear hmask => ⟨fun hm => ?_, fun hm hroom => ?_,
    fun hm hfull => ?_⟩⟩
  · by_cases hset : u.notices.getLsbD e.bit = true
    · rw [latch_of_set hset]
      exact ⟨rfl, rfl⟩
    · have hmask : u.mask.getLsbD e.bit = false := h.resolve_left hset
      rw [latch_of_clear (by simpa using hset), hmask]
      exact ⟨rfl, rfl⟩
  all_goals rw [latch_of_clear hclear, if_pos hmask]
  · rw [noticeDue_of_waiting (by exact hm)]
    exact ⟨rfl, rfl⟩
  · rw [noticeDue_of_room (by exact hm) (by exact hroom)]
    exact ⟨rfl, rfl⟩
  · rw [noticeDue_of_full (by exact hm) (by exact hfull)]
    exact ⟨rfl, rfl⟩

/-! ### Discards (R176) -/

theorem exec_characterGapTimeout {s : State} (hp : s.powered = true) (l : Link) :
    exec (.characterGapTimeout l) s =
      .next (linkEvent l (fun u => if u.rx = .hunt then u else u.discard) s) := by
  simp [exec, execCharacterGapTimeout, event, hp]

theorem exec_frameReceived {s : State} (hp : s.powered = true) (l : Link) (cs : List RxChar) :
    exec (.frameReceived l cs) s = .next (linkEvent l (fun u => cs.foldl LinkUnit.hear u) s) := by
  simp [exec, execFrameReceived, event, hp]

/-- R176: what stands of a link when the frame in reception is discarded. -/
theorem discard_standing (u : LinkUnit) :
    u.discard.standing =
      LinkUnit.standing
        { u with rx := .hunt, errorCount := bump u.errorCount, notices := u.notices ||| Event.frameError.flag } :=
  latch_unit_standing _ _

/-- What stands of a link after a change to it and the start of its next transmission. -/
theorem linkEvent_standing {l : Link} {f g : LinkUnit → LinkUnit} {s : State}
    (h : (f (s.links.get l)).standing = (g (s.links.get l)).standing) :
    (linkEvent l f s).standing = (s.onLink l g).standing :=
  onLink_standing_congr rfl ((standing_startTx _ _).trans h)

theorem linkEvent_standing_of_same {l : Link} {f : LinkUnit → LinkUnit} {s : State}
    (h : f (s.links.get l) = s.links.get l) : (linkEvent l f s).standing = s.standing :=
  standing_onLink ((standing_startTx _ _).trans (congrArg LinkUnit.standing h))

/-- R175, R186: a character with a high stop bit on a line that no break holds low. -/
theorem hear_of_stopOk {u : LinkUnit} (hu : u.lineLow = false) (b : Byte) : u.hear ⟨b, true⟩ = u.character b := by
  simp [LinkUnit.hear, hu]

theorem hear_of_lowStop {u : LinkUnit} (hu : u.lineLow = false) (b : Byte) :
    u.hear ⟨b, false⟩ = if u.rx = .hunt then u else u.discard := by
  simp [LinkUnit.hear, hu]

theorem character_of_longLength {u : LinkUnit} {b : Byte} (hrx : u.rx = .header []) (hb : Config.maxPayload < b.toNat) :
    u.character b = u.discard := by
  simp only [LinkUnit.character, hrx, if_pos hb]

theorem character_of_badCheck {u : LinkUnit} {k t hi lo : Byte} {p : List Byte} (hrx : u.rx = .check k t p (some hi))
    (hb : beNat [hi, lo] ≠ (crc (Frame.checked ⟨k, t, p⟩)).toNat) : u.character lo = u.discard := by
  simp only [LinkUnit.character, hrx, LinkUnit.checkFrame, if_neg hb]

/-- Settles O15: each of the four causes discards the frame in reception (`discard_standing`), and in HUNT a low stop
bit and a gap leave the link as it is. -/
theorem badFramesAreDiscarded : Obligations.BadFramesAreDiscarded := by
  intro s l hp discarded
  have hdiscard {f : LinkUnit → LinkUnit} (h : f (s.links.get l) = (s.links.get l).discard) :
      (linkEvent l f s).standing = discarded.standing :=
    linkEvent_standing ((congrArg LinkUnit.standing h).trans (discard_standing _))
  have hgap := exec_characterGapTimeout hp l
  refine ⟨fun h => ⟨_, hgap, hdiscard (if_neg h)⟩, fun h => ⟨_, hgap, linkEvent_standing_of_same (if_pos h)⟩,
    fun hu => ⟨fun b h => ?_, fun b h => ?_, fun b h hb => ?_, fun k t p hi lo h hb => ?_⟩⟩
  all_goals refine ⟨_, exec_frameReceived hp l _, ?_⟩
  · exact hdiscard ((hear_of_lowStop hu b).trans (if_neg h))
  · exact linkEvent_standing_of_same ((hear_of_lowStop hu b).trans (if_pos h))
  · exact hdiscard ((hear_of_stopOk hu b).trans (character_of_longLength h hb))
  · exact hdiscard ((hear_of_stopOk hu lo).trans (character_of_badCheck h hb))

/-! ### A whole frame (R173, R175, R177) -/

/-- The characters of a run of bytes with their stop bits high. -/
def goodChars (bs : List Byte) : List RxChar := bs.map (fun b => ⟨b, true⟩)

/-- A link with its receiver in a state. -/
def LinkUnit.receiving (r : Receiver) (u : LinkUnit) : LinkUnit := { u with rx := r }

/-- What a run of bytes makes of a link, one byte after another. -/
theorem hear_goodChars_cons {u : LinkUnit} (hu : u.lineLow = false) (b : Byte) (bs : List Byte) :
    (goodChars (b :: bs)).foldl LinkUnit.hear u = (goodChars bs).foldl LinkUnit.hear (u.character b) := by
  rw [goodChars, List.map_cons, List.foldl_cons, hear_of_stopOk hu, goodChars]

/-- R175, rows PAYLOAD: the bytes of the payload are kept until the length is reached. -/
theorem hear_body {u : LinkUnit} (hu : u.lineLow = false) (len : Nat) (k t : Byte) (rest after : List Byte)
    (got : List Byte) (hlen : got.length + rest.length = len) (hrest : rest ≠ []) :
    (goodChars (rest ++ after)).foldl LinkUnit.hear (u.receiving (.body len k t got)) =
      (goodChars after).foldl LinkUnit.hear (u.receiving (.check k t (got ++ rest) none)) := by
  induction rest generalizing got with
  | nil => exact absurd rfl hrest
  | cons b rest ih =>
    rw [List.cons_append, hear_goodChars_cons (by exact hu)]
    cases rest with
    | nil =>
      have hlast : ¬ got.length + 1 < len := by simp at hlen; omega
      simp only [LinkUnit.character, LinkUnit.receiving, if_neg hlast, List.nil_append]
    | cons c rest =>
      have hmore : got.length + 1 < len := by simp at hlen; omega
      have hstep : (u.receiving (.body len k t got)).character b = u.receiving (.body len k t (got ++ [b])) := by
        simp only [LinkUnit.character, LinkUnit.receiving, if_pos hmore]
      rw [hstep, ih (got ++ [b]) (by simp at hlen ⊢; omega) (by simp), List.append_assoc, List.singleton_append]

/-- R175: the mark, the length, the kind, the tag and the payload bring the receiver to the check. -/
theorem hear_header {u : LinkUnit} (hu : u.lineLow = false) (hrx : u.rx = .hunt) {f : Frame}
    (hf : f.payload.length ≤ Config.maxPayload) (after : List Byte) :
    (goodChars (Config.mark :: f.checked ++ after)).foldl LinkUnit.hear u =
      (goodChars after).foldl LinkUnit.hear (u.receiving (.check f.kind f.tag f.payload none)) := by
  have hlen : f.lenByte.toNat = f.payload.length := by
    have : Config.maxPayload = 240 := rfl
    simp only [Frame.lenByte, BitVec.toNat_ofNat]
    omega
  have hmark : u.character Config.mark = u.receiving (.header []) := by
    simp only [LinkUnit.character, hrx, if_pos, LinkUnit.receiving]
  have hlength : (u.receiving (.header [])).character f.lenByte = u.receiving (.header [f.lenByte]) := by
    simp only [LinkUnit.character, LinkUnit.receiving, hlen, if_neg (Nat.not_lt.mpr hf)]
  have hkind : (u.receiving (.header [f.lenByte])).character f.kind = u.receiving (.header [f.lenByte, f.kind]) := rfl
  have htag : (u.receiving (.header [f.lenByte, f.kind])).character f.tag =
      u.receiving (if f.payload.length = 0 then .check f.kind f.tag [] none
        else .body f.payload.length f.kind f.tag []) := by
    simp only [LinkUnit.character, LinkUnit.receiving, hlen]
    split <;> rfl
  rw [Frame.checked]
  simp only [List.cons_append]
  rw [hear_goodChars_cons hu, hmark, hear_goodChars_cons (by exact hu), hlength, hear_goodChars_cons (by exact hu),
    hkind, hear_goodChars_cons (by exact hu), htag]
  by_cases hp : f.payload = []
  · simp [hp]
  · rw [if_neg (by simpa using hp), hear_body hu _ _ _ _ _ [] (by simp) hp, List.nil_append]

/-- R173, R175, R177: the characters of a frame bring it to the inbound queue, or drop it. -/
theorem hear_wire {u : LinkUnit} (hu : u.lineLow = false) (hrx : u.rx = .hunt) {f : Frame}
    (hf : f.payload.length ≤ Config.maxPayload) : (goodChars f.wire).foldl LinkUnit.hear u = u.receive f := by
  obtain ⟨hi, lo, hcheck⟩ : ∃ hi lo, beBytes 2 (crc f.checked).toNat = [hi, lo] := ⟨_, _, rfl⟩
  have hsum : beNat [hi, lo] = (crc f.checked).toNat := by
    rw [← hcheck, beNat_beBytes]
    exact Nat.mod_eq_of_lt (crc f.checked).isLt
  have hsame : { u.receiving (.check f.kind f.tag f.payload (some hi)) with rx := .hunt } = u := by
    cases u
    cases hrx
    rfl
  have hend : (u.receiving (.check f.kind f.tag f.payload (some hi))).character lo = u.receive f := by
    calc (u.receiving (.check f.kind f.tag f.payload (some hi))).character lo
        = (u.receiving (.check f.kind f.tag f.payload (some hi))).checkFrame f hi lo := rfl
      _ = u.receive f := by rw [LinkUnit.checkFrame, if_pos hsum, hsame]
  rw [Frame.wire, hcheck, ← List.cons_append, hear_header hu hrx hf, hear_goodChars_cons (by exact hu)]
  exact (hear_goodChars_cons (by exact hu) lo []).trans hend

/-- Settles O12: the characters of the frame bring it to the inbound queue (`hear_wire`), which takes it or drops it. -/
theorem framesAreReceivedWhole : Obligations.FramesAreReceivedWhole := by
  intro s l f hp hf hrx hu
  have hwire := hear_wire hu hrx hf
  refine ⟨fun hroom => ⟨_, exec_frameReceived hp l _, linkEvent_standing ?_⟩,
    fun hfull => ⟨_, exec_frameReceived hp l _, linkEvent_standing ?_⟩⟩
  · exact (congrArg LinkUnit.standing hwire).trans (receive_standing_of_room hroom f)
  · exact (congrArg LinkUnit.standing hwire).trans (receive_standing_of_full hfull f)

/-! ### Breaks (R186) -/

/-- Settles O16: a break on a line that is not low leaves the link at its reset values; one that goes on changes
nothing. -/
theorem breakResetsTheLink : Obligations.BreakResetsTheLink := by
  intro s l hp
  have hexec : exec (.lineBreak l) s =
      .next (s.onLink l (fun u => if u.lineLow then u else LinkUnit.broken l (standingBits s l))) := by
    simp [exec, execLineBreak, event, hp]
  refine ⟨fun hu => ?_, fun hu => ?_, rfl⟩
  · rw [hexec]
    exact congrArg Host.Outcome.next (onLink_congr (if_neg (by simp [hu])))
  · rw [hexec]
    exact congrArg Host.Outcome.next (onLink_id (if_pos hu))

/-! ### Departures (R181, R183) -/

theorem exec_frameDeparture {s : State} (hp : s.powered = true) (l : Link) :
    exec (.frameDeparture l) s = .next (linkEvent l LinkUnit.depart s) := by
  simp [exec, execFrameDeparture, event, hp]

theorem any_isSending_eq_false {q : List OutPlace} (h : ∀ p ∈ q, p.isSending = false) :
    q.any OutPlace.isSending = false :=
  List.any_eq_false.mpr fun p hp => by simp [h p hp]

/-- R181: empty reserved places are passed over. -/
theorem beginSending_append {f : Frame} {a : List OutPlace} (h : ∀ p ∈ a, ∃ w k t, p = .reserved w k t)
    (b : List OutPlace) : beginSending f (a ++ b) = a ++ beginSending f b := by
  induction a with
  | nil => rfl
  | cons p a ih =>
    obtain ⟨w, k, t, rfl⟩ := h p List.mem_cons_self
    rw [List.cons_append, beginSending, ih fun q hq => h q (List.mem_cons_of_mem _ hq), List.cons_append]
    all_goals simp

theorem isSending_of_reserved {a : List OutPlace} (h : ∀ p ∈ a, ∃ w k t, p = .reserved w k t) :
    ∀ p ∈ a, p.isSending = false := by
  intro p hp
  obtain ⟨w, k, t, rfl⟩ := h p hp
  rfl

/-- R181: with no frame in transmission nothing departs, and the next one begins. -/
theorem linkEvent_depart_of_none {s : State} {l : Link} (h : ∀ p ∈ (s.links.get l).outbound, p.isSending = false) :
    linkEvent l LinkUnit.depart s =
      s.onLink l (fun u => { u with outbound := beginSending (u.noticeFrame s.mode) u.outbound }) := by
  apply onLink_congr
  rw [depart_of_none h, LinkUnit.startTx, any_isSending_eq_false h]
  rfl

theorem linkEvent_depart_of_reserved {s : State} {l : Link}
    (h : ∀ q ∈ (s.links.get l).outbound, ∃ w k t, q = .reserved w k t) : linkEvent l LinkUnit.depart s = s := by
  rw [linkEvent_depart_of_none (isSending_of_reserved h)]
  apply onLink_id
  have hpassed := beginSending_append (f := (s.links.get l).noticeFrame s.mode) h []
  simp only [List.append_nil, beginSending] at hpassed
  rw [hpassed]

/-- Settles O17: the frame in transmission leaves and an owed notice is seated (`depart_of_sending`); with none the
first place that holds a frame begins to send, behind the reserved places (`beginSending_append`). -/
theorem departureFreesAPlace : Obligations.DepartureFreesAPlace := by
  intro s l hp
  have hexec := exec_frameDeparture hp l
  refine ⟨fun a f b hq hnone => ?_, fun a b p f hq ha hb hp => ?_, fun h => ?_, fun h => ?_⟩
  · rw [hexec]
    refine congrArg Host.Outcome.next (onLink_congr ?_)
    have hleft : (a ++ b ++ if (s.links.get l).owed then [OutPlace.notice] else []).any OutPlace.isSending = false := by
      refine any_isSending_eq_false fun p hm => ?_
      rcases List.mem_append.mp hm with hm | hm
      · exact hnone p hm
      · split at hm
        · rw [List.mem_singleton.mp hm]
          rfl
        · cases hm
    rw [depart_of_sending hq fun p hm => hnone p (List.mem_append_left b hm), LinkUnit.startTx,
      if_neg (ne_true_of_eq_false hleft)]
    rfl
  · have hsend : p.isSending = false := by
      rcases hp with rfl | ⟨rfl, _⟩ <;> rfl
    have hnone : ∀ q ∈ (s.links.get l).outbound, q.isSending = false := by
      rw [hq]
      intro q hm
      rcases List.mem_append.mp hm with hm | hm
      · exact isSending_of_reserved ha q hm
      · rcases List.mem_cons.mp hm with rfl | hm
        · exact hsend
        · exact hb q hm
    rw [hexec, linkEvent_depart_of_none hnone]
    refine congrArg Host.Outcome.next (onLink_congr ?_)
    rw [hq, beginSending_append ha]
    rcases hp with rfl | ⟨rfl, rfl⟩ <;> rfl
  · rw [hexec, linkEvent_depart_of_reserved h]
  · rw [hexec, linkEvent_depart_of_reserved (by simp [h])]

end Sys2Proof.Machine
end

section
/-! The notice commands (R183 to R185). -/

namespace Sys2Proof.Machine

/-! ### A quiet answer after a change of the link itself (R178, R180) -/

/-- A request whose body changes its own link alone: the reply takes the reserved place, before what the body has placed
behind it. -/
theorem command_quiet_onLink {s : State} {l : Link} {r : Request} {t : Byte} {body : State → State × Answer}
    {f : LinkUnit → LinkUnit} {rep : Reply} {v : LinkUnit} {tail : List OutPlace} (h : Ready s l r)
    (hb : body (s.onLink l (LinkUnit.reserve r.kind t))
      = ((s.onLink l (LinkUnit.reserve r.kind t)).onLink l f, .quiet rep))
    (hf : f ((s.links.get l).reserve r.kind t) =
      { v with outbound := (s.links.get l).outbound ++ OutPlace.reserved .current r.kind t :: tail }) :
    command l t r body s =
      .next (s.onLink l (fun u =>
        ({ v with outbound := u.outbound ++ OutPlace.reply (replyFrame rep r.kind t) :: tail }).startTx s.mode)) := by
  rw [command_ready h, hb]
  simp only [finish, onLink_onLink, onLink_mode]
  refine congrArg Host.Outcome.next (onLink_congr ?_)
  rw [hf, LinkUnit.fill, onReserved_current (noneServed_get h.none l)]

/-! ### Read Notices (R184) -/

theorem standingBits_onLink (l k : Link) (f : LinkUnit → LinkUnit) (s : State) :
    standingBits (s.onLink l f) k = standingBits s k := rfl

theorem noticesImage_reserve (m : Mode) (k t : Byte) (u : LinkUnit) :
    noticesImage m (u.reserve k t) = noticesImage m u := rfl

theorem readNotices_completes {s : State} {l : Link} (h : Ready s l .readNotices) (tag : Byte) :
    exec (.readNotices l tag) s = .next (s.onLink l (fun u =>
      ({ u with
          outbound := u.outbound ++ [OutPlace.reply (replyFrame ⟨.done, noticesImage s.mode u⟩ 0x51#8 tag)]
          notices := u.notices &&& standingBits s l }).startTx s.mode)) := by
  have hbody : bodyReadNotices l (s.onLink l (LinkUnit.reserve Request.readNotices.kind tag))
      = ((s.onLink l (LinkUnit.reserve Request.readNotices.kind tag)).onLink l
          (fun u => { u with notices := u.notices &&& standingBits s l }),
        .quiet ⟨.done, noticesImage s.mode (s.links.get l)⟩) := by
    simp only [bodyReadNotices, onLink_get_self, noticesImage_reserve, onLink_mode, standingBits_onLink]
  exact (command_quiet_onLink (v := { s.links.get l with notices := (s.links.get l).notices &&& standingBits s l })
    (tail := []) h hbody rfl).trans (congrArg Host.Outcome.next (onLink_congr rfl))

/-! ### Set Notice Mask (R183, R185) -/

/-- R183: the mask `m` in the mode `level` makes a notice frame due that does not merge with one that waits. -/
def LinkUnit.seatsNotice (m : Word16) (level : Bool) (u : LinkUnit) : Bool :=
  level && decide (u.notices &&& m &&& ~~~u.mask ≠ 0#16) && decide (OutPlace.notice ∉ u.outbound)

/-- A place is free behind the one that is reserved for the reply. -/
def LinkUnit.hasSecond (u : LinkUnit) : Bool := decide (u.outbound.length + 1 < Config.linkPlaces)

/-- R183, R185: what Set Notice Mask makes of a link, but for its queue. -/
def LinkUnit.masked (m : Word16) (level : Bool) (u : LinkUnit) : LinkUnit :=
  { u with mask := m, level := level, owed := u.owed || (u.seatsNotice m level && !u.hasSecond) }

/-- R183, R185: the mask and the mode of a link with the reply's place reserved, and the notice frame behind it. -/
theorem setMask_reserve (m : Word16) (level : Bool) (k t : Byte) (u : LinkUnit) :
    (u.reserve k t).setMask m level =
      { u.masked m level with
        outbound := u.outbound ++ OutPlace.reserved .current k t ::
          (if u.seatsNotice m level && u.hasSecond then [OutPlace.notice] else []) } := by
  have hmem : OutPlace.notice ∈ (u.reserve k t).outbound ↔ OutPlace.notice ∈ u.outbound := by simp [LinkUnit.reserve]
  have hlen : (u.reserve k t).outbound.length = u.outbound.length + 1 := by simp [LinkUnit.reserve]
  by_cases hdue : (level && decide (u.notices &&& m &&& ~~~u.mask ≠ 0#16)) = true
  · rw [LinkUnit.setMask, if_pos (by exact hdue)]
    by_cases hn : OutPlace.notice ∈ u.outbound
    · have hseat : u.seatsNotice m level = false := by simp [LinkUnit.seatsNotice, hn]
      rw [noticeDue_of_waiting (by exact hmem.mpr hn)]
      simp [LinkUnit.reserve, LinkUnit.masked, hseat]
    · have hseat : u.seatsNotice m level = true := by simpa [LinkUnit.seatsNotice, hn] using hdue
      by_cases hroom : u.outbound.length + 1 < Config.linkPlaces
      · have hsecond : u.hasSecond = true := decide_eq_true hroom
        rw [noticeDue_of_room (by exact mt hmem.mp hn) (by exact hlen ▸ hroom)]
        simp [LinkUnit.reserve, LinkUnit.masked, hseat, hsecond]
      · have hsecond : u.hasSecond = false := decide_eq_false hroom
        rw [noticeDue_of_full (by exact mt hmem.mp hn) (by exact hlen ▸ Nat.not_lt.mp hroom)]
        simp [LinkUnit.reserve, LinkUnit.masked, hseat, hsecond]
  · have hseat : u.seatsNotice m level = false := by
      rw [LinkUnit.seatsNotice, eq_false_of_ne_true hdue, Bool.false_and]
    rw [LinkUnit.setMask, if_neg (by exact hdue)]
    simp [LinkUnit.reserve, LinkUnit.masked, hseat]

theorem boolOf_of_le {n : Nat} (h : n ≤ 1) : boolOf n = some (decide (n = 1)) := by
  interval_cases n <;> rfl

theorem boolOf_of_lt {n : Nat} (h : 1 < n) : boolOf n = none := by
  obtain ⟨k, rfl⟩ := Nat.exists_eq_add_of_lt h
  rw [show 1 + k + 1 = k + 2 by omega]
  rfl

theorem bodySetNoticeMask_refuses {events mode : Nat} {l : Link}
    (h : 1 < mode ∨ namedEvents events &&& ~~~linkEvents l ≠ 0#16) (s : State) :
    bodySetNoticeMask l events mode s = refuse .badValue s := by
  by_cases hm : mode ≤ 1
  · simp only [bodySetNoticeMask, boolOf_of_le hm, if_pos (h.resolve_left (Nat.not_lt.mpr hm))]
  · simp only [bodySetNoticeMask, boolOf_of_lt (Nat.not_le.mp hm)]

theorem bodySetNoticeMask_writes {events mode : Nat} {l : Link} (hm : mode ≤ 1)
    (hev : namedEvents events &&& ~~~linkEvents l = 0#16) (s : State) :
    bodySetNoticeMask l events mode s =
      (s.onLink l (LinkUnit.setMask (namedEvents events) (decide (mode = 1))),
        .quiet ⟨.done, encU 2 (s.links.get l).mask.toNat ++ encU 1 (beBool (s.links.get l).level)⟩) := by
  simp only [bodySetNoticeMask, boolOf_of_le hm, if_neg (not_not_intro hev)]

theorem setNoticeMask_completes {s : State} {l : Link} {events mode : Nat}
    (h : Ready s l (.setNoticeMask events mode)) (tag : Byte) (hm : mode ≤ 1)
    (hev : namedEvents events &&& ~~~linkEvents l = 0#16) :
    exec (.setNoticeMask l tag events mode) s = .next (s.onLink l (fun u =>
      ({ u with
          mask := namedEvents events, level := decide (mode = 1)
          outbound := u.outbound
            ++ OutPlace.reply (replyFrame ⟨.done, encU 2 u.mask.toNat ++ encU 1 (beBool u.level)⟩ 0x50#8 tag)
              :: (if u.seatsNotice (namedEvents events) (decide (mode = 1)) && u.hasSecond then [OutPlace.notice]
                else [])
          owed := u.owed || (u.seatsNotice (namedEvents events) (decide (mode = 1)) && !u.hasSecond) }).startTx
        s.mode)) := by
  have hbody := bodySetNoticeMask_writes hm hev
    (s.onLink l (LinkUnit.reserve (Request.setNoticeMask events mode).kind tag))
  rw [onLink_get_self] at hbody
  exact (command_quiet_onLink (v := (s.links.get l).masked _ _) h hbody (setMask_reserve _ _ _ _ _)).trans
    (congrArg Host.Outcome.next (onLink_congr rfl))

/-- Settles O19: the two bodies change their own link alone (`command_quiet_onLink`), and what Set Notice Mask makes of
a link with its reply's place reserved is `setMask_reserve`. -/
theorem noticeCommandsComplete : Obligations.NoticeCommandsComplete := by
  refine ⟨fun s l tag h => readNotices_completes h tag, fun s l tag events mode h =>
    ⟨fun hbad => command_quiet h (bodySetNoticeMask_refuses hbad _), fun hm hev => ?_,
      fun hm hev => setNoticeMask_completes h tag hm hev⟩⟩
  refine ⟨_, setNoticeMask_completes h tag hm hev, ?_, ?_⟩
  · exact onLink_standing_congr rfl (standing_startTx _ _)
  · rw [State.sends, onLink_get_self]
    exact sends_startTx (.inl (by simp))

end Sys2Proof.Machine
end

section
/-! The payloads of the requests, read back as they were written (R187, R188, R190, R191). -/

namespace Sys2Proof.Machine

/-! ### Fields of a payload (R187) -/

theorem fieldU_beBytes {w n : Nat} (h : fitsU w n = true) (r : List Byte) : fieldU (beBytes w n ++ r) 0 w = n := by
  have hn : n < 256 ^ w := of_decide_eq_true h
  rw [beBytes_eq_encU hn, fieldU_first hn]

theorem fieldU_beBytes_last {w n : Nat} (h : fitsU w n = true) : fieldU (beBytes w n) 0 w = n := by
  rw [← List.append_nil (beBytes w n), fieldU_beBytes h]

theorem fieldS_beSigned {i : Int} (h : fitsS 4 i = true) (r : List Byte) : fieldS (beSigned 4 i ++ r) 0 4 = i := by
  obtain ⟨hlo, hhi⟩ : -(256 ^ 4 : Int) ≤ 2 * i ∧ 2 * i < 256 ^ 4 := of_decide_eq_true h
  have henc : beSigned 4 i = encS 4 i := by
    rw [encS]
    congr 1
    push_cast
    omega
  rw [henc, fieldS_first (by decide) hlo hhi]

@[simp] theorem length_posBytes (p : Pos) : (posBytes p).length = 12 := by simp [posBytes, beSigned]

@[simp] theorem length_footBytes (f : Footprint) : (footBytes f).length = 4 := by simp [footBytes]

@[simp] theorem length_flagsByte (bs : List Bool) : (flagsByte bs).length = 1 := by simp [flagsByte]

theorem posAt_posBytes {p : Pos} (h : p.wf = true) (r : List Byte) : posAt (posBytes p ++ r) 0 = p := by
  simp only [Pos.wf, Bool.and_eq_true] at h
  obtain ⟨⟨hx, hy⟩, hz⟩ := h
  have hlen (i : Int) : (beSigned 4 i).length = 4 := length_beBytes _ _
  simp [posAt, posBytes, fieldS_past, hlen, fieldS_beSigned hx, fieldS_beSigned hy, fieldS_beSigned hz]

theorem posAt_posBytes_last {p : Pos} (h : p.wf = true) : posAt (posBytes p) 0 = p := by
  rw [← List.append_nil (posBytes p), posAt_posBytes h]

theorem flagAt_past {a r : List Byte} {off k : Nat} (h : a.length ≤ off) :
    flagAt (a ++ r) off k = flagAt r (off - a.length) k := by
  rw [flagAt, fieldU_past h, flagAt]

theorem flagAt_one (a : Bool) (r : List Byte) : flagAt (flagsByte [a] ++ r) 0 0 = a := by
  rw [flagAt, flagsByte, fieldU_beBytes (by cases a <;> rfl)]
  cases a <;> rfl

theorem flagAt_two (a b : Bool) (r : List Byte) :
    flagAt (flagsByte [a, b] ++ r) 0 0 = a ∧ flagAt (flagsByte [a, b] ++ r) 0 1 = b := by
  rw [flagAt, flagAt, flagsByte, fieldU_beBytes (by cases a <;> cases b <;> rfl)]
  cases a <;> cases b <;> exact ⟨rfl, rfl⟩

/-! ### The records of a payload (R191) -/

theorem planLotOf_payload {a : PlanLotArgs} (h : a.wf = true) : planLotOf (planLotPayload a) = a := by
  obtain ⟨lot, mass, ⟨pos, area⟩, foot⟩ := a
  simp only [PlanLotArgs.wf, Loc.wf, Bool.and_eq_true] at h
  obtain ⟨⟨⟨hlot, hmass⟩, hpos, harea⟩, hfoot⟩ := h
  cases foot with
  | none =>
    simp [planLotOf, planLotPayload, fieldU_past, posAt_past, flagAt_past, flagAt_one, fieldU_beBytes, posAt_posBytes,
      hlot, hmass, hpos, harea]
  | some f =>
    simp only [Option.all_some, Footprint.wf, Bool.and_eq_true] at hfoot
    simp [planLotOf, planLotPayload, footBytes, fieldU_past, posAt_past, flagAt_past, flagAt_one, fieldU_beBytes,
      fieldU_beBytes_last, posAt_posBytes, hlot, hmass, hpos, harea, hfoot]

theorem placeLotOf_payload {a : PlaceLotArgs} (h : a.wf = true) : placeLotOf (placeLotPayload a) = a := by
  obtain ⟨lot, mass, ⟨pos, area⟩, foot⟩ := a
  simp only [PlaceLotArgs.wf, Loc.wf, Bool.and_eq_true] at h
  obtain ⟨⟨⟨hlot, hmass⟩, hpos, harea⟩, hfoot⟩ := h
  have hmass' : (if mass.isSome = true then some (mass.getD 0) else none) = mass := by cases mass <;> rfl
  have hget : fitsU 4 (mass.getD 0) = true := by
    cases mass with
    | none => rfl
    | some m => simpa using hmass
  cases foot with
  | none =>
    simp [placeLotOf, placeLotPayload, fieldU_past, posAt_past, flagAt_past, flagAt_two, fieldU_beBytes,
      posAt_posBytes, hlot, hget, hmass', hpos, harea]
  | some f =>
    simp only [Option.all_some, Footprint.wf, Bool.and_eq_true] at hfoot
    simp [placeLotOf, placeLotPayload, footBytes, fieldU_past, posAt_past, flagAt_past, flagAt_two, fieldU_beBytes,
      fieldU_beBytes_last, posAt_posBytes, hlot, hget, hmass', hpos, harea, hfoot]

/-- The location of a request, or the zero bytes that stand where it has none. -/
def locationBytes (x : Option Loc) : List Byte :=
  match x with
  | some l => posBytes l.pos ++ beBytes 1 l.area
  | none => zeroBytes 13

@[simp] theorem length_locationBytes (x : Option Loc) : (locationBytes x).length = 13 := by
  cases x <;> simp [locationBytes]

theorem location_readsBack {x : Option Loc} (h : x.all Loc.wf = true) (r : List Byte) :
    (if x.isSome = true then some (Loc.mk (posAt (locationBytes x ++ r) 0) (fieldU (locationBytes x ++ r) 12 1))
      else none) = x := by
  cases x with
  | none => rfl
  | some l =>
    simp only [Option.all_some, Loc.wf, Bool.and_eq_true] at h
    simp [locationBytes, fieldU_past, fieldU_beBytes, posAt_posBytes, h]

theorem landingOf_payload {a : LandingArgs} (h : a.wf = true) : landingOf (landingPayload a) = a := by
  have hloc := location_readsBack (x := a.location) h []
  have hform : landingPayload a = flagsByte [a.aboard, a.location.isSome] ++ (locationBytes a.location ++ []) := by
    rw [List.append_nil]
    rfl
  rw [hform, landingOf]
  simp only [flagAt_two, posAt_past, fieldU_past, length_flagsByte, Nat.reduceLeDiff, le_refl, Nat.sub_self,
    Nat.reduceSub, hloc]

theorem requestLiftOf_payload {a : RequestLiftArgs} (h : a.wf = true) : requestLiftOf (requestLiftPayload a) = a := by
  obtain ⟨lot, dir, worst, landing, tandem⟩ := a
  simp only [RequestLiftArgs.wf, Bool.and_eq_true] at h
  obtain ⟨⟨⟨⟨hlot, hdir⟩, hworst⟩, hland⟩, htandem⟩ := h
  have hform (x : Option TandemArgs) : requestLiftPayload ⟨lot, dir, worst, landing, x⟩ =
      beBytes 2 lot ++ beBytes 1 dir ++ flagsByte [landing.isSome, x.isSome] ++ posBytes worst ++ locationBytes landing
        ++ (match x with | some t => beBytes 1 t.other ++ beBytes 4 t.share | none => zeroBytes 5) := rfl
  cases tandem with
  | none =>
    simp [requestLiftOf, hform, fieldU_past, posAt_past, flagAt_past, flagAt_two, fieldU_beBytes, posAt_posBytes, hlot,
      hdir, hworst, location_readsBack hland]
  | some t =>
    simp only [Option.all_some, TandemArgs.wf, Bool.and_eq_true] at htandem
    simp [requestLiftOf, hform, fieldU_past, posAt_past, flagAt_past, flagAt_two, fieldU_beBytes, fieldU_beBytes_last,
      posAt_posBytes, hlot, hdir, hworst, location_readsBack hland, htandem]

theorem decode_encode_setTankTarget {t : Nat} {g : Option Target} (ht : fitsU 1 t = true)
    (hg : g.all Target.wf = true) :
    Request.decode 0x1D#8 (Request.encode (.setTankTarget t g)) = some (.setTankTarget t g) := by
  cases g with
  | none =>
    simp [Request.decode, fixedLen, Request.encode, flagAt_past, flagAt_one, fieldU_beBytes, ht]
  | some g =>
    simp only [Option.all_some, Target.wf, Bool.and_eq_true] at hg
    simp [Request.decode, fixedLen, Request.encode, fieldU_past, flagAt_past, flagAt_one, fieldU_beBytes,
      fieldU_beBytes_last, ht, hg]

theorem length_planLotPayload (a : PlanLotArgs) : (planLotPayload a).length = 24 := by
  obtain ⟨_, _, _, foot⟩ := a
  cases foot <;> simp [planLotPayload]

theorem length_placeLotPayload (a : PlaceLotArgs) : (placeLotPayload a).length = 24 := by
  obtain ⟨_, _, _, foot⟩ := a
  cases foot <;> simp [placeLotPayload]

theorem length_landingPayload (a : LandingArgs) : (landingPayload a).length = 14 := by
  obtain ⟨_, x⟩ := a
  cases x <;> simp [landingPayload]

theorem length_requestLiftPayload (a : RequestLiftArgs) : (requestLiftPayload a).length = 34 := by
  obtain ⟨_, _, _, x, t⟩ := a
  cases x <;> cases t <;> simp [requestLiftPayload]

/-! ### Every request (R188, R190) -/

/-- R188, R190: the form check reads a well-formed request back from its payload. -/
theorem decode_encode {r : Request} (h : r.wf = true) : Request.decode r.kind r.encode = some r := by
  cases r
  case planLot a =>
    simp [Request.decode, Request.kind, Request.encode, fixedLen, length_planLotPayload, planLotOf_payload h]
  case placeLot a =>
    simp [Request.decode, Request.kind, Request.encode, fixedLen, length_placeLotPayload, placeLotOf_payload h]
  case requestLift a =>
    simp [Request.decode, Request.kind, Request.encode, fixedLen, length_requestLiftPayload, requestLiftOf_payload h]
  case landingReport a =>
    simp [Request.decode, Request.kind, Request.encode, fixedLen, length_landingPayload, landingOf_payload h]
  case setTankTarget t g =>
    obtain ⟨ht, hg⟩ := Bool.and_eq_true_iff.mp h
    exact decode_encode_setTankTarget ht hg
  case addMoves p => exact if_pos (of_decide_eq_true h).1
  case tankReport p => exact if_pos (of_decide_eq_true h).1
  case writeShipData b i e =>
    simp only [Request.wf, Bool.and_eq_true] at h
    obtain ⟨⟨hb, hi⟩, _⟩ := h
    have hlen : 2 ≤ (Request.encode (.writeShipData b i e)).length := by simp [Request.encode]; omega
    have hdecode (p : List Byte) (hp : 2 ≤ p.length) :
        Request.decode 0x02#8 p = some (.writeShipData (fieldU p 0 1) (fieldU p 1 1) (p.drop 2)) := if_pos hp
    refine (hdecode _ hlen).trans ?_
    simp [Request.encode, fieldU_past, fieldU_beBytes, drop_past, hb, hi]
  case writeImagePage p d =>
    simp only [Request.wf, Bool.and_eq_true, decide_eq_true_eq] at h
    obtain ⟨hp, hd⟩ := h
    simp [Request.decode, Request.kind, Request.encode, fixedLen, Config.pageBytes, fieldU_beBytes, hp, hd]
  all_goals
    simp only [Request.wf, Bool.and_eq_true] at h
    simp [Request.decode, Request.kind, Request.encode, fixedLen, fieldU_past, fieldU_beBytes, fieldU_beBytes_last,
      posAt_past, posAt_posBytes_last, h]

/-! ### The frame of a request taken (R178, R179) -/

/-- Settles O13: at the head of the queue the frame is decoded as its request (`decode_encode`), whose body runs as it
does for the command; and no body lets a frame into the queue (`takenAs_linksKept`). -/
theorem takenFrameRunsItsRequest : Obligations.TakenFrameRunsItsRequest := by
  intro i s l tag r hi hw hp hc hu hq
  have hleft : (s.onLink l (fun u => { u with inbound := [Request.frame tag r] })).onLink l
      (fun u => { u with inbound := [] }) = s := by
    rw [onLink_onLink]
    refine onLink_id ?_
    rw [← hq]
  have hframe : exec (.takeFrame l) (s.onLink l (fun u => { u with inbound := [Request.frame tag r] })) =
      .next (takenAs l r.kind tag (some r) (bodyOf l) s) := by
    rw [exec_takeFrame_head (by exact hp) (canTake_iff.mpr (by simpa using canTake_iff.mp hc))
      (by rw [onLink_get_self]), hleft]
    exact congrArg (fun d => Host.Outcome.next (takenAs l r.kind tag d (bodyOf l) s)) (decode_encode hw)
  have hcommand : exec i s = .next (takenAs l r.kind tag (some r) (bodyOf l) s) := by
    rw [exec_request hi]
    simp [command, hp, hu, hc, hq, takenAs, admitOrRefuse]
  refine ⟨hframe.trans hcommand.symm, _, hframe, ?_⟩
  have hkept := (takenAs_linksKept 0 (Bool.and_eq_true_iff.mp hc).2 r.kind tag (some r)) l
  exact List.length_eq_zero_iff.mp (Nat.le_zero.mp (hkept.inbound (by simp [hq])))

end Sys2Proof.Machine
end
